-- ==== Sys2Proof/Word.lean ====
section
/-! DEFINITION. The words of the model: a byte, a string of bytes, and a sparse array as plain data. -/

namespace Sys2Proof

/-- A byte, as host memory, frames and buffers hold it. -/
abbrev Byte := BitVec 8

/-- A string of bytes, the first byte first. -/
abbrev Bytes := List Byte

/-- A sparse array: the entries that differ from what an unlisted index reads as, in rising order of index. -/
abbrev SMap (α : Type) := List (Nat × α)

end Sys2Proof
end

