-- ==== Sys2Proof/Syntax.lean ====
section
/-! DEFINITION. The commands and events of the module: one constructor per row of spec/opcode_table.json, with the
operands the row's chapter gives it. A constructor that stands for a command of the transaction model carries the number
`g` of the graph instance whose running node does its work. -/

namespace Sys2Proof

/-- What an MKPDU says (IEEE 802.1X-2020): the sender's member identifier, message number, key server priority and SCI; the members it
lists with the message number it last heard of each; the SAK it distributes (AN, key number, wrapped SAK); and its latest key in use
(key number, AN, whether it receives with it). -/
structure Mkpdu where
  mi : Bytes
  mn : Nat
  prio : Nat
  sci : Bytes
  peers : List (Bytes × Nat) := []
  dist : Option (Nat × Nat × Bytes) := none
  use : Option (Nat × Nat × Bool) := none
deriving DecidableEq, Repr


/-- A node of a template (R208): role code, mask of predecessors, SHORT mark, and the marks of the optional units it uses: Furrow and the
post-quantum microcode. -/
structure TNode where
  role : Nat
  preds : Nat := 0
  short : Bool := false
  furrow : Bool := false
  pqc : Bool := false
deriving DecidableEq, Repr

/-- A template record (R208). -/
structure Template where
  id : Nat
  opcode : Nat
  isDefault : Bool := true
  nodes : List TNode
  deadline : Nat
  maxPrio : Nat := 7
  tenant : Bool := true
  steward : Bool := true
  quorum : Option Nat := none
  inMin : Nat := 0
  inMax : Nat := 0
  outMin : Nat := 0
  outMax : Nat := 0xFFFFFF
deriving DecidableEq, Repr

/-- The units of a cell that run redundantly (R256, R278, R283). -/
inductive CellUnit | bignum | lane | digest
deriving DecidableEq, Repr

/-- A check of a bale slot that the hub digest engines carry (R285): the signer's hash, the signature, the section digests. -/
inductive HubCheck | signer | signature | sections
deriving DecidableEq, Repr

/-- A reader of random numbers (R330): a node of a graph, a queue whose flagged descriptor needs a nonce, Drover, or the hub
program. -/
inductive Reader | node (g : Nat) | queue (qid : Nat) | drover | hub
deriving DecidableEq, Repr

/-- A narrowing of the policy tables (R229, R233, R234, R237, R238, R247, R250, R266, R316). -/
inductive Narrow
  /-- The least PIN length (R233). -/
  | pinMin (n : Nat)
  /-- A translation refused (R234). -/
  | noPair (i o : Nat)
  /-- A decimalisation table registered (R237). -/
  | dectab (t : Bytes)
  /-- The least MAC length (R238). -/
  | macMin (n : Nat)
  /-- A usage that may not be imported (R247). -/
  | noImport (usage : Bytes)
  /-- A usage that may not be exported (R250). -/
  | noExport (usage : Bytes)
  /-- The least RSA modulus (R266). -/
  | rsaMin (bits : Nat)
  /-- No PKCS #1 v1.5 for signing (R266). -/
  | noPkcs
  /-- The least hash code (R266). -/
  | hashMin (code : Nat)
  /-- A set code refused (R266). -/
  | noSet (set : Nat)
  /-- An exportability refused to new private keys (R266). -/
  | noNewExport (letter : Nat)
  /-- The largest check value length is 3 (R316). -/
  | kcvMax3
  /-- IDE is required before any queue fetches (R127). -/
  | ideRequired
deriving DecidableEq, Repr

/-- A policy entry: the allotment it narrows (2,048 the steward), or the whole module. -/
structure Policy where
  allot : Option Nat := none
  what : Narrow
deriving DecidableEq, Repr

/-- A region of a Hedgerow rule set (R394, R401): base and limit addresses in bytes, both multiples of 64, the last granule included;
permissions (bit 0 R, 1 W, 2 X), master bits, worlds (bit 0 tenant, 1 steward) and attributes (bit 0 DEVICE, 1 RELAXED,
2 CACHEABLE). -/
structure Region where
  base : Nat
  limit : Nat
  perm : Nat
  masters : Nat
  world : Nat
  attr : Nat
deriving DecidableEq, Repr

/-- What Thatch finds when it reads a line (R384, R388): nothing; a correctable error in the data line, its MAC line, or one copy
of a node of a level (0 a counter block); an uncorrectable error in one of these, or in both copies of a node; an attack; a
disagreement of the two copies of the engine. -/
inductive Finding
  | clean | ceLine | ceMacLine | ceNode (level : Nat) (copyB : Bool)
  | ueLine | ueMacLine | ueNodeOne (level : Nat) (copyB : Bool) | ueNodeBoth (level : Nat)
  | attack | copies
deriving DecidableEq, Repr

/-- What a Stile access reaches (R101, R102): one of the three reads, what a scope opens, a locked region, or anything else. -/
inductive StileTarget
  | idcode | identity | nonce | hub | cell (c : Nat) | mbist | furrow | region (code : Nat) | other
deriving DecidableEq, Repr

/-- The memory test modes (R88), with what the test does once its mode is open: a march that restores each word or one that does not, and
the address it fails at; a direct access to a line of an array, with what it writes; the programming of a repair. -/
inductive TestMode
  | bist (fail : Option Nat)
  | destructive (fail : Option Nat)
  | direct (line : Nat) (write : Option Nat)
  | repair (row : Nat)
deriving DecidableEq, Repr

/-- The memory a test mode is entered for (R88): a DRAM stack, 0 east and 1 west, the SRAM of a cell, the root store, any other. -/
inductive TestMem | dram (stack : Nat) | sram (cell : Nat) | rootStore | other
deriving DecidableEq, Repr

/-- The evidence of a module (R437): identity, attestation public key, life-cycle state, measurement blocks and nonce. -/
structure CmnEvidence where
  uid : Bytes
  pk : Bytes
  state : Nat
  meas : Bytes
  nonce : Bytes
deriving DecidableEq, Repr

/-- The body of an invitation (R437): Commons ID, the candidate's index, the roster generation, and the sponsor's index, to which the join
request is addressed (log 45). -/
structure CmnInvite where
  cid : Bytes
  index : Nat
  gen : Nat
  sponsor : Nat
deriving DecidableEq, Repr

/-- What a message of the Commons says (R437 to R443). -/
inductive CmnMsg
  /-- The initiator's handshake message (R439). -/
  | hello (uid pk ek nonce sig : Bytes)
  /-- The responder's handshake message (R439). -/
  | reply (uid pk ct nonce sig : Bytes)
  | heartbeat
  /-- A candidate's join request (R437). -/
  | join
  /-- A roster change on its way to the keeper (R438): the index and its new entry. -/
  | change (index : Nat) (entry : Bytes)
  /-- A roster update (R438): generation, the keeper that made it, the change, the new digest. -/
  | update (gen keeper index : Nat) (entry digest : Bytes)
  | request
  /-- The whole roster (R438), sent in segments. -/
  | roster (gen : Nat) (image : Bytes)
  /-- A master with its MASTER_ID, its generation and the allotment it served (R442). -/
  | replica (allot gen : Nat) (id key : Bytes)
  /-- A generation notice (R442). -/
  | notice (id : Bytes) (gen : Nat)
  /-- A bind acknowledgement (R442). -/
  | bound (id : Bytes)
deriving DecidableEq, Repr

/-- What the sections of a bale configure, as the module reads them (R72, R74); the spec gives the sections no layout of their own (log 6).
`regs` gives register fields their bale values, by field key; `subsys` is the Subsystem ID above the Subsystem Vendor ID; `mkaPrio` is the
priority it gives MKA (R24); `hedge` gives the Hedgerow rule sets, of a cell role and world at 2 × role + world and of units 256 to 258 at 1,000
+ unit (R396). -/
structure BaleContent where
  templates : List Template := []
  roleMap : List Nat := []
  regs : List (Nat × Nat) := []
  rates : List (Nat × Nat × Nat) := []
  stileKeys : List Bytes := []
  custodians : List (Nat × Nat × Bytes) := []
  classes : List (Nat × Nat × Nat) := []
  loops : Nat := 0
  policy : List Policy := []
  subsys : Nat := 0
  mkaPrio : Nat := 0
  hedge : List (Nat × List Region) := []
deriving DecidableEq, Repr, Inhabited


/-- The commands and events (spec/opcode_table.json). -/
inductive Instr
  /-- REGISTER_WRITE (R10): A BAR0 write to a register or field that has no row of its own sets the field according to its access type, or is discarded for reserved space. -/
  | registerWrite (off : Nat) (be : Nat) (val : Nat)
  /-- RC_READ (R10): A read of an RC field returns the current value and then clears the field, including FIFO-entry and counter reads. -/
  | rcRead (bar2 : Bool) (off : Nat) (n : Nat)
  /-- LATCHED_READ (R200): A read of a low dword latches the upper bits for the next read of the high dword; for octet counters it also clears the count. -/
  | latchedRead (bar2 : Bool) (off : Nat) (n : Nat)
  /-- ABSENT_UNIT_ACCESS (R3): A read or write to the register window of an absent unit reads zero, discards the write and increments HIF_ABSENT_HITS. -/
  | absentUnitAccess (off : Nat) (write : Bool)
  /-- CHANNEL_REFUSED (R17): A channel whose receiving island is powered off or in restart refuses the request, and the sender sees the refusal. -/
  | channelRefused (sender : Nat) (meadow : Nat)
  /-- VIN_VALID (R54): VIN has stayed above the turn-on threshold for 10 ms, so the start sequence begins at step 1 and the rails come up. -/
  | vinValid
  /-- ROM_START (R72): Once REFCLK_25 is accepted, the hub core runs mask ROM: it decodes the life-cycle state, commits the Peat buffer, then reads and checks the bale header, signature and sections. -/
  | romStart (kat : Bool) (bad : List Nat) (mis : List (Nat × HubCheck))
  /-- ENTROPY_READY (R329): Skylark start-up tests pass and the instances are instantiated, so step 7 ends and steps 8 to 10 (Thatch keys, root store, Furrow configuration) proceed. -/
  | entropyReady (ref156 : Bool)
  /-- START_HELD (R78): No die has four passing sources 500 ms into step 7, so the start is held and START_HELD is set. -/
  | startHeld
  /-- KAT_RETRY (R329): A failed known-answer test of the expander is repeated every 100 ms while the start is held. -/
  | katRetry (ok : Bool)
  /-- FULL_SERVICE (R72): Cells pass self-test and enter service in the bale's role map, Drover accepts work and READY is released at step 12. -/
  | fullService (failed : List Nat)
  /-- PCIE_ENDPOINT_READY (R72): After PERST_N release and the first stop point, the endpoint stops answering configuration requests with Request Retry Status. -/
  | pcieEndpointReady
  /-- PCIE_CONFIG_REQUEST (R107): A configuration request is answered with Request Retry Status before step 11 and normally afterwards. -/
  | pcieConfigRequest (write : Bool) (off : Nat) (val : Nat)
  /-- PERST_ASSERT (R26): A PERST_N assertion resets HIF and tears down every queue; graphs bound to host memory end with their completions discarded, and SPDM sessions and IDE streams end. -/
  | perstAssert
  /-- PERST_RELEASE (R79): On PERST_N release HIF restarts and is ready within 100 ms when the module is past step 12. -/
  | perstRelease
  /-- FUNCTION_LEVEL_RESET (R107): A Function Level Reset acts on HIF as a PERST_N assertion does. -/
  | functionLevelReset
  /-- D3HOT_ENTRY (R107): Entry to D3hot stops descriptor fetch on every queue. -/
  | d3hotEntry
  /-- D3HOT_TO_D0 (R107): A D3hot-to-D0 transition tears down the queues and acts on HIF as a PERST_N assertion does. -/
  | d3hotToD0
  /-- RESET_ASSERT (R39): RESET_N held low for at least 1 µs stops every island except the Peat domain; the assertion is deferred while a fuse write is in progress. -/
  | resetAssert
  /-- RESET_RELEASE (R39): After RESET_N is released, the module starts again from step 3. -/
  | resetRelease
  /-- VIN_LOSS (R61): VIN falls through the lower threshold, and the power-down sequence runs: READY low, islands off, fuse write completed, Cairn flush, then the Peat domain moves to VBAK. -/
  | vinLoss (blocks : Nat)
  /-- VIN_OVERVOLTAGE (R53): VIN above the over-voltage shutdown threshold for more than 1 ms is treated as VIN loss. -/
  | vinOvervoltage (blocks : Nat)
  /-- VIN_BREAK (R60): An excursion of VIN below 16.0 V or below SAG_THRESH + 0.5 V for 2 µs or more returns the corresponding stability counter to 0. -/
  | vinBreak (above16 : Bool) (stab : Bool)
  /-- OPERATING_TIME_TICK (R421): Each 1 ms operating-time tick advances Cairn's operating time and raises ABOVE16_MS and STABLE_MS where no break occurred. -/
  | operatingTimeTick (vin : Nat) (pin : Nat) (vbak : Nat) (low16 : Bool) (lowStab : Bool)
  /-- HOLDUP_CHARGED (R60): The hold-up store reaches 5.20 J and CHARGED is set. -/
  | holdupCharged
  /-- HOLDUP_DISCHARGED (R60): The hold-up store falls below 5.00 J and CHARGED clears. -/
  | holdupDischarged (energy : Nat)
  /-- POWER_CAP_SET (R58): VIN below the power-cap threshold for 2 µs sets the cap, and each meadow at P0 steps down. -/
  | powerCapSet
  /-- POWER_CAP_CLEAR (R58): VIN above the power-cap release level for 100 ms clears the cap, and meadows return to their requested levels. -/
  | powerCapClear
  /-- SAG_DETECT (R59): VIN below SAG_THRESH for 2 µs sets SAG_ACTIVE, and every meadow takes one step down. -/
  | sagDetect
  /-- SAG_END (R59): VIN at or above SAG_THRESH + 0.5 V for 1 ms clears SAG_ACTIVE, and meadows step back up. -/
  | sagEnd
  /-- LEVEL_STEP_COMPLETE (R57): One step of an effective-level change completes its clock and supply change, and the next step starts if one is due. -/
  | levelStepComplete (m : Nat)
  /-- PWR_REQ_LEVEL_WRITE (R56): A write of REQ_LEVEL recomputes the meadow's effective level, or holds it until the meadow is next ACTIVE. -/
  | pwrReqLevelWrite (m : Nat) (level : Nat)
  /-- PWR_SAG_CFG_WRITE (R59): A write of SAG_THRESH outside 9.5 to 56.0 V is refused with CFG_REFUSED; otherwise the new threshold applies. -/
  | pwrSagCfgWrite (val : Nat)
  /-- DROOP_STRETCH_BEGIN (R69): An island's rail crosses a drop threshold, and its clock is stretched. -/
  | droopStretchBegin (island : Nat) (pct : Nat)
  /-- DROOP_STRETCH_END (R69): The rail has stayed above the threshold for 1 µs, and the stretch ends. -/
  | droopStretchEnd (island : Nat) (pct : Nat)
  /-- S1_ENTRY (R63): A clump idle for S1_IDLE cycles enters S1 and its clock is gated. -/
  | s1Entry (clump : Nat)
  /-- S1_WAKE (R66): A first access to a clump in S1 wakes it within 40 ns, and the requester proceeds. -/
  | s1Wake (clump : Nat)
  /-- ENTER_S2 (R64): The ENTER_S2 command starts S2 entry, acting per meadow state as R68 gives. -/
  | enterS2 (m : Nat)
  /-- S2_IDLE_ENTRY (R64): A meadow whose cells have held no work for S2_IDLE_US µs begins S2 entry by itself. -/
  | s2IdleEntry (m : Nat)
  /-- S2_ENTRY_COMPLETE (R64): After the last node ends and the cells clear, the save list is written and cell logic is powered off; a held wake then starts. -/
  | s2EntryComplete (m : Nat)
  /-- ENTER_S3 (R65): The ENTER_S3 command begins S3 entry if every cell is Fallow, and is refused otherwise. -/
  | enterS3 (m : Nat)
  /-- S3_ENTRY_COMPLETE (R65): The save list is written and the whole meadow is powered off; a held wake then starts. -/
  | s3EntryComplete (m : Nat)
  /-- WAKE (R65): The WAKE command begins a wake from S2 or S3, or is held or refused as R68 gives. -/
  | wakeCmd (m : Nat)
  /-- S3_WAKE_COMPLETE (R65): Power-up, reload and restore of the save list complete, and the meadow is ACTIVE with every cell Fallow with cause STEWARD. -/
  | s3WakeComplete (m : Nat) (misread : Option Nat)
  /-- S2_WAKE (R66): A node placement or BAR0 access wakes an S2 meadow, and the requester stalls. -/
  | s2Wake (m : Nat)
  /-- S2_WAKE_COMPLETE (R67): The save list is restored and checked; on an integrity failure SAVE_FAULT is set and the wake proceeds as from S3. -/
  | s2WakeComplete (m : Nat) (ok : Bool)
  /-- S3_ACCESS (R66): A BAR0 access to a meadow in S3 returns saved values or zero, discards writes and increments PWR_S3_HITS. -/
  | s3Access (off : Nat) (write : Bool)
  /-- BALE_OPEN (R80): The OPEN command increments the slot's write count and starts the erase, or is refused. -/
  | baleOpen
  /-- BALE_ERASE_COMPLETE (R80): The erase of slot offsets 0x0000_0000 to 0x02FF_FFFF ends and the stage state becomes OPEN. -/
  | baleEraseComplete (ok : Bool)
  /-- BALE_APERTURE_WRITE (R80): A write to the staging aperture stores data, or is discarded while the stage state is BUSY. -/
  | baleApertureWrite (off : Nat) (val : Nat)
  /-- BALE_WRITE (R80): The WRITE command programs the aperture into the chunk INDEX names, or is refused with BAD_CHUNK or BAD_STATE. -/
  | baleWrite
  /-- BALE_CHUNK_PROGRAMMED (R80): Programming of a 64 KiB chunk completes. -/
  | baleChunkProgrammed (ok : Bool)
  /-- BALE_CLOSE (R80): The CLOSE command starts the check of the staged bale. -/
  | baleClose
  /-- BALE_CLOSE_CHECK_COMPLETE (R80): The staged-bale check ends in VERIFIED or FAILED with a result code. -/
  | baleCloseCheckComplete (mis : List HubCheck)
  /-- BALE_ADOPT (R83): ADOPT blows a selector bit if needed, updates the bale record, loads the second template bank and starts the overlap timer. -/
  | baleAdopt
  /-- BALE_ABORT (R80): The ABORT command stops the staging, after any erase or program finishes its current sector. -/
  | baleAbort
  /-- BALE_ABORT_COMPLETE (R80): The sector in progress completes and the stage state becomes ABORTED. -/
  | baleAbortComplete
  /-- OVERLAP_TIMER_EXPIRE (R84): The overlap timer expires, and the module restarts each meadow still on the older epoch, one at a time. -/
  | overlapTimerExpire
  /-- ENTER_TEST (R94): LCS_CTL command ENTER_TEST starts the Blank-to-Test transition on T1, or is refused. -/
  | enterTest
  /-- ENTER_EOL (R94): LCS_CTL command ENTER_EOL starts the Blank-to-End-of-Life transition on T1. -/
  | enterEol
  /-- PROGRAM_SIGNER (R92): PROGRAM_SIGNER programs a signer slot's hash fuse, or is refused. -/
  | programSigner
  /-- NEW_NONCE (R93): NEW_NONCE replaces the life-cycle nonce with a fresh value from Skylark. -/
  | newNonce
  /-- LC_TRANSITION (R96): Command 0x0180 verifies its quorum and runs the check, intent, target and commit rows of a life-cycle transition. -/
  | lcTransition (g : Nat)
  /-- STILE_AUTHORISE (R101): Command 0x0181 verifies a Stile token under quorum and opens its scope for its duration. -/
  | stileAuthorise (g : Nat)
  /-- SIGNER_REVOKE (R92): Command 0x0182 blows a signer slot's revocation fuse under quorum, or is refused. -/
  | signerRevoke (g : Nat)
  /-- FUSE_WRITE_COMPLETE (R96): A fuse row write and its read-back complete; the next row starts, or FUSE_FAIL is set on a second failure, and a deferred reset takes effect. -/
  | fuseWriteComplete (ok : Bool)
  /-- EOL_PENDING_WRITE (R98): With EOL_PENDING set, the End of Life triple is written with no quorum at the first moment LC_POWER_OK is 1. -/
  | eolPendingWrite
  /-- STILE_ACCESS (R102): A Stile access is served or, for a locked region, ends with an error and increments STL_LOCK_HITS and a Gorse Note. -/
  | stileAccess (target : StileTarget) (write : Bool)
  /-- STL_REVOKE (R101): A write of STL_CTL.REVOKE ends the Stile authorisation. -/
  | stlRevoke
  /-- STILE_EXPIRY (R101): The token's duration passes in operating time, and the authorisation ends. -/
  | stileExpiry
  /-- MEMORY_TEST_ENTRY (R88): A Stile request to enter a memory test mode opens it, runs a Swale-W first in Test, or is locked in Production. -/
  | memoryTestEntry (mode : TestMode) (mem : TestMem)
  /-- SQ_TAIL_WRITE (R115): A write of HIF_DB_SQ_TAIL is judged against the head and the old tail, and accepted or raises a queue error. -/
  | sqTailWrite (qid : Nat) (tail : Nat)
  /-- CQ_HEAD_WRITE (R116): A write of HIF_DB_CQ_HEAD releases completion entries, or raises HEAD_RANGE. -/
  | cqHeadWrite (qid : Nat) (head : Nat)
  /-- BAR2_STRAY_WRITE (R114): A write to the doorbell page of a queue that is not enabled is discarded and increments HIF_BAR2_STRAY. -/
  | bar2StrayWrite (qid : Nat) (off : Nat)
  /-- DESCRIPTOR_FETCH (R117): A round-robin HIF visit to a queue with fetchable work issues a read of up to eight descriptors. -/
  | descriptorFetch
  /-- DESCRIPTOR_ARRIVAL (R205): Fetched descriptors arrive, and each passes or fails admission checks 1 to 6; a failure completes it within 2 µs. -/
  | descriptorArrival (qid : Nat) (data : Option Bytes) (input : Option Bytes)
  /-- GRAPH_ACCEPT (R205): Drover accepts a waiting descriptor once back-pressure and quota allow, instantiates its graph and sets its deadline timer. -/
  | graphAccept (qid : Nat)
  /-- NODE_DISPATCH (R178): The dispatch agent moves a ready node into an empty work slot of a cell of its role and epochs. -/
  | nodeDispatch (die : Nat) (role : Nat)
  /-- HOST_BUFFER_READ_COMPLETE (R120): An input buffer read returns to the node, or fails and ends the command with HOST_ACCESS_FAULT. -/
  | hostBufferReadComplete (g : Nat) (data : Option Bytes)
  /-- KEY_RESOLVE (R299): Barrow completes a handle resolution from a hot cache, the DRAM cache or the root store, with its status. -/
  | keyResolve (g : Nat) (pos : Nat)
  /-- OPERAND_TRANSFER (R177): An operand arrives at a cell from another cell, with a copy in the operand store. -/
  | operandTransfer (g : Nat) (src : Nat) (dst : Nat) (data : Bytes)
  /-- YIELD_POINT (R181): A long operation reaches a yield point or segment boundary, where copies are compared and a higher-priority or short node may run. -/
  | yieldPoint (cell : Nat) (mismatch : Option CellUnit)
  /-- NODE_COMPLETE (R213): A node completes with a status; successors become ready or the graph ends. -/
  | nodeComplete (g : Nat) (n : Nat) (fault : Option CellUnit)
  /-- DEADLINE_EXPIRE (R184): A graph's list-0 timer falls due; its nodes are removed or aborted and it ends with DEADLINE_PASSED or QUIESCED. -/
  | deadlineExpire (g : Nat)
  /-- AGEING_TIMER (R179): A node that has waited AGE_US µs at its level moves to the tail of the next higher level. -/
  | ageingTimer (die : Nat) (role : Nat)
  /-- ATS_INVALIDATION (R108): An ATS invalidation request is answered within 50 µs, after every request that used the translation has been issued. -/
  | atsInvalidation (tag : Nat) (pasid : Option Nat) (page : Nat) (count : Nat) (deny : Bool)
  /-- MSIX_UNMASK (R121): Unmasking a vector or the function sends one message for a pending bit. -/
  | msixUnmask (vector : Nat)
  /-- COALESCE_TIMER_EXPIRE (R139): COAL_US µs after the first unsignalled completion, the queue sends its message. -/
  | coalesceTimerExpire (qid : Nat)
  /-- LINK_CHANGE (R105): The PCIe link speed or width changes, and LINK_DEGRADED, LINK_CHANGE and Cairn event 0x2005 follow. -/
  | linkChange (speed : Nat) (width : Nat) (flit : Bool)
  /-- SPDM_GET_VERSION (R122): The DOE responder answers GET_VERSION. -/
  | spdmGetVersion (mctp : Bool) (req : Bytes)
  /-- SPDM_GET_CAPABILITIES (R122): The responder answers GET_CAPABILITIES. -/
  | spdmGetCapabilities (mctp : Bool) (req : Bytes) (minor : Nat)
  /-- SPDM_NEGOTIATE_ALGORITHMS (R122): The responder negotiates algorithms, or replies Busy before step 9. -/
  | spdmNegotiateAlgorithms (mctp : Bool) (req : Bytes) (ext : Bool) (base : Bool) (hash : Bool) (measHash : Bool) (dhe : Bool) (aead : Bool)
  /-- SPDM_GET_DIGESTS (R123): The responder returns the digests of certificate slots 0 and 1. -/
  | spdmGetDigests (mctp : Bool) (req : Bytes)
  /-- SPDM_GET_CERTIFICATE (R123): The responder returns a certificate chain of slot 0 or 1. -/
  | spdmGetCertificate (mctp : Bool) (req : Bytes) (slot : Nat) (off : Nat) (len : Nat)
  /-- SPDM_CHALLENGE (R125): The responder signs a challenge response within 10 ms (ExtAsym) or 1 ms. -/
  | spdmChallenge (mctp : Bool) (req : Bytes) (slot : Nat)
  /-- SPDM_GET_MEASUREMENTS (R124): The responder returns the measurement blocks. -/
  | spdmGetMeasurements (mctp : Bool) (req : Bytes) (index : Nat) (signed : Bool)
  /-- SPDM_KEY_EXCHANGE (R122): The responder opens a session, or replies SessionLimitExceeded at the fifth. -/
  | spdmKeyExchange (mctp : Bool) (req : Bytes) (slot : Nat) (peer : Bytes)
  /-- SPDM_FINISH (R122): The responder completes the session handshake. -/
  | spdmFinish (mctp : Bool) (req : Bytes) (sid : Nat) (ok : Bool)
  /-- SPDM_HEARTBEAT (R122): The responder answers a session heartbeat. -/
  | spdmHeartbeat (mctp : Bool) (req : Bytes) (sid : Nat)
  /-- SPDM_KEY_UPDATE (R122): The responder updates the session keys. -/
  | spdmKeyUpdate (mctp : Bool) (req : Bytes) (sid : Nat)
  /-- SPDM_END_SESSION (R122): The responder ends a session. -/
  | spdmEndSession (mctp : Bool) (req : Bytes) (sid : Nat)
  /-- SPDM_CHUNK_SEND (R122): The responder accepts a chunk of a large request. -/
  | spdmChunkSend (mctp : Bool) (last : Bool) (data : Bytes)
  /-- SPDM_CHUNK_GET (R122): The responder returns a chunk of a large response. -/
  | spdmChunkGet (mctp : Bool) (seq : Nat)
  /-- SPDM_UNSUPPORTED_REQUEST (R122): A request the responder does not support receives ERROR UnsupportedRequest. -/
  | spdmUnsupportedRequest (mctp : Bool) (req : Bytes)
  /-- IDE_KM_QUERY (R126): IDE_KM QUERY reports the supported streams. -/
  | ideKmQuery (req : Bytes) (sid : Nat)
  /-- IDE_KM_KEY_PROG (R126): KEY_PROG decrypts a key inside the session and places it in a Barrow slot with IDE usage. -/
  | ideKmKeyProg (req : Bytes) (sid : Nat) (stream : Nat) (sub : Nat) (kset : Nat)
  /-- IDE_KM_K_SET_GO (R126): K_SET_GO switches a sub-stream to the named key set at the next TLP boundary, and fetch resumes if the stream becomes Secure. -/
  | ideKmKSetGo (req : Bytes) (sid : Nat) (stream : Nat) (sub : Nat) (kset : Nat)
  /-- IDE_KM_K_SET_STOP (R126): K_SET_STOP clears the key set from Barrow. -/
  | ideKmKSetStop (req : Bytes) (sid : Nat) (stream : Nat) (sub : Nat) (kset : Nat)
  /-- IDE_INTEGRITY_FAILURE (R127): An IDE stream becomes Insecure; its traffic drops, fetch stops on the queues it carries and affected commands end. -/
  | ideIntegrityFailure (stream : Nat)
  /-- MCTP_SET_ENDPOINT_ID (R128): The SMBus MCTP endpoint handles Set Endpoint ID. -/
  | mctpSetEndpointId (eid : Nat)
  /-- MCTP_GET_ENDPOINT_ID (R128): The endpoint answers Get Endpoint ID. -/
  | mctpGetEndpointId
  /-- MCTP_GET_VERSION_SUPPORT (R128): The endpoint answers Get MCTP Version Support. -/
  | mctpGetVersionSupport
  /-- MCTP_GET_MESSAGE_TYPE_SUPPORT (R128): The endpoint answers Get Message Type Support. -/
  | mctpGetMessageTypeSupport
  /-- GET_HEALTH (R128): The vendor message Get Health returns the status registers and the Gorse alarm summary. -/
  | getHealth
  /-- GET_INPUTS (R128): The vendor message Get Inputs returns PWR_INPUT and PWR_VBAK. -/
  | getInputs
  /-- SMB_ALERT_RESPONSE (R129): The module answers the Alert Response Address and releases SMB_ALERT_N. -/
  | smbAlertResponse
  /-- SMB_ALERT_REASSERT (R129): 1 s after release, SMB_ALERT_N is driven again if its condition persists. -/
  | smbAlertReassert
  /-- CREATE (R133): ALT_CTL command CREATE makes a FREE allotment ACTIVE after the PASID check, taking up a present master. -/
  | altCreate
  /-- QUIESCE (R135): ALT_CTL command QUIESCE stops fetch, refuses unstarted descriptors and lets graphs drain. -/
  | altQuiesce
  /-- QUIESCE_FENCE (R135): After the last graph ends, the writes, messages and log records are issued and the state becomes QUIESCED or ACTIVE. -/
  | quiesceFence (a : Nat)
  /-- RESUME (R136): ALT_CTL command RESUME reactivates a QUIESCED allotment, or is held for the end of a quiesce. -/
  | altResume
  /-- ALT_RESET (R147): ALT_CTL command RESET disables and zeroes queues, empties the mailboxes and stops logging. -/
  | altReset
  /-- ALT_RESET_COMPLETE (R147): The reset completes within 10 µs, leaving the allotment ACTIVE. -/
  | altResetComplete (a : Nat)
  /-- REMOVE (R147): ALT_CTL command REMOVE resets the allotment, raises the master generation and invalidates the master. -/
  | altRemove
  /-- REMOVE_COMPLETE (R147): When Barrow's invalidation completes, the PASID is cleared and the allotment becomes FREE. -/
  | altRemoveComplete (a : Nat)
  /-- ALT_CONFIG_WRITE (R134): A write of ALT_PASID or ALT_CFG is accepted only in FREE or QUIESCED, with the PASID clash check. -/
  | altConfigWrite (off : Nat) (val : Nat)
  /-- QUEUE_CONFIG_WRITE (R137): A write of a queue configuration register is accepted only while the queue is DISABLED. -/
  | queueConfigWrite (off : Nat) (val : Nat)
  /-- QUEUE_ENABLE (R138): ALT_Q_CTL command ENABLE checks the configuration and enables the queue from its start positions. -/
  | queueEnable
  /-- QUEUE_DISABLE (R140): ALT_Q_CTL command DISABLE stops fetch and drains the queue. -/
  | queueDisable
  /-- QUEUE_RESET (R140): ALT_Q_CTL command RESET drains the queue if needed, then zeroes its positions and sets PHASE to 1. -/
  | queueReset
  /-- QUEUE_DRAIN_COMPLETE (R141): Within 50 µs of the last completion, the queue becomes DISABLED and a held ENABLE takes effect. -/
  | queueDrainComplete (qid : Nat)
  /-- TENANT_MBX_WRITE (R146): A tenant write to a mailbox page is stored, or discarded with an overrun while the page is full. -/
  | tenantMbxWrite (a : Nat) (off : Nat) (val : Nat)
  /-- TENANT_MBX_RING (R146): HIF_DB_MBX.RING sets T2S_FULL, sets the ALT_MBX_EVT bit and sends the steward mailbox vector. -/
  | tenantMbxRing (a : Nat)
  /-- STEWARD_MBX_ACK (R146): ALT_MBX_CTL.ACK clears the tenant-to-steward page and T2S_FULL. -/
  | stewardMbxAck
  /-- STEWARD_MBX_WRITE (R146): A steward write to the steward-to-tenant window is stored, or discarded with S2T_OVERRUN. -/
  | stewardMbxWrite (off : Nat) (val : Nat)
  /-- STEWARD_MBX_RING (R146): ALT_MBX_CTL.RING sets S2T_FULL and sends the allotment's mailbox vector. -/
  | stewardMbxRing
  /-- TENANT_MBX_ACK (R146): A tenant write of zero to the steward-to-tenant header clears the page and signals S2T_ACKED to the steward. -/
  | tenantMbxAck (a : Nat)
  /-- LOG_ENABLE (R150): Setting ALT_LOG_CFG.EN zeroes head and tail and starts dirty-page logging. -/
  | logEnable (val : Nat)
  /-- LOG_DISABLE (R150): Clearing EN flushes the record cache within 10 µs. -/
  | logDisable (val : Nat)
  /-- LOG_FLUSH_TIMER (R150): A dirty-log record open for FLUSH_US µs is written to the ring. -/
  | logFlushTimer (a : Nat)
  /-- LOG_HEAD_WRITE (R150): A write of ALT_LOG_HEAD releases records and lets held writes continue, or sets HEAD_ERR. -/
  | logHeadWrite (head : Nat)
  /-- CUS_LODGE (R161): Command 0x0F01 checks and stores an approval, or verifies a reject. -/
  | cusLodge (g : Nat)
  /-- CUS_CANCEL (R167): Command 0x0F02 frees a PENDING or REJECTED entry. -/
  | cusCancel (g : Nat)
  /-- CUS_ENROL (R164): Command 0x0F03 enrols a custodian key under quorum and the candidate's own approval. -/
  | cusEnrol (g : Nat)
  /-- CUS_REVOKE (R165): Command 0x0F04 revokes a custodian slot under quorum. -/
  | cusRevoke (g : Nat)
  /-- CUS_SET_CLASS (R166): Command 0x0F05 replaces a class's members and k, and rejects the entries of that class. -/
  | cusSetClass (g : Nat)
  /-- CUS_READ_SLOT (R169): Command 0x0F06 returns a slot's state, algorithm and key. -/
  | cusReadSlot (g : Nat)
  /-- APPROVAL_VERIFY_COMPLETE (R163): Verification of one stored approval completes; the graph is instantiated at k passes, or the entry returns to PENDING when approvals run out. -/
  | approvalVerifyComplete (e : Nat) (mis : Nat)
  /-- PENDING_ENTRY_EXPIRE (R159): A pending entry reaches PEND_MIN minutes of operating time and is freed. -/
  | pendingEntryExpire (e : Nat)
  /-- MEADOW_RESTART (R193): DRV_MDW_CTL command RESTART starts a drain toward restart, or a reload, per the meadow state. -/
  | meadowRestart (m : Nat)
  /-- MEADOW_FALLOW (R192): DRV_MDW_CTL command FALLOW drains the meadow toward FALLOW. -/
  | meadowFallow (m : Nat)
  /-- MEADOW_RETURN (R192): DRV_MDW_CTL command RETURN self-tests a FALLOW meadow, or is held during a drain. -/
  | meadowReturn (m : Nat)
  /-- MEADOW_DRAIN_COMPLETE (R193): The last node of a draining meadow ends; the cells clear and take FALLOW, and the reload starts if the target is restart. -/
  | meadowDrainComplete (m : Nat)
  /-- DRAIN_LIMIT_EXPIRE (R193): DRAIN_US passes during a drain, and nodes still running are aborted and moved. -/
  | drainLimitExpire (m : Nat) (cell : Option Nat)
  /-- MEADOW_RELOAD_COMPLETE (R193): Firmware and tables are reloaded and digest-checked; a mismatch leaves the cells Fallow, otherwise self-test begins. -/
  | meadowReloadComplete (m : Nat) (misread : Option Nat)
  /-- MEADOW_SELFTEST_COMPLETE (R193): Cells that pass take their roles with raised epochs, and cells that fail become fault-Fallow. -/
  | meadowSelftestComplete (m : Nat) (failed : List Nat)
  /-- CELL_FALLOW (R194): SWD_CELL_CTL command FALLOW drains the cell toward FALLOW. -/
  | cellFallow (cell : Nat)
  /-- CELL_RETURN (R194): SWD_CELL_CTL command RETURN self-tests a FALLOW cell, or is held during a drain. -/
  | cellReturn (cell : Nat)
  /-- NEXT_ROLE_WRITE (R194): A write of NEXT_ROLE is accepted only while the cell is FALLOW, or when it equals the value in force. -/
  | nextRoleWrite (cell : Nat) (role : Nat) (cmd : Nat)
  /-- CELL_DRAIN_COMPLETE (R174): A draining cell's slots empty; it clears its operand RAM, raises its epoch and takes FALLOW. -/
  | cellDrainComplete (cell : Nat)
  /-- CELL_SELFTEST_COMPLETE (R194): A cell's self-test ends; it becomes ACTIVE in NEXT_ROLE, stays FALLOW, or becomes fault-Fallow. -/
  | cellSelftestComplete (cell : Nat) (pass : Bool)
  /-- PERIODIC_SELFTEST_DUE (R197): A cell's periodic self-test falls due on delay list 6; it drains, takes SELFTEST and returns. -/
  | periodicSelftestDue (cell : Nat)
  /-- MISMATCH_WINDOW_CLOSE (R257): A cell's 1 s mismatch window closes and MISMATCH_1S returns to zero. -/
  | mismatchWindowClose (cell : Nat)
  /-- MEMORY_PORT_REQUEST (R187): A requester asserts at its clump memory port and takes part in the next arbiter decision. -/
  | memoryPortRequest (clump : Nat) (r : Nat)
  /-- MEMORY_PORT_RELEASE (R188): The grant owner drops its request, and the arbiter decides the next winner. -/
  | memoryPortRelease (clump : Nat) (r : Nat)
  /-- EMERGENCY_PREEMPT (R189): DRAM refresh or Stile takes the port at the next beat boundary from a cell that holds it. -/
  | emergencyPreempt (clump : Nat) (r : Nat)
  /-- PORT_HOLD_VIOLATION (R186): A grant held for more than 64 beats makes its owner fault-Fallow with cause PORT_HOLD. -/
  | portHoldViolation (cell : Nat)
  /-- ARB_CONFIG_WRITE (R190): A priority or limit write lands at a clump clock edge and takes part in later decisions. -/
  | arbConfigWrite (off : Nat) (val : Nat)
  /-- NOP (R211): Command 0x01F0 is completed by Drover with DONE and no cell. -/
  | nopCmd (qid : Nat)
  /-- ABORT (R211): Command 0x01F1 aborts every matching descriptor before its commit point, then completes with DONE. -/
  | abortCmd (qid : Nat) (input : Option Bytes)
  /-- PIN_TRANSLATE (R235): Command 0x0201 translates a PIN block between permitted formats and keys. -/
  | pinTranslate (g : Nat)
  /-- PIN_VERIFY_OFFSET (R236): Command 0x0202 verifies a PIN by the offset method. -/
  | pinVerifyOffset (g : Nat)
  /-- PIN_GENERATE_OFFSET (R236): Command 0x0203 generates a PIN offset. -/
  | pinGenerateOffset (g : Nat)
  /-- PIN_VERIFY_PVV (R236): Command 0x0204 verifies a PIN by the PVV method. -/
  | pinVerifyPvv (g : Nat)
  /-- PIN_GENERATE_PVV (R236): Command 0x0205 generates a PVV. -/
  | pinGeneratePvv (g : Nat)
  /-- MAC_GENERATE (R239): Command 0x0301 generates a payment MAC. -/
  | macGenerate (g : Nat)
  /-- MAC_VERIFY (R239): Command 0x0302 verifies a payment MAC. -/
  | macVerify (g : Nat)
  /-- MAC_TRANSLATE (R239): Command 0x0303 verifies a MAC and writes a new one. -/
  | macTranslate (g : Nat)
  /-- CVV_GENERATE (R240): Command 0x0401 computes a card verification value. -/
  | cvvGenerate (g : Nat)
  /-- CVV_VERIFY (R240): Command 0x0402 verifies a card verification value. -/
  | cvvVerify (g : Nat)
  /-- ARQC_VERIFY (R242): Command 0x0410 verifies an EMV cryptogram. -/
  | arqcVerify (g : Nat)
  /-- ARQC_VERIFY_ARPC (R242): Command 0x0411 verifies a cryptogram and computes the ARPC. -/
  | arqcVerifyArpc (g : Nat)
  /-- DUKPT_PIN_TRANSLATE (R244): Command 0x0501 derives a DUKPT PIN key and translates a PIN block. -/
  | dukptPinTranslate (g : Nat)
  /-- DUKPT_MAC_VERIFY (R244): Command 0x0502 derives a DUKPT MAC key and verifies a MAC. -/
  | dukptMacVerify (g : Nat)
  /-- DUKPT_DATA_DECRYPT (R244): Command 0x0503 derives a DUKPT data key and decrypts data. -/
  | dukptDataDecrypt (g : Nat)
  /-- DUKPT_INITIAL_KEY (R245): Command 0x0504 derives a device initial key and exports it as a key block. -/
  | dukptInitialKey (g : Nat)
  /-- KB_IMPORT (R247): Command 0x0601 checks and imports an interchange key block into a Barrow slot. -/
  | kbImport (g : Nat)
  /-- KB_EXPORT (R250): Command 0x0602 exports a key as an interchange key block. -/
  | kbExport (g : Nat)
  /-- PK_KEYGEN (R269): Command 0x0701 generates a classical key pair. -/
  | pkKeygen (g : Nat)
  /-- RSA_SIGN (R269): Command 0x0702 makes an RSA CRT signature. -/
  | rsaSign (g : Nat)
  /-- RSA_VERIFY (R269): Command 0x0703 verifies an RSA signature. -/
  | rsaVerify (g : Nat)
  /-- ECDSA_SIGN (R269): Command 0x0711 makes an ECDSA signature. -/
  | ecdsaSign (g : Nat)
  /-- ECDSA_VERIFY (R269): Command 0x0712 verifies an ECDSA signature. -/
  | ecdsaVerify (g : Nat)
  /-- ECDH_DERIVE (R268): Command 0x0713 derives a Barrow key from an ECDH or X25519 shared value. -/
  | ecdhDerive (g : Nat)
  /-- EC_POINT_MUL (R269): Command 0x0714 multiplies a point by an outside scalar. -/
  | ecPointMul (g : Nat)
  /-- ED25519_SIGN (R269): Command 0x0721 makes an Ed25519 signature. -/
  | ed25519Sign (g : Nat)
  /-- ED25519_VERIFY (R269): Command 0x0722 verifies an Ed25519 signature. -/
  | ed25519Verify (g : Nat)
  /-- PQ_KEYGEN (R270): Command 0x0801 generates an ML-KEM or ML-DSA key pair. -/
  | pqKeygen (g : Nat)
  /-- MLKEM_ENCAPS (R270): Command 0x0802 encapsulates and derives a Barrow key. -/
  | mlkemEncaps (g : Nat)
  /-- MLKEM_DECAPS (R270): Command 0x0803 decapsulates and derives a Barrow key. -/
  | mlkemDecaps (g : Nat)
  /-- MLDSA_SIGN (R270): Command 0x0811 makes an ML-DSA-65 signature. -/
  | mldsaSign (g : Nat)
  /-- MLDSA_VERIFY (R270): Command 0x0812 verifies an ML-DSA-65 signature. -/
  | mldsaVerify (g : Nat)
  /-- SLHDSA_VERIFY (R270): Command 0x0821 verifies an SLH-DSA signature. -/
  | slhdsaVerify (g : Nat)
  /-- DIGEST (R290): Command 0x0A01 computes a digest. -/
  | digest (g : Nat)
  /-- HMAC_GENERATE (R290): Command 0x0A02 computes an HMAC tag. -/
  | hmacGenerate (g : Nat)
  /-- HMAC_VERIFY (R290): Command 0x0A03 verifies an HMAC tag through COMPARE. -/
  | hmacVerify (g : Nat)
  /-- DIGEST_COMPARE (R290): Command 0x0A04 compares a digest with an expected value. -/
  | digestCompare (g : Nat)
  /-- DIGEST_DERIVE (R290): Command 0x0A05 derives a Barrow key by the SP 800-108 KDF. -/
  | digestDerive (g : Nat)
  /-- KEY_GENERATE (R319): Command 0x0101 generates a symmetric key into a Barrow slot. -/
  | keyGenerate (g : Nat)
  /-- KEY_SAVE (R306): Command 0x0102 writes a stored key block under the master. -/
  | keySave (g : Nat)
  /-- KEY_SAVE_UNDER (R306): Command 0x0103 writes a stored key block under a key-encryption key. -/
  | keySaveUnder (g : Nat)
  /-- KEY_LOAD (R307): Command 0x0104 checks a stored block and loads it into a slot. -/
  | keyLoad (g : Nat)
  /-- KEY_LOAD_UNDER (R307): Command 0x0105 loads a stored block under a key-encryption key. -/
  | keyLoadUnder (g : Nat)
  /-- KEY_RELEASE (R313): Command 0x0106 frees a slot and orphans its children. -/
  | keyRelease (g : Nat)
  /-- KEY_RESTRICT (R304): Command 0x0107 narrows a live slot's attributes. -/
  | keyRestrict (g : Nat)
  /-- KEY_INFO (R319): Command 0x0108 returns a key's attribute record and state. -/
  | keyInfo (g : Nat)
  /-- KEY_PUBLIC (R319): Command 0x0109 returns the public key of a private key. -/
  | keyPublic (g : Nat)
  /-- KEY_CHECK_VALUE (R316): Command 0x010A computes a key check value. -/
  | keyCheckValue (g : Nat)
  /-- KEY_PROVE (R317): Command 0x010B answers a proof-of-possession challenge. -/
  | keyProve (g : Nat)
  /-- MASTER_CREATE (R311): Command 0x0120 draws a master for an allotment or the steward under quorum. -/
  | masterCreate (g : Nat)
  /-- MASTER_INVALIDATE (R312): Command 0x0121 raises a master's generation and orphans its chain. -/
  | masterInvalidate (g : Nat)
  /-- MASTER_STATUS (R319): Command 0x0122 returns a master's ID, generation and state. -/
  | masterStatus (g : Nat)
  /-- INVALIDATION_PASS (R312): An orphaning pass over the DRAM key cache completes, followed by the next pass or the hot-cache drop. -/
  | invalidationPass
  /-- KEY_VALIDITY_EXPIRE (R303): A slot's VALID_S timer on delay list 1 falls due, and the slot becomes EXPIRED. -/
  | keyValidityExpire (slot : Nat)
  /-- ROOT_RECOVERY_COMPLETE (R310): After a Swale-R with VIN present, the new device root, custodian table, attestation key and module keys are in place and ROOT_OPEN is set. -/
  | rootRecoveryComplete
  /-- NOISE_BLOCK_COMPLETE (R323): A source completes a 1,024-bit block, which is health-tested, counted and used or discarded. -/
  | noiseBlockComplete (src : Nat) (bits : List Bool)
  /-- SKY_FAIL_LIMIT_WRITE (R324): A LIMIT write is refused outside 1 to 16; otherwise it excludes sources whose counts exceed it at their next block end. -/
  | skyFailLimitWrite (val : Nat)
  /-- EXPANDER_RESEED (R327): An instance reaches 65,536 requests since its last reseed and reseeds from the pool, or stretches while the pool is empty. -/
  | expanderReseed (inst : Nat)
  /-- RANDOM_READ (R330): A stalling read by a cell, Drover or the hub is served by an expander, or stalls. -/
  | randomRead (reader : Reader) (client : Nat) (n : Nat)
  /-- RANDOM_STALL_TIMEOUT (R330): A read stalled for 50 ms ends its node with ENTROPY_UNAVAILABLE. -/
  | randomStallTimeout (reader : Reader)
  /-- SKY_DATA_READ (R331): A read of SKY_DATA returns 24 fresh bits, or zero with EMPTY_READ set. -/
  | skyDataRead
  /-- RANDOM_GENERATE (R333): Command 0x0901 returns n random bytes from the service pool. -/
  | randomGenerate (g : Nat)
  /-- RANDOM_FRESH (R333): Command 0x0902 returns up to 64 bytes from a freshly reseeded instance. -/
  | randomFresh (g : Nat)
  /-- EGRESS_FRAME (R343): A near-side frame is classified in its decision cycle and protected, bypassed, dropped or diverted, leaving at the fixed latency. -/
  | egressFrame (port : Nat) (data : Bytes) (fcsOk : Bool) (fec : Nat × Nat) (busy : Bool) (mismatch : Bool)
  /-- INGRESS_FRAME (R346): A far-side frame is classified, matched to a channel and replay-checked, then delivered cut-through, dropped or diverted. -/
  | ingressFrame (port : Nat) (data : Bytes) (fcsOk : Bool) (fec : Nat × Nat)
  /-- ICV_VERDICT (R346): A frame's ICV verdict and second replay check arrive, and a failing frame is dropped late. -/
  | icvVerdict (port : Nat) (mismatch : Bool)
  /-- FURROW_MISMATCH_WINDOW_CLOSE (R349): A port group's 1 ms mismatch window closes. -/
  | furrowMismatchWindowClose (pg : Nat)
  /-- RULE_COMMIT (R342): A write of COMMIT checks the rule's shadow, and the rule is adopted at the next island cycle or refused. -/
  | ruleCommit (pg : Nat) (rule : Nat)
  /-- PORT_CONFIG_WRITE (R351): A write of FUR_PORT_CFG is adopted as a rule commit, or refused for MAX_FRAME or FC_MODE while the group runs. -/
  | portConfigWrite (side : Nat) (port : Nat) (val : Nat)
  /-- PG_CONFIG_WRITE (R351): A write of FUR_PG_CFG is accepted only while the group is STOPPED or FAULTED. -/
  | pgConfigWrite (pg : Nat) (val : Nat)
  /-- PG_STOP (R352): FUR_PG_CTL command STOP closes intake and drains the group. -/
  | pgStop (pg : Nat)
  /-- PG_STOP_COMPLETE (R352): The drain ends, transmitters send Local Fault and the group is STOPPED; a held START then runs. -/
  | pgStopComplete (pg : Nat)
  /-- PG_START (R352): FUR_PG_CTL command START applies the configuration and retunes, with a pipeline test from FAULTED. -/
  | pgStart (pg : Nat)
  /-- PG_START_COMPLETE (R352): Retuning, and any known-answer test, completes; the group is RUNNING or stays FAULTED. -/
  | pgStartComplete (pg : Nat) (pass : Bool)
  /-- PORT_LINK_CHANGE (R352): A port's PCS and FEC lock or unlock, and LINK_UP changes. -/
  | portLinkChange (side : Nat) (port : Nat) (up : Bool) (remote : Bool)
  /-- STATS_WRITEBACK (R355): An association accumulator is written back to DRAM when full, evicted or at 1 ms. -/
  | statsWriteback (assoc : Nat)
  /-- CHANNEL_COMMIT (R360): A write of channel dword 15 checks and adopts the channel shadow, or refuses it. -/
  | channelCommit (ch : Nat)
  /-- SA_COMMIT (R368): A write of association dword 7 checks and adopts ENABLE and LOWEST_PN, or refuses them. -/
  | saCommit (assoc : Nat)
  /-- SWITCH_ARM (R366): A write of channel dword 8 arms, replaces or disarms an encoding switch, or is refused. -/
  | switchArm (ch : Nat) (val : Nat)
  /-- LINK_MKA_CREATE (R374): Command 0x0B01 creates a non-persistent MKA instance. -/
  | linkMkaCreate (g : Nat)
  /-- LINK_MKA_DELETE (R379): Command 0x0B02 deletes a non-persistent instance, disarms its switch and clears its associations. -/
  | linkMkaDelete (g : Nat)
  /-- LINK_MKA_STATUS (R379): Command 0x0B03 returns an instance's status. -/
  | linkMkaStatus (g : Nat)
  /-- LINK_MKA_CREATE_PERSIST (R375): Command 0x0B04 creates a persistent instance under quorum. -/
  | linkMkaCreatePersist (g : Nat)
  /-- LINK_MKA_DELETE_PERSIST (R375): Command 0x0B05 deletes a persistent instance under quorum. -/
  | linkMkaDeletePersist (g : Nat)
  /-- LINK_SA_INSTALL (R372): Command 0x0B11 installs an association key from a SAK handle. -/
  | linkSaInstall (g : Nat)
  /-- LINK_SA_INSTALL_WRAPPED (R372): Command 0x0B12 installs an association key unwrapped under the link master. -/
  | linkSaInstallWrapped (g : Nat)
  /-- LINK_SA_CLEAR (R372): Command 0x0B13 clears an association that is not in use. -/
  | linkSaClear (g : Nat)
  /-- LINK_SA_SWITCH (R366): Command 0x0B14 arms an encoding switch. -/
  | linkSaSwitch (g : Nat)
  /-- LINK_STATS_READ (R377): Command 0x0B20 reads, clears or zeroes statistics records. -/
  | linkStatsRead (g : Nat)
  /-- LINK_MASTER_LOAD (R373): Command 0x0B31 loads the link master under quorum. -/
  | linkMasterLoad (g : Nat)
  /-- MKPDU_RECEIVE (R376): A diverted EAPOL-MKA frame reaches its instance's MKA node and is processed, or is discarded. -/
  | mkpduReceive (cell : Nat)
  /-- MKA_TIMER_EXPIRE (R374): An MKA timer on delay list 2 falls due, and the instance acts on it. -/
  | mkaTimerExpire (inst : Nat) (kind : Nat)
  /-- DRAM_READ (R388): Thatch reads a line, checks SECDED and the MAC, and delivers it, corrects it, poisons it, repairs it or raises an attack. -/
  | dramRead (addr : Nat) (finding : Finding) (g : Option Nat)
  /-- DRAM_WRITE (R385): Thatch writes a line under its next counter, or refuses the write at the counter end or on a poisoned line. -/
  | dramWrite (addr : Nat) (data : Bytes) (g : Option Nat)
  /-- COUNTER_BLOCK_REWRITE_COMPLETE (R385): The rewrite of a counter block's 127 other lines after a major step completes, and waiting accesses proceed. -/
  | counterBlockRewriteComplete (e : Nat) (block : Nat) (bad : List Nat)
  /-- SCRUB_READ (R390): The scrubber reads its next line and handles findings under R388. -/
  | scrubRead (e : Nat) (finding : Finding)
  /-- THATCH_INIT_COMPLETE (R386): An engine, after drawing keys, finishes initialising its tree and bitmap, and waiting accesses proceed. -/
  | thatchInitComplete (e : Nat)
  /-- HEDGEROW_ACCESS_CHECK (R395): A burst is checked sub-access by sub-access, and denied whole if any sub-access fails. -/
  | hedgerowAccessCheck (unit : Nat) (master : Nat) (kind : Nat) (attr : Nat) (addr : Nat) (len : Nat)
  /-- INACTIVE_SET_LOAD (R397): The dispatch agent loads a node's rule set into the inactive set, and the cell swaps at the node's first access. -/
  | inactiveSetLoad (cell : Nat) (ok : Bool)
  /-- HEDGEROW_UPDATE (R398): The hub program rewrites a unit's active set, which is committed or refused, and stalled accesses are then judged. -/
  | hedgerowUpdate (unit : Nat) (set : List Region) (commit : Bool)
  /-- MONITOR_TRIP (R404): A Gorse monitor trips; if its bit was clear, Gorse sets it and takes the monitor's response and records. -/
  | monitorTrip (ms : List Nat)
  /-- SWALE_COMPLETE (R405): A swale completes, SWALE_BUSY clears, its ledger record is buffered and recovery begins. -/
  | swaleComplete
  /-- HALT_BEGIN (R406): Once swales and fuse rows finish, Halt stops every island, drives HALT_N low and idles the SerDes. -/
  | haltBegin
  /-- GOR_ALARM_CLEAR (R408): A write of 1 clears an alarm bit unless its monitor is still out of window, and may end Hold and release ALARM_N. -/
  | gorAlarmClear (mask : Nat)
  /-- PEAT_RECORDS_CLEAR (R408): A write of 1 to GOR_STATUS.PEAT_RECORDS clears it, and may release ALARM_N. -/
  | peatRecordsClear
  /-- GOR_BIST_START (R411): A write of GOR_BIST_CTL starts a test of one channel, or is refused. -/
  | gorBistStart (mon : Nat) (chan : Nat)
  /-- GOR_BIST_COMPLETE (R412): A channel test ends in PASS, or in FAIL, which trips BIST_FAIL. -/
  | gorBistComplete (pass : Bool)
  /-- BIST_OVERDUE (R413): INTERVAL_H hours pass without a full pass, and BIST_OVERDUE trips. -/
  | bistOverdue
  /-- SHADOW_SCAN (R410): The 1 ms full scan compares every shadow pair, and a disagreement trips SHADOW. -/
  | shadowScan (bad : Option Nat)
  /-- BACKUP_TRIP (R414): A backup-side monitor trips on the backup cell, runs Swale-R once and writes Peat buffer records. -/
  | backupTrip (ms : List Nat)
  /-- LEDGER_RECORD_PROGRAMMED (R417): A ledger record is programmed from the Peat buffer; after record 4,094 the end record is written and LEDGER_FULL trips. -/
  | ledgerRecordProgrammed
  /-- CAIRN_EVENT_POST (R426): Cairn accepts a posted event from its queue, applies rate limits or a freeze tally and writes the record. -/
  | cairnEventPost (code : Nat) (key : Nat) (payload : Bytes)
  /-- RATE_WINDOW_CLOSE (R427): A rate window's list-3 timer falls due, and a summary record is written if occurrences were suppressed. -/
  | rateWindowClose (code : Nat) (key : Nat)
  /-- FREEZE (R428): CRN_CTL command FREEZE stops ring writes and spill. -/
  | freezeCmd
  /-- THAW (R428): CRN_CTL command THAW ends the freeze and writes the FROZEN tally records. -/
  | thawCmd
  /-- FREEZE_TIMEOUT (R428): 100 ms after FREEZE the freeze ends by itself, and THAW_AUTO is set. -/
  | freezeTimeout
  /-- LOAD_RING (R431): CRN_CTL command LOAD_RING copies a ring block into the aperture. -/
  | loadRing
  /-- LOAD_FLASH (R431): CRN_CTL command LOAD_FLASH starts a copy of a spill block into the aperture, or is refused. -/
  | loadFlash
  /-- LOAD_FLASH_COMPLETE (R431): The spill block copy completes, and LOADING clears. -/
  | loadFlashComplete
  /-- WALL (R421): CRN_CTL command WALL writes record 0x2010 with the CRN_WALL value. -/
  | wallCmd
  /-- SPILL_BLOCK_PROGRAMMED (R430): A closed Cairn block is programmed to the spill ring, erasing ahead as needed. -/
  | spillBlockProgrammed
  /-- CMN_FOUND (R446): Command 0x0C01 founds a Commons under quorum. -/
  | cmnFound (g : Nat)
  /-- CMN_EVIDENCE (R437): Command 0x0C02 returns attestation evidence signed over a nonce. -/
  | cmnEvidence (g : Nat)
  /-- CMN_INVITE (R437): Command 0x0C03 checks a candidate's evidence and outputs a signed invitation. -/
  | cmnInvite (g : Nat)
  /-- CMN_JOIN (R437): Command 0x0C04 takes an invitation, opens a session to the sponsor and joins the Commons. -/
  | cmnJoin (g : Nat)
  /-- CMN_LEAVE (R438): Command 0x0C06 clears the module's Commons area and has the keeper clear its entry. -/
  | cmnLeave (g : Nat)
  /-- CMN_EXPEL (R438): Command 0x0C07 clears another member's roster entry. -/
  | cmnExpel (g : Nat)
  /-- CMN_ROSTER_EXPORT (R436): Command 0x0C08 writes the sealed roster image. -/
  | cmnRosterExport (g : Nat)
  /-- CMN_ROSTER_LOAD (R436): Command 0x0C09 verifies and loads a roster image. -/
  | cmnRosterLoad (g : Nat)
  /-- CMN_SESSION_OPEN (R439): Command 0x0C10 opens a pairwise session to a member. -/
  | cmnSessionOpen (g : Nat)
  /-- CMN_RELAY_IN (R440): Command 0x0C11 delivers one relayed message or handshake segment to CMN. -/
  | cmnRelayIn (g : Nat)
  /-- CMN_RELAY_OUT (R441): Command 0x0C12 collects queued outbound messages. -/
  | cmnRelayOut (g : Nat)
  /-- CMN_REPLICATE (R442): Command 0x0C20 sends a master to a member under quorum. -/
  | cmnReplicate (g : Nat) (full : Bool)
  /-- CMN_REPLICA_BIND (R442): Command 0x0C21 installs a replica as an allotment's master and sends a bind acknowledgement. -/
  | cmnReplicaBind (g : Nat)
  /-- CMN_REPLICA_DROP (R442): Command 0x0C22 clears an unbound replica. -/
  | cmnReplicaDrop (g : Nat)
  /-- CMN_GEN_NOTIFY (R442): Command 0x0C23 sends generation notices to named members. -/
  | cmnGenNotify (g : Nat)
  /-- CMN_PEER_SEL_WRITE (R441): A write of CMN_PEER_SEL selects a peer and, with ROUTE_WE set, sets its route. -/
  | cmnPeerSelWrite (val : Nat)
  /-- HANDSHAKE_RECEIVE (R439): A handshake message arrives; its segments are gathered and checked, and the session key agreement proceeds. -/
  | handshakeReceive
  /-- HEARTBEAT_RECEIVE (R441): A heartbeat arrives and keeps or makes the peer REACHABLE. -/
  | heartbeatReceive
  /-- JOIN_REQUEST_RECEIVE (R437): A candidate's join request reaches the sponsor, which admits it and sends the roster. -/
  | joinRequestReceive
  /-- ROSTER_UPDATE_RECEIVE (R438): A roster update is applied if its generation is next, resolved as a conflict, or triggers a roster request. -/
  | rosterUpdateReceive
  /-- ROSTER_REQUEST_RECEIVE (R438): A roster request is answered with the full roster in segments. -/
  | rosterRequestReceive
  /-- ROSTER_SEGMENT_RECEIVE (R437): A roster segment arrives, and once all segments are in the roster is applied or the join commits. -/
  | rosterSegmentReceive
  /-- REPLICA_RECEIVE (R442): A replica message is stored as an unbound replica wrapped under the device root. -/
  | replicaReceive
  /-- GEN_NOTICE_RECEIVE (R442): A generation notice for a held MASTER_ID raises its generation under R312. -/
  | genNoticeReceive
  /-- BIND_ACK_RECEIVE (R443): A bind acknowledgement reaches the source, which sets MOVE_DONE. -/
  | bindAckReceive
  /-- HEARTBEAT_TIMER (R441): Every HB_MS ms a session sends a heartbeat. -/
  | heartbeatTimer (peer : Nat)
  /-- PEER_TIMEOUT (R441): A peer that has sent nothing for five intervals is marked UNREACHABLE. -/
  | peerTimeout (peer : Nat)
  /-- VBAK_LOSS (R48): With VIN absent, VBAK falls below 2.5 V or is removed, and the root store is lost. -/
  | vbakLoss
  /-- MONITOR_RETURN_TO_WINDOW (R408): A tripped Gorse monitor's input returns within its window, so its GOR_OUT bit clears and its alarm bit becomes clearable again. -/
  | monitorReturnToWindow (m : Nat)
  /-- LOAD_RING_COMPLETE (R431): The copy of a ring block into the Cairn aperture completes within 2 µs and LOADING clears. -/
  | loadRingComplete
  /-- SKY_DATA_REFILL (R331): The service pool refills an entry of the 256-entry SKY_DATA buffer. -/
  | skyDataRefill
  /-- EGRESS_FRAME_DEPARTURE (R369): A protected frame finishes leaving on its far port, freeing elastic-buffer space, ending its association's use and letting flow control send quanta 0 at a quarter. -/
  | egressFrameDeparture (port : Nat)
  /-- ADMIN_FIRMWARE_TIMER (R182): A firmware timer of an ADMIN-role node on Drover delay list 7 falls due and is acted on. -/
  | adminFirmwareTimer (g : Nat) (id : Nat) (set : Option Nat)
deriving DecidableEq, Repr

end Sys2Proof
end

