-- ==== Sys2Proof/Config.lean ====
section
/-! DEFINITION. What the spec leaves open, and the standard algorithms it names without restating them. Every constant here is
opaque: it has no body, so no proof can lean on a value of it, and a claim about it holds whatever it is. -/

namespace Sys2Proof.Config

/-- A free value (log 4): a number the spec leaves open or draws from outside the model (a random number of Skylark, a measured
voltage). It is applied to a counter of the state, so that every draw is fresh. -/
opaque freeValue : Nat → Nat

/-- A free byte (log 4), for random strings. -/
opaque freeByte : Nat → Byte

/-! The algorithms of the standards the spec names (log 5). Each maps its inputs to the bytes the standard gives. -/

/-- The digest of a string under algorithm code `alg` (R279), FIPS 180-4 and 202. -/
opaque digest (alg : Nat) (n : Nat) : Bytes → Bytes

/-- SHA-256 (FIPS 180-4), 32 bytes. -/
opaque sha256 : Bytes → Bytes

/-- SHA-384 (FIPS 180-4), 48 bytes. -/
opaque sha384 : Bytes → Bytes

/-- One block under a block cipher: `alg` 0 TDEA or DES, 1 AES; `enc` true to encrypt. -/
opaque blockCipher (alg : Nat) (enc : Bool) (key : Bytes) : Bytes → Bytes

/-- HMAC (FIPS 198-1) over the digest `alg`. -/
opaque hmac (alg : Nat) (key : Bytes) : Bytes → Bytes

/-- Signature verification: `alg` names the scheme by the set code of R255, with 0x100 times the RSA scheme and 0x1000 times its hash
added for RSA; then the public key, the message and the signature. -/
opaque sigVerify (alg : Nat) (pk msg sig : Bytes) : Bool

/-- Signing, with the random bytes the scheme consumes; none where every candidate is rejected (R263). -/
opaque sigSign (alg : Nat) (sk msg rnd : Bytes) : Option Bytes

/-- Signing under a scheme that rejects no candidate (RSA, Ed25519), with the random bytes it consumes. -/
opaque sigSure (alg : Nat) (sk msg rnd : Bytes) : Bytes

/-- The public key of a private key of an asymmetric scheme. -/
opaque publicOf (alg : Nat) (sk : Bytes) : Bytes

/-- Key-pair generation: the private key made from random bytes; none where no candidate is usable (R263). -/
opaque keyGen (alg : Nat) (rnd : Bytes) : Option Bytes

/-- Key agreement and encapsulation primitives: the shared secret. -/
opaque agree (alg : Nat) (sk peer : Bytes) : Bytes

/-- Encapsulation: the ciphertext followed by the shared secret. -/
opaque encaps (alg : Nat) (pk rnd : Bytes) : Bytes × Bytes

/-- Decapsulation: the shared secret. -/
opaque decaps (alg : Nat) (sk ct : Bytes) : Bytes

/-- Scalar multiplication on a curve; none for the point at infinity. -/
opaque pointMul (set : Nat) (k pt : Bytes) : Option Bytes

/-- A named derivation of a standard the spec cites (a key derivation, a message authentication over a block cipher, a card
key derivation); `which` names it and `args` are its inputs in the order the spec gives them. -/
opaque derive (which : Nat) (args : List Bytes) : Bytes


/-- The protection of an interchange key block (R246): form 1 TR-31 version B, 2 TR-31 version D, 3 ISO 20038. From the key block
protection key, the header with its optional blocks, and the key data: the encrypted data followed by the MAC. -/
opaque kbSeal (form : Nat) (kbpk head data : Bytes) : Bytes

/-- Its inverse: the key data, or none where the MAC does not verify. -/
opaque kbOpen (form : Nat) (kbpk head body : Bytes) : Option Bytes

/-- Whether the TR-31 tables allow a usage, algorithm letter and mode of use that no rule of the spec names (R268, log 30). -/
opaque tr31Allows (use : Bytes) (alg mode : Nat) : Bool

/-- ISO 9797-1 algorithm 3 with a key of another length than its double one, which no rule defines (log 36). -/
opaque mac3Open (method : Nat) (key msg : Bytes) : Bytes

/-- What the sections of a bale configure, given the type, the role and the bytes of each section in their order: the spec gives
the sections no layout of their own (log 6). -/
opaque baleContent : List (Nat × Nat × Bytes) → BaleContent

/-- The offset in configuration space of a capability, by its PCI Express identifier plus 0x10000 for one of the extended space, which each
implementation chooses (log 52). -/
opaque capAt : Nat → Nat

/-- By how much the hold-up store's charging power exceeds 4.0 W, in mW, between 0 and 400: each module fixes it (R60). -/
opaque chargeRate : Nat

/-- The silicon stepping and the mask ROM version, which the fuses hold (R130). -/
opaque stepping : Nat

opaque romVersion : Nat

/-- Akuth's PCI-SIG vendor identifier (R107), which the spec does not give. -/
opaque vendorId : Nat

/-- What a dword of configuration space holds at reset beyond R107, as PCI Express defines it (log 52). -/
opaque configDefault : Nat → Nat

/-- Whether the clear tags of a protected frame (R341) are covered by its ICV, which the spec does not say (log 43). -/
opaque clearTagsCovered : Bool

/-- The CKN an EAPOL-MKA frame names (IEEE 802.1X-2020, log 44). -/
opaque mkpduCkn : Bytes → Option Bytes

/-- What an MKPDU under a CAK and CKN says, or none where its form or its ICV fails (log 44). -/
opaque mkpduRead (cak ckn : Bytes) : Bytes → Option Mkpdu

/-- The frame of an MKPDU under a CAK and CKN (log 44). -/
opaque mkpduFrame (cak ckn : Bytes) : Mkpdu → Bytes

/-- The 192-byte body of the evidence of a module, whose layout the spec does not give (R446, log 45). -/
opaque evidenceBody : CmnEvidence → Bytes

/-- What an evidence body says, or none. -/
opaque evidenceRead : Bytes → Option CmnEvidence

/-- The 192-byte body of an invitation, whose layout the spec does not give (R446, log 45). -/
opaque inviteBody : CmnInvite → Bytes

/-- What an invitation body says, or none. -/
opaque inviteRead : Bytes → Option CmnInvite

/-- The body of a message of the Commons, of 1 to 8,192 bytes for a message without segments (R440, log 45). -/
opaque cmnBody : CmnMsg → Bytes

/-- What a body under a message TYPE says, or none (log 45). -/
opaque cmnRead (type : Nat) : Bytes → Option CmnMsg

/-- The TYPE codes of a join request and of a change on its way to the keeper, which the table of R440 does not list (log 45). -/
opaque cmnJoinType : Nat

opaque cmnChangeType : Nat

/-- The Ethernet frame that carries a message of the Commons over Furrow, which the spec does not lay out (log 45). -/
opaque cmnFrame : Bytes → Bytes

/-- The message such a frame carries, or none. -/
opaque cmnUnframe : Bytes → Option Bytes

end Sys2Proof.Config
end

