-- ==== Sys2Proof/Machine/SMap.lean ====
section
/-! DEFINITION. The operations of a sparse array kept in one canonical form: indexes strictly rising, and no entry equal to
what an unlisted index reads as (`d`). -/

namespace Sys2Proof.Machine

variable {α : Type}

/-- What index `k` holds; an index that is not listed holds `d k`. -/
def getM (d : Nat → α) : SMap α → Nat → α
  | [], k => d k
  | (k', v) :: m, k => if k' = k then v else getM d m k

/-- Remove the entry of index `k`. -/
def delM : SMap α → Nat → SMap α
  | [], _ => []
  | (k', v) :: m, k => if k' = k then delM m k else (k', v) :: delM m k

/-- List `v` at index `k`, in place. -/
def putM : SMap α → Nat → α → SMap α
  | [], k, v => [(k, v)]
  | (k', v') :: m, k, v =>
    if k < k' then (k, v) :: (k', v') :: m
    else if k' = k then (k, v) :: m
    else (k', v') :: putM m k v

/-- Store `v` at index `k`; storing what an unlisted index holds removes the entry, so that equal arrays are equal lists. -/
def setM [DecidableEq α] (d : Nat → α) (m : SMap α) (k : Nat) (v : α) : SMap α :=
  if v = d k then delM m k else putM m k v

/-- `k` is above the bound `lo`, when there is one. -/
def aboveM : Option Nat → Nat → Bool
  | none, _ => true
  | some l, k => decide (l < k)

/-- The indexes of `m` are above `lo`, strictly rising, and no entry holds what an unlisted index holds. -/
def risingM [DecidableEq α] (d : Nat → α) : Option Nat → SMap α → Bool
  | _, [] => true
  | lo, (k, v) :: m => aboveM lo k && decide (v ≠ d k) && risingM d (some k) m

/-- The canonical form. -/
def wfM [DecidableEq α] (d : Nat → α) (m : SMap α) : Bool := risingM d none m

/-- A sparse array whose unlisted indexes all hold `x`. -/
abbrev getC (x : α) (m : SMap α) (k : Nat) : α := getM (fun _ => x) m k

/-- Store into a sparse array whose unlisted indexes all hold `x`. -/
abbrev setC [DecidableEq α] (x : α) (m : SMap α) (k : Nat) (v : α) : SMap α := setM (fun _ => x) m k v

end Sys2Proof.Machine
end

