-- ==== Sys2Proof/Machine/Regs.lean ====
section
/-! DEFINITION. The names of the fields of the BAR0 registers, with the address and the bit place the register
tables of spec/03 to spec/21 give each. Written from those tables, one definition per field. -/

namespace Sys2Proof.Machine

/-- A field of a register: the BAR0 offset of its dword, its lowest bit and its width (R10). -/
structure Fld where
  addr : Nat
  lo : Nat
  w : Nat
deriving DecidableEq, Repr

/-- The key of a field in the register file: the number of its lowest bit in BAR0. -/
def Fld.key (f : Fld) : Nat := 8 * f.addr + f.lo

namespace Reg

/-! Registers of spec/03_power_clocks.md, R71. -/

def PWR_STATUS_CAP_ACTIVE : Fld := ⟨0xF00000, 0, 1⟩
def PWR_STATUS_SAG_ACTIVE : Fld := ⟨0xF00000, 1, 1⟩
def PWR_STATUS_HOLDUP_CHARGED : Fld := ⟨0xF00000, 2, 1⟩
def PWR_STATUS_LC_POWER_OK : Fld := ⟨0xF00000, 3, 1⟩
def PWR_STATUS_LEVEL_CHANGING : Fld := ⟨0xF00000, 4, 1⟩
def PWR_STATUS_LC_LOW_PATH : Fld := ⟨0xF00000, 5, 1⟩
def PWR_STATUS_ABOVE16_MS : Fld := ⟨0xF00000, 16, 16⟩

def PWR_INPUT_VIN_CV : Fld := ⟨0xF00004, 0, 16⟩
def PWR_INPUT_PIN_DW : Fld := ⟨0xF00004, 16, 16⟩

def PWR_VBAK_VBAK_MV : Fld := ⟨0xF00008, 0, 12⟩

def PWR_HOLDUP_ENERGY : Fld := ⟨0xF0000C, 0, 16⟩
def PWR_HOLDUP_CHARGED : Fld := ⟨0xF0000C, 16, 1⟩

def PWR_SAG_CFG_SAG_THRESH : Fld := ⟨0xF00010, 0, 10⟩
def PWR_SAG_CFG_SAG_EN : Fld := ⟨0xF00010, 31, 1⟩

def PWR_SLEEP_CFG_S1_EN : Fld := ⟨0xF00014, 0, 1⟩
def PWR_SLEEP_CFG_S1_IDLE : Fld := ⟨0xF00014, 4, 8⟩
def PWR_SLEEP_CFG_S2_IDLE_US : Fld := ⟨0xF00014, 12, 16⟩
def PWR_SLEEP_CFG_WAKE_DEPTH : Fld := ⟨0xF00014, 28, 4⟩

def PWR_EVENT_CAP_SET : Fld := ⟨0xF00018, 0, 1⟩
def PWR_EVENT_SAG_SEEN : Fld := ⟨0xF00018, 1, 1⟩
def PWR_EVENT_CMD_REFUSED : Fld := ⟨0xF00018, 2, 1⟩
def PWR_EVENT_CFG_REFUSED : Fld := ⟨0xF00018, 3, 1⟩
def PWR_EVENT_SAVE_FAULT : Fld := ⟨0xF00018, 4, 1⟩

def PWR_MDW_CTL_REQ_LEVEL (i : Nat) : Fld := ⟨0xF00020 + 0x4 * i, 0, 2⟩
def PWR_MDW_CTL_CMD (i : Nat) : Fld := ⟨0xF00020 + 0x4 * i, 4, 3⟩

def PWR_MDW_STAT_STATE (i : Nat) : Fld := ⟨0xF00040 + 0x4 * i, 0, 3⟩
def PWR_MDW_STAT_EFF_LEVEL (i : Nat) : Fld := ⟨0xF00040 + 0x4 * i, 4, 2⟩
def PWR_MDW_STAT_SAVE_FAULT (i : Nat) : Fld := ⟨0xF00040 + 0x4 * i, 8, 1⟩
def PWR_MDW_STAT_WAKE_COUNT (i : Nat) : Fld := ⟨0xF00040 + 0x4 * i, 16, 16⟩

def PWR_DROOP_CNT_CELL : Fld := ⟨0xF00060, 0, 10⟩
def PWR_DROOP_CNT_FURROW : Fld := ⟨0xF00060, 10, 10⟩
def PWR_DROOP_CNT_OTHER : Fld := ⟨0xF00060, 20, 10⟩

def PWR_SAG_CNT_SAGS : Fld := ⟨0xF00064, 0, 16⟩
def PWR_SAG_CNT_CAPS : Fld := ⟨0xF00064, 16, 16⟩

def PWR_S3_HITS_HITS : Fld := ⟨0xF00068, 0, 32⟩

def PWR_CLK_STATUS_REF25_OK : Fld := ⟨0xF0006C, 0, 1⟩
def PWR_CLK_STATUS_REF156_OK : Fld := ⟨0xF0006C, 1, 1⟩
def PWR_CLK_STATUS_PCIE_REF_OK : Fld := ⟨0xF0006C, 2, 1⟩

def PWR_LC_STAB_STABLE_MS : Fld := ⟨0xF00070, 0, 16⟩

/-! Registers of spec/04_startup_and_bale.md, R86. -/

def HIF_BALE_CTL_CMD : Fld := ⟨0x200, 0, 4⟩

def HIF_BALE_CHUNK_INDEX : Fld := ⟨0x204, 0, 10⟩

def HIF_BALE_STATUS_STAGE : Fld := ⟨0x208, 0, 3⟩
def HIF_BALE_STATUS_RUN_SLOT : Fld := ⟨0x208, 3, 1⟩
def HIF_BALE_STATUS_SEL_SLOT : Fld := ⟨0x208, 4, 1⟩
def HIF_BALE_STATUS_FALLBACK : Fld := ⟨0x208, 5, 1⟩
def HIF_BALE_STATUS_OVERLAP : Fld := ⟨0x208, 6, 1⟩
def HIF_BALE_STATUS_NO_BALE : Fld := ⟨0x208, 7, 1⟩
def HIF_BALE_STATUS_RESULT : Fld := ⟨0x208, 8, 8⟩
def HIF_BALE_STATUS_MDW_ADOPTED : Fld := ⟨0x208, 16, 8⟩

def HIF_BALE_EPOCH_ADOPTED_EPOCH : Fld := ⟨0x20C, 0, 32⟩

def HIF_BALE_EPOCH_HUB_EPOCH : Fld := ⟨0x210, 0, 32⟩

def HIF_BALE_EPOCH_STAGED_EPOCH : Fld := ⟨0x214, 0, 32⟩

def HIF_BALE_WCNT_A_COUNT : Fld := ⟨0x218, 0, 32⟩

def HIF_BALE_WCNT_B_COUNT : Fld := ⟨0x21C, 0, 32⟩

def HIF_BALE_SEL_LEFT_LEFT : Fld := ⟨0x220, 0, 15⟩

def HIF_BALE_OVERLAP_REMAIN_MIN : Fld := ⟨0x224, 0, 16⟩
def HIF_BALE_OVERLAP_LIMIT_MIN : Fld := ⟨0x224, 16, 16⟩

/-! Registers of spec/05_life_cycle_and_stile.md, R104. -/

def LCS_STATUS_STATE : Fld := ⟨0x1000000, 0, 3⟩
def LCS_STATUS_PHASE : Fld := ⟨0x1000000, 3, 3⟩
def LCS_STATUS_PENDING_TARGET : Fld := ⟨0x1000000, 6, 3⟩
def LCS_STATUS_EOL_PENDING : Fld := ⟨0x1000000, 9, 1⟩
def LCS_STATUS_FUSE_FAIL : Fld := ⟨0x1000000, 10, 1⟩
def LCS_STATUS_ATT_NEW : Fld := ⟨0x1000000, 11, 1⟩
def LCS_STATUS_REFUSE : Fld := ⟨0x1000000, 16, 8⟩

def LCS_CTL_CMD : Fld := ⟨0x1000004, 0, 4⟩

def LCS_FUSES_T1 : Fld := ⟨0x1000008, 0, 3⟩
def LCS_FUSES_T2 : Fld := ⟨0x1000008, 4, 3⟩
def LCS_FUSES_T3 : Fld := ⟨0x1000008, 8, 3⟩

def LCS_UID_UID (i : Nat) : Fld := ⟨0x1000010 + 0x4 * i, 0, 32⟩

def LCS_NONCE_NONCE (i : Nat) : Fld := ⟨0x1000020 + 0x4 * i, 0, 32⟩

def LCS_SIGNER_STATUS_PROGRAMMED : Fld := ⟨0x1000030, 0, 4⟩
def LCS_SIGNER_STATUS_REVOKED : Fld := ⟨0x1000030, 4, 4⟩

def LCS_SIGNER_CTL_SLOT : Fld := ⟨0x1000034, 0, 2⟩

def LCS_SIGNER_DATA_DATA (i : Nat) : Fld := ⟨0x1000040 + 0x4 * i, 0, 32⟩

def STL_STATUS_OPEN : Fld := ⟨0x1001000, 0, 1⟩
def STL_STATUS_AUTHORISED : Fld := ⟨0x1001000, 1, 1⟩
def STL_STATUS_SCOPE : Fld := ⟨0x1001000, 2, 4⟩

def STL_EXPIRY_LO_TIME : Fld := ⟨0x1001004, 0, 32⟩

def STL_EXPIRY_HI_TIME : Fld := ⟨0x1001008, 0, 16⟩

def STL_LOCK_HITS_HITS : Fld := ⟨0x100100C, 0, 32⟩

def STL_CTL_REVOKE : Fld := ⟨0x1001010, 0, 1⟩

def STL_LAST_LOCK_REGION : Fld := ⟨0x1001014, 0, 8⟩

/-! Registers of spec/06_host_interface.md, R130. -/

def HIF_ID_DEVICE : Fld := ⟨0x0, 0, 16⟩
def HIF_ID_VARIANT : Fld := ⟨0x0, 16, 4⟩
def HIF_ID_STEPPING : Fld := ⟨0x0, 20, 4⟩

def HIF_ROM_VER_ROM : Fld := ⟨0x4, 0, 16⟩
def HIF_ROM_VER_IFACE : Fld := ⟨0x4, 16, 16⟩

def HIF_CAP0_FURROW : Fld := ⟨0x8, 0, 1⟩
def HIF_CAP0_PQC : Fld := ⟨0x8, 1, 1⟩
def HIF_CAP0_MEADOWS : Fld := ⟨0x8, 8, 8⟩
def HIF_CAP0_CELLS : Fld := ⟨0x8, 16, 9⟩

def HIF_CAP1_ALLOT_MAX : Fld := ⟨0xC, 0, 12⟩
def HIF_CAP1_QP_MAX : Fld := ⟨0xC, 12, 4⟩
def HIF_CAP1_QDEPTH_LOG2 : Fld := ⟨0xC, 16, 4⟩
def HIF_CAP1_PORT_GROUPS : Fld := ⟨0xC, 20, 2⟩

def HIF_STATUS_FULL_SERVICE : Fld := ⟨0x10, 0, 1⟩
def HIF_STATUS_ENTROPY_READY : Fld := ⟨0x10, 1, 1⟩
def HIF_STATUS_START_HELD : Fld := ⟨0x10, 2, 1⟩
def HIF_STATUS_RESTART_ADVISED : Fld := ⟨0x10, 3, 1⟩
def HIF_STATUS_HOLD : Fld := ⟨0x10, 4, 1⟩
def HIF_STATUS_IDE_INSECURE : Fld := ⟨0x10, 5, 1⟩
def HIF_STATUS_LINK_DEGRADED : Fld := ⟨0x10, 6, 1⟩
def HIF_STATUS_START_STEP : Fld := ⟨0x10, 8, 4⟩

def HIF_EVENT_QUEUE_ERROR : Fld := ⟨0x14, 0, 1⟩
def HIF_EVENT_ABSENT_HIT : Fld := ⟨0x14, 1, 1⟩
def HIF_EVENT_BAR2_STRAY : Fld := ⟨0x14, 2, 1⟩
def HIF_EVENT_IDE_INSECURE : Fld := ⟨0x14, 3, 1⟩
def HIF_EVENT_SPDM_END : Fld := ⟨0x14, 4, 1⟩
def HIF_EVENT_HOLD_CHANGE : Fld := ⟨0x14, 5, 1⟩
def HIF_EVENT_RESTART_ADVISED : Fld := ⟨0x14, 6, 1⟩
def HIF_EVENT_LINK_CHANGE : Fld := ⟨0x14, 7, 1⟩

def HIF_EVENT_EN_EN : Fld := ⟨0x18, 0, 8⟩

def HIF_ABSENT_HITS_HITS : Fld := ⟨0x1C, 0, 32⟩

def HIF_BAR2_STRAY_WRITES : Fld := ⟨0x20, 0, 32⟩

def HIF_QERR_INFO_ALLOTMENT : Fld := ⟨0x24, 0, 11⟩
def HIF_QERR_INFO_QUEUE : Fld := ⟨0x24, 11, 3⟩
def HIF_QERR_INFO_STEWARD : Fld := ⟨0x24, 14, 1⟩
def HIF_QERR_INFO_KIND : Fld := ⟨0x24, 16, 4⟩
def HIF_QERR_INFO_VALID : Fld := ⟨0x24, 31, 1⟩

def HIF_LINK_SPEED : Fld := ⟨0x28, 0, 3⟩
def HIF_LINK_WIDTH : Fld := ⟨0x28, 8, 5⟩
def HIF_LINK_FLIT : Fld := ⟨0x28, 13, 1⟩
def HIF_LINK_RETRAINS : Fld := ⟨0x28, 16, 16⟩

def HIF_SMB_ADDR : Fld := ⟨0x2C, 0, 7⟩
def HIF_SMB_ENABLE : Fld := ⟨0x2C, 8, 1⟩

def HIF_IDE_STATUS_LINK_SECURE : Fld := ⟨0x30, 0, 1⟩
def HIF_IDE_STATUS_SEL_SECURE : Fld := ⟨0x30, 1, 8⟩
def HIF_IDE_STATUS_LINK_KSET : Fld := ⟨0x30, 9, 1⟩
def HIF_IDE_STATUS_FAILS : Fld := ⟨0x30, 16, 8⟩

def HIF_SPDM_STATUS_VERSION : Fld := ⟨0x34, 0, 2⟩
def HIF_SPDM_STATUS_EXT_ASYM : Fld := ⟨0x34, 2, 1⟩
def HIF_SPDM_STATUS_SESSIONS : Fld := ⟨0x34, 3, 3⟩

def HIF_RESET_CNT_PERST : Fld := ⟨0x38, 0, 16⟩
def HIF_RESET_CNT_FLR : Fld := ⟨0x38, 16, 8⟩
def HIF_RESET_CNT_D3 : Fld := ⟨0x38, 24, 8⟩

/-! Registers of spec/07_allotments.md, R152. -/

def ALT_SEL_ALLOT : Fld := ⟨0x100000, 0, 11⟩
def ALT_SEL_QUEUE : Fld := ⟨0x100000, 11, 3⟩
def ALT_SEL_STEWARD : Fld := ⟨0x100000, 14, 1⟩

def ALT_CTL_CMD : Fld := ⟨0x100004, 0, 4⟩

def ALT_RESULT_STATUS : Fld := ⟨0x10000C, 0, 16⟩
def ALT_RESULT_IN_PROGRESS : Fld := ⟨0x10000C, 16, 1⟩

def ALT_GLB_CFG_STW_MBX_VEC : Fld := ⟨0x100028, 0, 13⟩

def ALT_MBX_EVT_EVT (i : Nat) : Fld := ⟨0x100100 + 0x4 * i, 0, 32⟩

/-! Registers of spec/08_custodians.md, R170. -/

def CUS_SLOTS_ENROLLED : Fld := ⟨0x1200000, 0, 16⟩
def CUS_SLOTS_MLDSA : Fld := ⟨0x1200000, 16, 16⟩

def CUS_STATUS_PENDING : Fld := ⟨0x1200004, 0, 7⟩
def CUS_STATUS_FULL : Fld := ⟨0x1200004, 7, 1⟩
def CUS_STATUS_SEEDED : Fld := ⟨0x1200004, 8, 1⟩

def CUS_CFG_PEND_MIN : Fld := ⟨0x1200008, 0, 11⟩

def CUS_EVENT_BAD_SIG : Fld := ⟨0x120000C, 0, 1⟩
def CUS_EVENT_EXPIRED : Fld := ⟨0x120000C, 1, 1⟩
def CUS_EVENT_REJECTED : Fld := ⟨0x120000C, 2, 1⟩
def CUS_EVENT_CLASS_CHANGED : Fld := ⟨0x120000C, 3, 1⟩
def CUS_EVENT_FULL : Fld := ⟨0x120000C, 4, 1⟩
def CUS_EVENT_CFG_REFUSED : Fld := ⟨0x120000C, 5, 1⟩

def CUS_BAD_SIG_COUNT : Fld := ⟨0x1200010, 0, 32⟩

def CUS_CLASS_MEMBERS (i : Nat) : Fld := ⟨0x1200020 + 0x4 * i, 0, 16⟩
def CUS_CLASS_K (i : Nat) : Fld := ⟨0x1200020 + 0x4 * i, 16, 5⟩
def CUS_CLASS_K_EFF (i : Nat) : Fld := ⟨0x1200020 + 0x4 * i, 21, 5⟩

def CUS_PEND_SEL_INDEX : Fld := ⟨0x1200040, 0, 6⟩

/-! Registers of spec/09_sward_and_drover.md, R200. -/

def DRV_STATUS_GRAPHS : Fld := ⟨0x200000, 0, 13⟩
def DRV_STATUS_BP_GRAPHS : Fld := ⟨0x200000, 13, 1⟩
def DRV_STATUS_BP_LISTS : Fld := ⟨0x200000, 14, 1⟩
def DRV_STATUS_BP_OPERAND : Fld := ⟨0x200000, 15, 1⟩
def DRV_STATUS_TWO_BANKS : Fld := ⟨0x200000, 16, 1⟩

def DRV_CFG_AGE_US : Fld := ⟨0x200004, 0, 16⟩
def DRV_CFG_ST_INTERVAL_MIN : Fld := ⟨0x200004, 16, 8⟩

def DRV_DRAIN_DRAIN_US : Fld := ⟨0x200008, 0, 16⟩

def DRV_RESULT_STATUS : Fld := ⟨0x20000C, 0, 16⟩
def DRV_RESULT_IN_PROGRESS : Fld := ⟨0x20000C, 16, 1⟩

def DRV_STALE_EPOCH_COUNT : Fld := ⟨0x200010, 0, 32⟩

def DRV_REQUEUE_COUNT : Fld := ⟨0x200014, 0, 32⟩

def DRV_RECLAIM_COUNT : Fld := ⟨0x200018, 0, 32⟩

def DRV_TIMERS_IN_USE : Fld := ⟨0x20001C, 0, 17⟩

def DRV_TIMER_FULL_COUNT : Fld := ⟨0x200020, 0, 32⟩

def DRV_EVENT_FAULT_FALLOW : Fld := ⟨0x200024, 0, 1⟩
def DRV_EVENT_AUTO_RESTART : Fld := ⟨0x200024, 1, 1⟩
def DRV_EVENT_AUTO_HELD : Fld := ⟨0x200024, 2, 1⟩
def DRV_EVENT_TIMER_FULL : Fld := ⟨0x200024, 3, 1⟩
def DRV_EVENT_PORT_HOLD : Fld := ⟨0x200024, 4, 1⟩
def DRV_EVENT_CFG_REFUSED : Fld := ⟨0x200024, 5, 1⟩

def DRV_TICK_LO_TICK : Fld := ⟨0x200028, 0, 32⟩

def DRV_TICK_HI_TICK : Fld := ⟨0x20002C, 0, 32⟩

def DRV_RL_DEPTH (i : Nat) : Fld := ⟨0x200040 + 0x4 * i, 0, 12⟩
def DRV_RL_FULL (i : Nat) : Fld := ⟨0x200040 + 0x4 * i, 12, 1⟩
def DRV_RL_ACTIVE_CELLS (i : Nat) : Fld := ⟨0x200040 + 0x4 * i, 16, 8⟩

def DRV_MDW_CTL_CMD (i : Nat) : Fld := ⟨0x200080 + 0x4 * i, 0, 4⟩

def DRV_MDW_STAT_STATE (i : Nat) : Fld := ⟨0x2000A0 + 0x4 * i, 0, 3⟩
def DRV_MDW_STAT_FAULT_FALLOW (i : Nat) : Fld := ⟨0x2000A0 + 0x4 * i, 3, 6⟩
def DRV_MDW_STAT_ACTIVE (i : Nat) : Fld := ⟨0x2000A0 + 0x4 * i, 9, 6⟩
def DRV_MDW_STAT_AUTO_HELD (i : Nat) : Fld := ⟨0x2000A0 + 0x4 * i, 15, 1⟩
def DRV_MDW_STAT_RESTARTS (i : Nat) : Fld := ⟨0x2000A0 + 0x4 * i, 16, 8⟩

/-! Registers of spec/09_sward_and_drover.md, R201. -/

def SWD_CELL_STAT_STATE (i : Nat) : Fld := ⟨0x300000 + 0x1000 * i, 0, 3⟩
def SWD_CELL_STAT_ROLE (i : Nat) : Fld := ⟨0x300000 + 0x1000 * i, 4, 3⟩
def SWD_CELL_STAT_EPOCH (i : Nat) : Fld := ⟨0x300000 + 0x1000 * i, 8, 8⟩
def SWD_CELL_STAT_SLOT0 (i : Nat) : Fld := ⟨0x300000 + 0x1000 * i, 16, 1⟩
def SWD_CELL_STAT_SLOT1 (i : Nat) : Fld := ⟨0x300000 + 0x1000 * i, 17, 1⟩
def SWD_CELL_STAT_YIELDED (i : Nat) : Fld := ⟨0x300000 + 0x1000 * i, 18, 1⟩
def SWD_CELL_STAT_OLD_BALE (i : Nat) : Fld := ⟨0x300000 + 0x1000 * i, 19, 1⟩
def SWD_CELL_STAT_FALLOW_CAUSE (i : Nat) : Fld := ⟨0x300000 + 0x1000 * i, 20, 4⟩

def SWD_CELL_CTL_CMD (i : Nat) : Fld := ⟨0x300004 + 0x1000 * i, 0, 4⟩
def SWD_CELL_CTL_NEXT_ROLE (i : Nat) : Fld := ⟨0x300004 + 0x1000 * i, 4, 3⟩

def SWD_CELL_FAULT_MISMATCH_1S (i : Nat) : Fld := ⟨0x300008 + 0x1000 * i, 0, 5⟩
def SWD_CELL_FAULT_SELFTEST_FAILS (i : Nat) : Fld := ⟨0x300008 + 0x1000 * i, 8, 8⟩
def SWD_CELL_FAULT_MISMATCH_TOTAL (i : Nat) : Fld := ⟨0x300008 + 0x1000 * i, 16, 16⟩

def SWD_CELL_NODES_COUNT (i : Nat) : Fld := ⟨0x30000C + 0x1000 * i, 0, 32⟩

def SWD_ARB_PRIO (i : Nat) : Fld := ⟨0x300010 + 0x1000 * i, 0, 4⟩
def SWD_ARB_LIMIT (i : Nat) : Fld := ⟨0x300010 + 0x1000 * i, 4, 10⟩
def SWD_ARB_WAIT (i : Nat) : Fld := ⟨0x300010 + 0x1000 * i, 14, 10⟩

def SWD_ARB_REF_PRIO (i : Nat) : Fld := ⟨0x300014 + 0x8000 * i, 0, 4⟩
def SWD_ARB_REF_LIMIT (i : Nat) : Fld := ⟨0x300014 + 0x8000 * i, 4, 10⟩
def SWD_ARB_REF_WAIT (i : Nat) : Fld := ⟨0x300014 + 0x8000 * i, 14, 10⟩

def SWD_ARB_STL_PRIO (i : Nat) : Fld := ⟨0x300018 + 0x8000 * i, 0, 4⟩
def SWD_ARB_STL_LIMIT (i : Nat) : Fld := ⟨0x300018 + 0x8000 * i, 4, 10⟩
def SWD_ARB_STL_WAIT (i : Nat) : Fld := ⟨0x300018 + 0x8000 * i, 14, 10⟩

def SWD_ARB_STAT_OWNER (i : Nat) : Fld := ⟨0x30001C + 0x8000 * i, 0, 4⟩
def SWD_ARB_STAT_PREEMPTS (i : Nat) : Fld := ⟨0x30001C + 0x8000 * i, 16, 16⟩

/-! Registers of spec/14_barrow.md, R321. -/

def BAR_STATUS_ERA : Fld := ⟨0x400000, 0, 8⟩
def BAR_STATUS_ROOT_OPEN : Fld := ⟨0x400000, 8, 1⟩
def BAR_STATUS_INVALIDATING : Fld := ⟨0x400000, 9, 1⟩
def BAR_STATUS_SLOTS_FULL : Fld := ⟨0x400000, 10, 1⟩
def BAR_STATUS_ROOT_NEW : Fld := ⟨0x400000, 11, 1⟩

def BAR_SLOTS_USED_COUNT : Fld := ⟨0x400004, 0, 21⟩

def BAR_SLOTS_ORPHANED_COUNT : Fld := ⟨0x400008, 0, 21⟩

def BAR_SLOTS_POISONED_COUNT : Fld := ⟨0x40000C, 0, 21⟩

def BAR_HOT_E_USED : Fld := ⟨0x400010, 0, 14⟩

def BAR_HOT_W_USED : Fld := ⟨0x400014, 0, 14⟩

def BAR_HOT_HITS_COUNT : Fld := ⟨0x400018, 0, 32⟩

def BAR_HOT_MISSES_COUNT : Fld := ⟨0x40001C, 0, 32⟩

def BAR_RECLAIMS_COUNT : Fld := ⟨0x400020, 0, 32⟩

def BAR_EVENT_SLOTS_FULL : Fld := ⟨0x400024, 0, 1⟩
def BAR_EVENT_RECLAIM : Fld := ⟨0x400024, 1, 1⟩
def BAR_EVENT_POISON : Fld := ⟨0x400024, 2, 1⟩
def BAR_EVENT_ERA_CHANGE : Fld := ⟨0x400024, 3, 1⟩
def BAR_EVENT_ROOT_LOST : Fld := ⟨0x400024, 4, 1⟩

def BAR_MASTERS_COUNT : Fld := ⟨0x400028, 0, 12⟩
def BAR_MASTERS_STEWARD : Fld := ⟨0x400028, 12, 1⟩

/-! Registers of spec/15_skylark.md, R335. -/

def SKY_STATUS_SUPPLY : Fld := ⟨0x500000, 0, 3⟩
def SKY_STATUS_SEED_STOPPED : Fld := ⟨0x500000, 3, 1⟩
def SKY_STATUS_STRETCHING : Fld := ⟨0x500000, 4, 1⟩
def SKY_STATUS_AT_LIMIT : Fld := ⟨0x500000, 5, 1⟩
def SKY_STATUS_EMPTY_READ : Fld := ⟨0x500000, 6, 1⟩
def SKY_STATUS_CLIENT_INST : Fld := ⟨0x500000, 7, 1⟩
def SKY_STATUS_SOURCES_IN : Fld := ⟨0x500000, 16, 5⟩

def SKY_FAIL_LIMIT_LIMIT : Fld := ⟨0x500004, 0, 5⟩

def SKY_SRC_EXCL_EXCLUDED : Fld := ⟨0x500008, 0, 24⟩

def SKY_EVENT_HEALTH_FAIL : Fld := ⟨0x50000C, 0, 1⟩
def SKY_EVENT_EXCLUDED : Fld := ⟨0x50000C, 1, 1⟩
def SKY_EVENT_READMITTED : Fld := ⟨0x50000C, 2, 1⟩
def SKY_EVENT_SUPPLY_STOPPED : Fld := ⟨0x50000C, 3, 1⟩
def SKY_EVENT_SEED_STOPPED : Fld := ⟨0x50000C, 4, 1⟩
def SKY_EVENT_AT_LIMIT : Fld := ⟨0x50000C, 5, 1⟩
def SKY_EVENT_CFG_REFUSED : Fld := ⟨0x50000C, 6, 1⟩

def SKY_DATA_DATA : Fld := ⟨0x500010, 0, 24⟩
def SKY_DATA_VALID : Fld := ⟨0x500010, 31, 1⟩

def SKY_FAILS_COUNT : Fld := ⟨0x500014, 0, 32⟩

def SKY_RESEEDS_COUNT : Fld := ⟨0x500018, 0, 32⟩

def SKY_STRETCH_MAX : Fld := ⟨0x50001C, 0, 21⟩

def SKY_SRC_WINDOW (i : Nat) : Fld := ⟨0x500040 + 0x4 * i, 0, 11⟩
def SKY_SRC_EXCLUDED (i : Nat) : Fld := ⟨0x500040 + 0x4 * i, 11, 1⟩
def SKY_SRC_TOTAL (i : Nat) : Fld := ⟨0x500040 + 0x4 * i, 16, 16⟩

/-! Registers of spec/16_furrow_datapath.md, R357. -/

def FUR_GLB_STATUS_PRESENT : Fld := ⟨0x600000, 0, 1⟩
def FUR_GLB_STATUS_REF156_OK : Fld := ⟨0x600000, 1, 1⟩
def FUR_GLB_STATUS_RUNNING : Fld := ⟨0x600000, 2, 2⟩

def FUR_GLB_EVENT_FAULTED : Fld := ⟨0x600004, 0, 2⟩
def FUR_GLB_EVENT_LINK_CHANGE : Fld := ⟨0x600004, 2, 1⟩
def FUR_GLB_EVENT_RULE_REFUSED : Fld := ⟨0x600004, 3, 1⟩
def FUR_GLB_EVENT_CFG_REFUSED : Fld := ⟨0x600004, 4, 1⟩
def FUR_GLB_EVENT_DIVERT_DROP : Fld := ⟨0x600004, 5, 1⟩

def FUR_PG_CTL_CMD (i : Nat) : Fld := ⟨0x610000 + 0x1000 * i, 0, 4⟩

def FUR_PG_STAT_STATE (i : Nat) : Fld := ⟨0x610004 + 0x1000 * i, 0, 3⟩
def FUR_PG_STAT_MODE (i : Nat) : Fld := ⟨0x610004 + 0x1000 * i, 3, 2⟩
def FUR_PG_STAT_IN_PROGRESS (i : Nat) : Fld := ⟨0x610004 + 0x1000 * i, 5, 1⟩
def FUR_PG_STAT_RESULT (i : Nat) : Fld := ⟨0x610004 + 0x1000 * i, 16, 16⟩

def FUR_PG_CFG_MODE (i : Nat) : Fld := ⟨0x610008 + 0x1000 * i, 0, 2⟩
def FUR_PG_CFG_KR (i : Nat) : Fld := ⟨0x610008 + 0x1000 * i, 2, 1⟩
def FUR_PG_CFG_FLOW_OFF (i : Nat) : Fld := ⟨0x610008 + 0x1000 * i, 4, 6⟩

def FUR_PG_MISMATCH_WINDOW (i : Nat) : Fld := ⟨0x61000C + 0x1000 * i, 0, 5⟩
def FUR_PG_MISMATCH_TOTAL (i : Nat) : Fld := ⟨0x61000C + 0x1000 * i, 16, 16⟩

def FUR_PG_CNT_LOST_COUNT (i : Nat) : Fld := ⟨0x610010 + 0x1000 * i, 0, 32⟩

def FUR_PG_RULE_STAT_LAST (i : Nat) : Fld := ⟨0x610014 + 0x1000 * i, 0, 13⟩
def FUR_PG_RULE_STAT_PENDING (i : Nat) : Fld := ⟨0x610014 + 0x1000 * i, 13, 1⟩
def FUR_PG_RULE_STAT_REFUSED (i : Nat) : Fld := ⟨0x610014 + 0x1000 * i, 14, 1⟩
def FUR_PG_RULE_STAT_VALID (i : Nat) : Fld := ⟨0x610014 + 0x1000 * i, 16, 14⟩

def FUR_PORT_STAT_LINK_UP (i : Nat) : Fld := ⟨0x620000 + 0x800 * i, 0, 1⟩
def FUR_PORT_STAT_LOCAL_FAULT (i : Nat) : Fld := ⟨0x620000 + 0x800 * i, 1, 1⟩
def FUR_PORT_STAT_REMOTE_FAULT (i : Nat) : Fld := ⟨0x620000 + 0x800 * i, 2, 1⟩
def FUR_PORT_STAT_TRAINING (i : Nat) : Fld := ⟨0x620000 + 0x800 * i, 3, 1⟩
def FUR_PORT_STAT_FLAPS (i : Nat) : Fld := ⟨0x620000 + 0x800 * i, 16, 16⟩

def FUR_PORT_CFG_DEFAULT_ACT (i : Nat) : Fld := ⟨0x620004 + 0x800 * i, 0, 1⟩
def FUR_PORT_CFG_MKA_EN (i : Nat) : Fld := ⟨0x620004 + 0x800 * i, 1, 1⟩
def FUR_PORT_CFG_FC_MODE (i : Nat) : Fld := ⟨0x620004 + 0x800 * i, 2, 2⟩
def FUR_PORT_CFG_MAX_FRAME (i : Nat) : Fld := ⟨0x620004 + 0x800 * i, 4, 14⟩
def FUR_PORT_CFG_DIVERT_RATE (i : Nat) : Fld := ⟨0x620004 + 0x800 * i, 20, 12⟩

def FUR_PORT_RX_FRAMES_COUNT (i : Nat) : Fld := ⟨0x620010 + 0x800 * i, 0, 32⟩

def FUR_PORT_TX_FRAMES_COUNT (i : Nat) : Fld := ⟨0x62001C + 0x800 * i, 0, 32⟩

def FUR_PORT_RX_FCS_ERR_COUNT (i : Nat) : Fld := ⟨0x620028 + 0x800 * i, 0, 32⟩

def FUR_PORT_RX_RUNT_COUNT (i : Nat) : Fld := ⟨0x62002C + 0x800 * i, 0, 32⟩

def FUR_PORT_RX_OVERSIZE_COUNT (i : Nat) : Fld := ⟨0x620030 + 0x800 * i, 0, 32⟩

def FUR_PORT_MATCH_DROP_COUNT (i : Nat) : Fld := ⟨0x620034 + 0x800 * i, 0, 32⟩

def FUR_PORT_BYPASS_COUNT (i : Nat) : Fld := ⟨0x620038 + 0x800 * i, 0, 32⟩

def FUR_PORT_DIVERT_COUNT (i : Nat) : Fld := ⟨0x62003C + 0x800 * i, 0, 32⟩

def FUR_PORT_DIVERT_DROP_COUNT (i : Nat) : Fld := ⟨0x620040 + 0x800 * i, 0, 32⟩

def FUR_PORT_LATE_DROP_COUNT (i : Nat) : Fld := ⟨0x620044 + 0x800 * i, 0, 32⟩

def FUR_PORT_MISMATCH_DROP_COUNT (i : Nat) : Fld := ⟨0x620048 + 0x800 * i, 0, 32⟩

def FUR_PORT_STOP_DROP_COUNT (i : Nat) : Fld := ⟨0x62004C + 0x800 * i, 0, 32⟩

def FUR_PORT_RX_PAUSE_COUNT (i : Nat) : Fld := ⟨0x620050 + 0x800 * i, 0, 32⟩

def FUR_PORT_FEC_CORR_COUNT (i : Nat) : Fld := ⟨0x620054 + 0x800 * i, 0, 32⟩

def FUR_PORT_FEC_UNCORR_COUNT (i : Nat) : Fld := ⟨0x620058 + 0x800 * i, 0, 32⟩

def FUR_PORT_OUT_UNTAGGED_COUNT (i : Nat) : Fld := ⟨0x620060 + 0x800 * i, 0, 32⟩

def FUR_PORT_OUT_TOO_LONG_COUNT (i : Nat) : Fld := ⟨0x620064 + 0x800 * i, 0, 32⟩

def FUR_PORT_EG_WAIT_COUNT (i : Nat) : Fld := ⟨0x620068 + 0x800 * i, 0, 32⟩

def FUR_PORT_EG_OVERFLOW_COUNT (i : Nat) : Fld := ⟨0x62006C + 0x800 * i, 0, 32⟩

def FUR_PORT_EG_NO_SA_COUNT (i : Nat) : Fld := ⟨0x620070 + 0x800 * i, 0, 32⟩

def FUR_PORT_IN_NO_TAG_COUNT (i : Nat) : Fld := ⟨0x628060 + 0x800 * i, 0, 32⟩

def FUR_PORT_IN_BAD_TAG_COUNT (i : Nat) : Fld := ⟨0x628064 + 0x800 * i, 0, 32⟩

def FUR_PORT_IN_UNKNOWN_SCI_COUNT (i : Nat) : Fld := ⟨0x628068 + 0x800 * i, 0, 32⟩

def FUR_PORT_IN_NO_SCI_COUNT (i : Nat) : Fld := ⟨0x62806C + 0x800 * i, 0, 32⟩

def FUR_PORT_RX_OCT_LO_COUNT (i : Nat) : Fld := ⟨0x620014 + 0x800 * i, 0, 32⟩

def FUR_PORT_TX_OCT_LO_COUNT (i : Nat) : Fld := ⟨0x620020 + 0x800 * i, 0, 32⟩

def FUR_PORT_RX_OCT_HI_COUNT (i : Nat) : Fld := ⟨0x620018 + 0x800 * i, 0, 32⟩

def FUR_PORT_TX_OCT_HI_COUNT (i : Nat) : Fld := ⟨0x620024 + 0x800 * i, 0, 32⟩

def FUR_PORT_IN_OVERRUN_COUNT (i : Nat) : Fld := ⟨0x628070 + 0x800 * i, 0, 32⟩

def FUR_RULE_DW0_VALID (i : Nat) : Fld := ⟨0x640000 + 0x20 * i, 0, 1⟩
def FUR_RULE_DW0_DIR (i : Nat) : Fld := ⟨0x640000 + 0x20 * i, 1, 1⟩
def FUR_RULE_DW0_ACTION (i : Nat) : Fld := ⟨0x640000 + 0x20 * i, 2, 2⟩
def FUR_RULE_DW0_CLEAR_TAGS (i : Nat) : Fld := ⟨0x640000 + 0x20 * i, 4, 2⟩
def FUR_RULE_DW0_TAGS (i : Nat) : Fld := ⟨0x640000 + 0x20 * i, 6, 2⟩
def FUR_RULE_DW0_PORT_MASK (i : Nat) : Fld := ⟨0x640000 + 0x20 * i, 8, 8⟩

def FUR_RULE_DW1_TCI (i : Nat) : Fld := ⟨0x640004 + 0x20 * i, 0, 16⟩
def FUR_RULE_DW1_TCI_MASK (i : Nat) : Fld := ⟨0x640004 + 0x20 * i, 16, 16⟩

def FUR_RULE_DW2_ETYPE (i : Nat) : Fld := ⟨0x640008 + 0x20 * i, 0, 16⟩
def FUR_RULE_DW2_ETYPE_MASK (i : Nat) : Fld := ⟨0x640008 + 0x20 * i, 16, 16⟩

def FUR_RULE_DW3_FLOW (i : Nat) : Fld := ⟨0x64000C + 0x20 * i, 0, 32⟩

def FUR_RULE_DW4_FLOW_MASK (i : Nat) : Fld := ⟨0x640010 + 0x20 * i, 0, 32⟩

def FUR_RULE_DW5_CHANNEL (i : Nat) : Fld := ⟨0x640014 + 0x20 * i, 0, 14⟩

def FUR_RULE_DW7_COMMIT (i : Nat) : Fld := ⟨0x64001C + 0x20 * i, 0, 1⟩

/-! Registers of spec/17_furrow_associations.md, R380. -/

def FUR_CH_DW0_VALID (i : Nat) : Fld := ⟨0x800000 + 0x40 * i, 0, 1⟩
def FUR_CH_DW0_DIR (i : Nat) : Fld := ⟨0x800000 + 0x40 * i, 1, 1⟩
def FUR_CH_DW0_PG (i : Nat) : Fld := ⟨0x800000 + 0x40 * i, 2, 1⟩
def FUR_CH_DW0_PORT (i : Nat) : Fld := ⟨0x800000 + 0x40 * i, 3, 4⟩
def FUR_CH_DW0_KIND (i : Nat) : Fld := ⟨0x800000 + 0x40 * i, 7, 1⟩
def FUR_CH_DW0_SUITE (i : Nat) : Fld := ⟨0x800000 + 0x40 * i, 8, 2⟩
def FUR_CH_DW0_CONF (i : Nat) : Fld := ⟨0x800000 + 0x40 * i, 10, 1⟩
def FUR_CH_DW0_CONF_OFF (i : Nat) : Fld := ⟨0x800000 + 0x40 * i, 11, 2⟩
def FUR_CH_DW0_SC (i : Nat) : Fld := ⟨0x800000 + 0x40 * i, 13, 1⟩
def FUR_CH_DW0_ES (i : Nat) : Fld := ⟨0x800000 + 0x40 * i, 14, 1⟩
def FUR_CH_DW0_SCB (i : Nat) : Fld := ⟨0x800000 + 0x40 * i, 15, 1⟩
def FUR_CH_DW0_VALIDATE (i : Nat) : Fld := ⟨0x800000 + 0x40 * i, 16, 1⟩
def FUR_CH_DW0_REPLAY (i : Nat) : Fld := ⟨0x800000 + 0x40 * i, 17, 1⟩
def FUR_CH_DW0_DEFAULT (i : Nat) : Fld := ⟨0x800000 + 0x40 * i, 18, 1⟩

def FUR_CH_DW1_SCI_LO (i : Nat) : Fld := ⟨0x800004 + 0x40 * i, 0, 32⟩

def FUR_CH_DW2_SCI_HI (i : Nat) : Fld := ⟨0x800008 + 0x40 * i, 0, 32⟩

def FUR_CH_DW3_REPLAY_WIN (i : Nat) : Fld := ⟨0x80000C + 0x40 * i, 0, 31⟩

def FUR_CH_DW4_EXH_THRESH_LO (i : Nat) : Fld := ⟨0x800010 + 0x40 * i, 0, 32⟩

def FUR_CH_DW5_EXH_THRESH_HI (i : Nat) : Fld := ⟨0x800014 + 0x40 * i, 0, 32⟩

def FUR_CH_DW8_ENC_AN (i : Nat) : Fld := ⟨0x800020 + 0x40 * i, 0, 2⟩
def FUR_CH_DW8_ENC_VALID (i : Nat) : Fld := ⟨0x800020 + 0x40 * i, 2, 1⟩
def FUR_CH_DW8_ARMED (i : Nat) : Fld := ⟨0x800020 + 0x40 * i, 3, 1⟩
def FUR_CH_DW8_SW_AN (i : Nat) : Fld := ⟨0x800020 + 0x40 * i, 4, 2⟩
def FUR_CH_DW8_SW_MODE (i : Nat) : Fld := ⟨0x800020 + 0x40 * i, 6, 2⟩

def FUR_CH_DW9_SW_PN_LO (i : Nat) : Fld := ⟨0x800024 + 0x40 * i, 0, 32⟩

def FUR_CH_DW10_SW_PN_HI (i : Nat) : Fld := ⟨0x800028 + 0x40 * i, 0, 32⟩

def FUR_CH_DW15_COMMIT (i : Nat) : Fld := ⟨0x80003C + 0x40 * i, 0, 1⟩

def FUR_SA_DW0_ENABLE (i : Nat) : Fld := ⟨0x900000 + 0x20 * i, 0, 1⟩
def FUR_SA_DW0_STATE (i : Nat) : Fld := ⟨0x900000 + 0x20 * i, 1, 3⟩
def FUR_SA_DW0_THRESH (i : Nat) : Fld := ⟨0x900000 + 0x20 * i, 4, 1⟩
def FUR_SA_DW0_SOURCE (i : Nat) : Fld := ⟨0x900000 + 0x20 * i, 5, 2⟩
def FUR_SA_DW0_KEY_GEN (i : Nat) : Fld := ⟨0x900000 + 0x20 * i, 8, 8⟩

def FUR_SA_DW1_PN_LO (i : Nat) : Fld := ⟨0x900004 + 0x20 * i, 0, 32⟩

def FUR_SA_DW2_PN_HI (i : Nat) : Fld := ⟨0x900008 + 0x20 * i, 0, 32⟩

def FUR_SA_DW3_SSCI (i : Nat) : Fld := ⟨0x90000C + 0x20 * i, 0, 32⟩

def FUR_SA_DW7_COMMIT (i : Nat) : Fld := ⟨0x90001C + 0x20 * i, 0, 1⟩

def FUR_SA_STATUS_KEYED : Fld := ⟨0xB00000, 0, 17⟩
def FUR_SA_STATUS_INSTANCES : Fld := ⟨0xB00000, 17, 13⟩
def FUR_SA_STATUS_LINK_MASTER : Fld := ⟨0xB00000, 30, 1⟩

def FUR_SA_EVENT_THRESH : Fld := ⟨0xB00004, 0, 1⟩
def FUR_SA_EVENT_EXHAUSTED : Fld := ⟨0xB00004, 1, 1⟩
def FUR_SA_EVENT_COMMIT_REFUSED : Fld := ⟨0xB00004, 2, 1⟩
def FUR_SA_EVENT_FIFO_OVERFLOW : Fld := ⟨0xB00004, 3, 1⟩
def FUR_SA_EVENT_SWITCHED : Fld := ⟨0xB00004, 4, 1⟩
def FUR_SA_EVENT_ARM_REFUSED : Fld := ⟨0xB00004, 5, 1⟩

def FUR_SA_RESULT_STATUS : Fld := ⟨0xB00008, 0, 16⟩

def FUR_SA_RESULT_IDX_INDEX : Fld := ⟨0xB0000C, 0, 16⟩
def FUR_SA_RESULT_IDX_KIND : Fld := ⟨0xB0000C, 16, 1⟩

def FUR_SA_EXH_FIFO_ASSOC (i : Nat) : Fld := ⟨0xB00010 + 0x4 * i, 0, 16⟩
def FUR_SA_EXH_FIFO_LAST (i : Nat) : Fld := ⟨0xB00010 + 0x4 * i, 16, 1⟩
def FUR_SA_EXH_FIFO_VALID (i : Nat) : Fld := ⟨0xB00010 + 0x4 * i, 31, 1⟩

def FUR_SA_EXH_DROP_COUNT : Fld := ⟨0xB00018, 0, 32⟩

/-! Registers of spec/18_thatch_and_hedgerow.md, R400. -/

def THA_STATUS_E_READY : Fld := ⟨0xC00000, 0, 1⟩
def THA_STATUS_W_READY : Fld := ⟨0xC00000, 1, 1⟩
def THA_STATUS_FROZEN_ANY : Fld := ⟨0xC00000, 2, 1⟩

def THA_EVENT_CE : Fld := ⟨0xC00004, 0, 1⟩
def THA_EVENT_POISON : Fld := ⟨0xC00004, 1, 1⟩
def THA_EVENT_NODE_REPAIR : Fld := ⟨0xC00004, 2, 1⟩
def THA_EVENT_COUNTER_END : Fld := ⟨0xC00004, 3, 1⟩
def THA_EVENT_CFG_REFUSED : Fld := ⟨0xC00004, 4, 1⟩

def THA_SCRUB_CFG_PERIOD_H : Fld := ⟨0xC00008, 0, 8⟩

def THA_CE_CNT_COUNT (i : Nat) : Fld := ⟨0xC00010 + 0x20 * i, 0, 32⟩

def THA_UE_CNT_COUNT (i : Nat) : Fld := ⟨0xC00014 + 0x20 * i, 0, 32⟩

def THA_POISONED_LINES (i : Nat) : Fld := ⟨0xC00018 + 0x20 * i, 0, 28⟩

def THA_NODE_REPAIR_COUNT (i : Nat) : Fld := ⟨0xC0001C + 0x20 * i, 0, 32⟩

def THA_FROZEN_LINES (i : Nat) : Fld := ⟨0xC00020 + 0x20 * i, 0, 28⟩

def THA_LAST_ERR_LINE (i : Nat) : Fld := ⟨0xC00024 + 0x20 * i, 0, 28⟩
def THA_LAST_ERR_KIND (i : Nat) : Fld := ⟨0xC00024 + 0x20 * i, 28, 3⟩
def THA_LAST_ERR_VALID (i : Nat) : Fld := ⟨0xC00024 + 0x20 * i, 31, 1⟩

def THA_SCRUB_POS_LINE (i : Nat) : Fld := ⟨0xC00028 + 0x20 * i, 0, 28⟩

/-! Registers of spec/18_thatch_and_hedgerow.md, R401. -/

def HDG_FAULT_UNIT : Fld := ⟨0xC01000, 0, 9⟩
def HDG_FAULT_FAULT : Fld := ⟨0xC01000, 16, 1⟩

def HDG_DENIES_COUNT : Fld := ⟨0xC01004, 0, 32⟩

def HDG_LAST_DENY_UNIT : Fld := ⟨0xC01008, 0, 9⟩

def HDG_UPDATES_COUNT : Fld := ⟨0xC0100C, 0, 32⟩

def HDG_U_STAT_ENABLED (i : Nat) : Fld := ⟨0xC10000 + 0x400 * i, 0, 1⟩
def HDG_U_STAT_ACTIVE_SET (i : Nat) : Fld := ⟨0xC10000 + 0x400 * i, 1, 1⟩
def HDG_U_STAT_UPDATING (i : Nat) : Fld := ⟨0xC10000 + 0x400 * i, 2, 1⟩
def HDG_U_STAT_FAULT (i : Nat) : Fld := ⟨0xC10000 + 0x400 * i, 3, 1⟩

def HDG_U_DENY_VALID (i : Nat) : Fld := ⟨0xC10004 + 0x400 * i, 0, 1⟩
def HDG_U_DENY_SUB (i : Nat) : Fld := ⟨0xC10004 + 0x400 * i, 1, 3⟩
def HDG_U_DENY_MASTER (i : Nat) : Fld := ⟨0xC10004 + 0x400 * i, 4, 2⟩
def HDG_U_DENY_KIND (i : Nat) : Fld := ⟨0xC10004 + 0x400 * i, 6, 2⟩
def HDG_U_DENY_ATTR (i : Nat) : Fld := ⟨0xC10004 + 0x400 * i, 8, 3⟩
def HDG_U_DENY_WORLD (i : Nat) : Fld := ⟨0xC10004 + 0x400 * i, 11, 1⟩

def HDG_U_DENY_ADDR_LO_ADDR (i : Nat) : Fld := ⟨0xC10008 + 0x400 * i, 6, 26⟩

def HDG_U_DENY_ADDR_HI_ADDR (i : Nat) : Fld := ⟨0xC1000C + 0x400 * i, 0, 16⟩

def HDG_U_DENY_CNT_COUNT (i : Nat) : Fld := ⟨0xC10010 + 0x400 * i, 0, 32⟩

def HDG_R_DW0_BASE_LO (i j : Nat) : Fld := ⟨0xC10100 + 0x400 * i + 0x10 * j, 6, 26⟩

def HDG_R_DW1_BASE_HI (i j : Nat) : Fld := ⟨0xC10104 + 0x400 * i + 0x10 * j, 0, 16⟩
def HDG_R_DW1_LIMIT_HI (i j : Nat) : Fld := ⟨0xC10104 + 0x400 * i + 0x10 * j, 16, 16⟩

def HDG_R_DW2_LIMIT_LO (i j : Nat) : Fld := ⟨0xC10108 + 0x400 * i + 0x10 * j, 6, 26⟩

def HDG_R_DW3_VALID (i j : Nat) : Fld := ⟨0xC1010C + 0x400 * i + 0x10 * j, 0, 1⟩
def HDG_R_DW3_PERM (i j : Nat) : Fld := ⟨0xC1010C + 0x400 * i + 0x10 * j, 1, 3⟩
def HDG_R_DW3_MASTER (i j : Nat) : Fld := ⟨0xC1010C + 0x400 * i + 0x10 * j, 4, 4⟩
def HDG_R_DW3_WORLD (i j : Nat) : Fld := ⟨0xC1010C + 0x400 * i + 0x10 * j, 8, 2⟩
def HDG_R_DW3_ATTR (i j : Nat) : Fld := ⟨0xC1010C + 0x400 * i + 0x10 * j, 10, 3⟩

/-! Registers of spec/19_gorse.md, R420. -/

def GOR_STATUS_HOLD : Fld := ⟨0xD00000, 0, 1⟩
def GOR_STATUS_SWALE_BUSY : Fld := ⟨0xD00000, 1, 1⟩
def GOR_STATUS_HALT_PENDING : Fld := ⟨0xD00000, 2, 1⟩
def GOR_STATUS_ALARM_OUT : Fld := ⟨0xD00000, 3, 1⟩
def GOR_STATUS_PEAT_RECORDS : Fld := ⟨0xD00000, 4, 1⟩
def GOR_STATUS_LEDGER_FULL : Fld := ⟨0xD00000, 5, 1⟩
def GOR_STATUS_CFG_BALE : Fld := ⟨0xD00000, 6, 1⟩
def GOR_STATUS_LAST_SWALE : Fld := ⟨0xD00000, 7, 2⟩

def GOR_ALARM_ALARM : Fld := ⟨0xD00004, 0, 26⟩

def GOR_OUT_OUT : Fld := ⟨0xD00008, 0, 26⟩

def GOR_LEDGER_USED : Fld := ⟨0xD0000C, 0, 13⟩
def GOR_LEDGER_PENDING : Fld := ⟨0xD0000C, 13, 7⟩
def GOR_LEDGER_OVERFLOW : Fld := ⟨0xD0000C, 20, 12⟩

def GOR_LEDGER_SEL_INDEX : Fld := ⟨0xD00010, 0, 12⟩

def GOR_LEDGER_DATA_DATA (i : Nat) : Fld := ⟨0xD00014 + 0x4 * i, 0, 32⟩

def GOR_BIST_CTL_MONITOR : Fld := ⟨0xD00024, 0, 5⟩
def GOR_BIST_CTL_CHANNEL : Fld := ⟨0xD00024, 5, 3⟩
def GOR_BIST_CTL_START : Fld := ⟨0xD00024, 8, 1⟩

def GOR_BIST_STAT_RESULT : Fld := ⟨0xD00028, 0, 2⟩
def GOR_BIST_STAT_BUSY : Fld := ⟨0xD00028, 2, 1⟩
def GOR_BIST_STAT_MONITOR : Fld := ⟨0xD00028, 3, 5⟩
def GOR_BIST_STAT_CHANNEL : Fld := ⟨0xD00028, 8, 3⟩
def GOR_BIST_STAT_SINCE_FULL_MIN : Fld := ⟨0xD00028, 16, 16⟩

def GOR_BIST_CFG_INTERVAL_H : Fld := ⟨0xD0002C, 0, 5⟩
def GOR_BIST_CFG_LOOPS : Fld := ⟨0xD0002C, 5, 4⟩

def GOR_COUNTS_NOTES : Fld := ⟨0xD00030, 0, 16⟩
def GOR_COUNTS_HOLDS : Fld := ⟨0xD00030, 16, 8⟩
def GOR_COUNTS_SWALES : Fld := ⟨0xD00030, 24, 8⟩

def GOR_MON_CFG_RESP (i : Nat) : Fld := ⟨0xD00040 + 0x4 * i, 0, 3⟩
def GOR_MON_CFG_MIN_RESP (i : Nat) : Fld := ⟨0xD00040 + 0x4 * i, 3, 3⟩
def GOR_MON_CFG_FIXED (i : Nat) : Fld := ⟨0xD00040 + 0x4 * i, 6, 1⟩
def GOR_MON_CFG_BACKUP (i : Nat) : Fld := ⟨0xD00040 + 0x4 * i, 7, 1⟩
def GOR_MON_CFG_ENABLED (i : Nat) : Fld := ⟨0xD00040 + 0x4 * i, 8, 1⟩

def GOR_MON_STAT_OUT (i : Nat) : Fld := ⟨0xD000C0 + 0x4 * i, 0, 1⟩
def GOR_MON_STAT_BIST_FAIL (i : Nat) : Fld := ⟨0xD000C0 + 0x4 * i, 1, 1⟩
def GOR_MON_STAT_TRIPS (i : Nat) : Fld := ⟨0xD000C0 + 0x4 * i, 16, 16⟩

/-! Registers of spec/20_cairn.md, R434. -/

def CRN_STATUS_FROZEN : Fld := ⟨0xE00000, 0, 1⟩
def CRN_STATUS_LOADING : Fld := ⟨0xE00000, 1, 1⟩
def CRN_STATUS_SPILLING : Fld := ⟨0xE00000, 2, 1⟩
def CRN_STATUS_UNSPILLED : Fld := ⟨0xE00000, 3, 8⟩

def CRN_CTL_CMD : Fld := ⟨0xE00004, 0, 4⟩

def CRN_EVENT_THAW_AUTO : Fld := ⟨0xE00008, 0, 1⟩
def CRN_EVENT_DROPPED : Fld := ⟨0xE00008, 1, 1⟩
def CRN_EVENT_NO_WINDOW : Fld := ⟨0xE00008, 2, 1⟩
def CRN_EVENT_LOAD_REFUSED : Fld := ⟨0xE00008, 3, 1⟩
def CRN_EVENT_CFG_REFUSED : Fld := ⟨0xE00008, 4, 1⟩

def CRN_HEAD_OFFSET : Fld := ⟨0xE0000C, 0, 12⟩
def CRN_HEAD_BLOCK : Fld := ⟨0xE0000C, 12, 8⟩

def CRN_TAIL_BLOCK : Fld := ⟨0xE00010, 0, 8⟩

def CRN_SPILL_DEVICE : Fld := ⟨0xE00014, 0, 1⟩
def CRN_SPILL_SECTOR : Fld := ⟨0xE00014, 1, 8⟩
def CRN_SPILL_BLOCK : Fld := ⟨0xE00014, 9, 4⟩

def CRN_RD_SEL_BLOCK : Fld := ⟨0xE00018, 0, 8⟩
def CRN_RD_SEL_DEVICE : Fld := ⟨0xE00018, 8, 1⟩
def CRN_RD_SEL_SECTOR : Fld := ⟨0xE00018, 9, 8⟩
def CRN_RD_SEL_FBLOCK : Fld := ⟨0xE00018, 17, 4⟩

def CRN_TIME_LO_TIME : Fld := ⟨0xE0001C, 0, 32⟩

def CRN_TIME_HI_TIME : Fld := ⟨0xE00020, 0, 16⟩

def CRN_PCC_COUNT : Fld := ⟨0xE00024, 0, 32⟩

def CRN_WALL_LO_VALUE : Fld := ⟨0xE00028, 0, 32⟩

def CRN_WALL_HI_VALUE : Fld := ⟨0xE0002C, 0, 32⟩

def CRN_DROPPED_COUNT : Fld := ⟨0xE00030, 0, 32⟩

def CRN_FROZEN_COUNT : Fld := ⟨0xE00034, 0, 32⟩

/-! Registers of spec/21_commons.md, R447. -/

def CMN_STATUS_MEMBER : Fld := ⟨0x1100000, 0, 1⟩
def CMN_STATUS_ROSTER_LOADED : Fld := ⟨0x1100000, 1, 1⟩
def CMN_STATUS_KEEPER : Fld := ⟨0x1100000, 2, 1⟩
def CMN_STATUS_SESSIONS : Fld := ⟨0x1100000, 3, 13⟩
def CMN_STATUS_REPLICAS : Fld := ⟨0x1100000, 16, 8⟩
def CMN_STATUS_OUTQ : Fld := ⟨0x1100000, 24, 8⟩

def CMN_EVENT_ROSTER_CONFLICT : Fld := ⟨0x1100004, 0, 1⟩
def CMN_EVENT_PEER_LOST : Fld := ⟨0x1100004, 1, 1⟩
def CMN_EVENT_MOVE_DONE : Fld := ⟨0x1100004, 2, 1⟩
def CMN_EVENT_ROSTER_CHANGE : Fld := ⟨0x1100004, 3, 1⟩
def CMN_EVENT_REPLICA_IN : Fld := ⟨0x1100004, 4, 1⟩

def CMN_SELF_INDEX : Fld := ⟨0x1100008, 0, 14⟩

def CMN_GEN_GEN : Fld := ⟨0x110000C, 0, 32⟩

def CMN_ID_ID (i : Nat) : Fld := ⟨0x1100010 + 0x4 * i, 0, 32⟩

def CMN_CFG_HB_MS : Fld := ⟨0x1100020, 0, 16⟩

def CMN_PEER_SEL_INDEX : Fld := ⟨0x1100024, 0, 14⟩
def CMN_PEER_SEL_ROUTE : Fld := ⟨0x1100024, 14, 1⟩
def CMN_PEER_SEL_ROUTE_WE : Fld := ⟨0x1100024, 15, 1⟩

def CMN_PEER_STAT_STATE : Fld := ⟨0x1100028, 0, 2⟩
def CMN_PEER_STAT_SENT : Fld := ⟨0x1100028, 2, 30⟩

def CMN_REPLAY_DROP_COUNT : Fld := ⟨0x110002C, 0, 32⟩

end Reg
end Sys2Proof.Machine
end

