-- ==== Sys2Proof/Machine/RegTable.lean ====
section
/-! DEFINITION. The register tables of spec/03 to spec/21: every BAR0 register that has an offset of its own, with the
access type (R10) and the reset value of each of its fields. A field whose reset the tables give as fuses, root store,
ledger, Peat or role map stands here with 0: what it reads is computed from the state that holds it. -/

namespace Sys2Proof.Machine

/-- The access types of R10. -/
inductive Acc | ro | rw | w1c | wo | rc
deriving DecidableEq, Repr

/-- One row of a register table: lowest bit, width, access type and reset value. -/
structure FldRow where
  lo : Nat
  w : Nat
  acc : Acc
  reset : Nat
deriving DecidableEq, Repr

/-- One register, or one array of registers: the dwords at base + s1 × i + s2 × j, i below c1 and j below c2. -/
structure RegRow where
  base : Nat
  s1 : Nat
  c1 : Nat
  s2 : Nat
  c2 : Nat
  flds : List FldRow
deriving DecidableEq, Repr

def pwrRows : List RegRow := [
  ⟨0xF00000, 0x4, 1, 0x4, 1, [⟨0, 1, .ro, 0x0⟩, ⟨1, 1, .ro, 0x0⟩, ⟨2, 1, .ro, 0x0⟩, ⟨3, 1, .ro, 0x0⟩, ⟨4, 1, .ro, 0x0⟩, ⟨5, 1, .ro, 0x0⟩, ⟨16, 16, .ro, 0x0⟩]⟩,
  ⟨0xF00004, 0x4, 1, 0x4, 1, [⟨0, 16, .ro, 0x0⟩, ⟨16, 16, .ro, 0x0⟩]⟩,
  ⟨0xF00008, 0x4, 1, 0x4, 1, [⟨0, 12, .ro, 0x0⟩]⟩,
  ⟨0xF0000C, 0x4, 1, 0x4, 1, [⟨0, 16, .ro, 0x0⟩, ⟨16, 1, .ro, 0x0⟩]⟩,
  ⟨0xF00010, 0x4, 1, 0x4, 1, [⟨0, 10, .rw, 0x5F⟩, ⟨31, 1, .rw, 0x1⟩]⟩,
  ⟨0xF00014, 0x4, 1, 0x4, 1, [⟨0, 1, .rw, 0x1⟩, ⟨4, 8, .rw, 0x40⟩, ⟨12, 16, .rw, 0x0⟩, ⟨28, 4, .rw, 0x8⟩]⟩,
  ⟨0xF00018, 0x4, 1, 0x4, 1, [⟨0, 1, .w1c, 0x0⟩, ⟨1, 1, .w1c, 0x0⟩, ⟨2, 1, .w1c, 0x0⟩, ⟨3, 1, .w1c, 0x0⟩, ⟨4, 1, .w1c, 0x0⟩]⟩,
  ⟨0xF00020, 0x4, 8, 0x4, 1, [⟨0, 2, .rw, 0x0⟩, ⟨4, 3, .wo, 0x0⟩]⟩,
  ⟨0xF00040, 0x4, 8, 0x4, 1, [⟨0, 3, .ro, 0x0⟩, ⟨4, 2, .ro, 0x3⟩, ⟨8, 1, .ro, 0x0⟩, ⟨16, 16, .ro, 0x0⟩]⟩,
  ⟨0xF00060, 0x4, 1, 0x4, 1, [⟨0, 10, .rc, 0x0⟩, ⟨10, 10, .rc, 0x0⟩, ⟨20, 10, .rc, 0x0⟩]⟩,
  ⟨0xF00064, 0x4, 1, 0x4, 1, [⟨0, 16, .rc, 0x0⟩, ⟨16, 16, .rc, 0x0⟩]⟩,
  ⟨0xF00068, 0x4, 1, 0x4, 1, [⟨0, 32, .rc, 0x0⟩]⟩,
  ⟨0xF0006C, 0x4, 1, 0x4, 1, [⟨0, 1, .ro, 0x0⟩, ⟨1, 1, .ro, 0x0⟩, ⟨2, 1, .ro, 0x0⟩]⟩,
  ⟨0xF00070, 0x4, 1, 0x4, 1, [⟨0, 16, .ro, 0x0⟩]⟩]

def hifRows : List RegRow := [
  ⟨0x200, 0x4, 1, 0x4, 1, [⟨0, 4, .wo, 0x0⟩]⟩,
  ⟨0x204, 0x4, 1, 0x4, 1, [⟨0, 10, .rw, 0x0⟩]⟩,
  ⟨0x208, 0x4, 1, 0x4, 1, [⟨0, 3, .ro, 0x0⟩, ⟨3, 1, .ro, 0x0⟩, ⟨4, 1, .ro, 0x0⟩, ⟨5, 1, .ro, 0x0⟩, ⟨6, 1, .ro, 0x0⟩, ⟨7, 1, .ro, 0x0⟩, ⟨8, 8, .ro, 0x0⟩, ⟨16, 8, .ro, 0x0⟩]⟩,
  ⟨0x20C, 0x4, 1, 0x4, 1, [⟨0, 32, .ro, 0x0⟩]⟩,
  ⟨0x210, 0x4, 1, 0x4, 1, [⟨0, 32, .ro, 0x0⟩]⟩,
  ⟨0x214, 0x4, 1, 0x4, 1, [⟨0, 32, .ro, 0x0⟩]⟩,
  ⟨0x218, 0x4, 1, 0x4, 1, [⟨0, 32, .ro, 0x0⟩]⟩,
  ⟨0x21C, 0x4, 1, 0x4, 1, [⟨0, 32, .ro, 0x0⟩]⟩,
  ⟨0x220, 0x4, 1, 0x4, 1, [⟨0, 15, .ro, 0x0⟩]⟩,
  ⟨0x224, 0x4, 1, 0x4, 1, [⟨0, 16, .ro, 0x0⟩, ⟨16, 16, .ro, 0x0⟩]⟩,
  ⟨0x0, 0x4, 1, 0x4, 1, [⟨0, 16, .ro, 0xEF08⟩, ⟨16, 4, .ro, 0x0⟩, ⟨20, 4, .ro, 0x0⟩]⟩,
  ⟨0x4, 0x4, 1, 0x4, 1, [⟨0, 16, .ro, 0x0⟩, ⟨16, 16, .ro, 0x1⟩]⟩,
  ⟨0x8, 0x4, 1, 0x4, 1, [⟨0, 1, .ro, 0x0⟩, ⟨1, 1, .ro, 0x0⟩, ⟨8, 8, .ro, 0x0⟩, ⟨16, 9, .ro, 0x0⟩]⟩,
  ⟨0xC, 0x4, 1, 0x4, 1, [⟨0, 12, .ro, 0x800⟩, ⟨12, 4, .ro, 0x8⟩, ⟨16, 4, .ro, 0xC⟩, ⟨20, 2, .ro, 0x0⟩]⟩,
  ⟨0x10, 0x4, 1, 0x4, 1, [⟨0, 1, .ro, 0x0⟩, ⟨1, 1, .ro, 0x0⟩, ⟨2, 1, .ro, 0x0⟩, ⟨3, 1, .ro, 0x0⟩, ⟨4, 1, .ro, 0x0⟩, ⟨5, 1, .ro, 0x0⟩, ⟨6, 1, .ro, 0x0⟩, ⟨8, 4, .ro, 0x3⟩]⟩,
  ⟨0x14, 0x4, 1, 0x4, 1, [⟨0, 1, .w1c, 0x0⟩, ⟨1, 1, .w1c, 0x0⟩, ⟨2, 1, .w1c, 0x0⟩, ⟨3, 1, .w1c, 0x0⟩, ⟨4, 1, .w1c, 0x0⟩, ⟨5, 1, .w1c, 0x0⟩, ⟨6, 1, .w1c, 0x0⟩, ⟨7, 1, .w1c, 0x0⟩]⟩,
  ⟨0x18, 0x4, 1, 0x4, 1, [⟨0, 8, .rw, 0x0⟩]⟩,
  ⟨0x1C, 0x4, 1, 0x4, 1, [⟨0, 32, .rc, 0x0⟩]⟩,
  ⟨0x20, 0x4, 1, 0x4, 1, [⟨0, 32, .rc, 0x0⟩]⟩,
  ⟨0x24, 0x4, 1, 0x4, 1, [⟨0, 11, .ro, 0x0⟩, ⟨11, 3, .ro, 0x0⟩, ⟨14, 1, .ro, 0x0⟩, ⟨16, 4, .ro, 0x0⟩, ⟨31, 1, .ro, 0x0⟩]⟩,
  ⟨0x28, 0x4, 1, 0x4, 1, [⟨0, 3, .ro, 0x0⟩, ⟨8, 5, .ro, 0x0⟩, ⟨13, 1, .ro, 0x0⟩, ⟨16, 16, .rc, 0x0⟩]⟩,
  ⟨0x2C, 0x4, 1, 0x4, 1, [⟨0, 7, .ro, 0x4E⟩, ⟨8, 1, .ro, 0x1⟩]⟩,
  ⟨0x30, 0x4, 1, 0x4, 1, [⟨0, 1, .ro, 0x0⟩, ⟨1, 8, .ro, 0x0⟩, ⟨9, 1, .ro, 0x0⟩, ⟨16, 8, .rc, 0x0⟩]⟩,
  ⟨0x34, 0x4, 1, 0x4, 1, [⟨0, 2, .ro, 0x0⟩, ⟨2, 1, .ro, 0x0⟩, ⟨3, 3, .ro, 0x0⟩]⟩,
  ⟨0x38, 0x4, 1, 0x4, 1, [⟨0, 16, .ro, 0x0⟩, ⟨16, 8, .ro, 0x0⟩, ⟨24, 8, .ro, 0x0⟩]⟩]

def lcsRows : List RegRow := [
  ⟨0x1000000, 0x4, 1, 0x4, 1, [⟨0, 3, .ro, 0x0⟩, ⟨3, 3, .ro, 0x0⟩, ⟨6, 3, .ro, 0x0⟩, ⟨9, 1, .ro, 0x0⟩, ⟨10, 1, .ro, 0x0⟩, ⟨11, 1, .ro, 0x0⟩, ⟨16, 8, .ro, 0x0⟩]⟩,
  ⟨0x1000004, 0x4, 1, 0x4, 1, [⟨0, 4, .wo, 0x0⟩]⟩,
  ⟨0x1000008, 0x4, 1, 0x4, 1, [⟨0, 3, .ro, 0x0⟩, ⟨4, 3, .ro, 0x0⟩, ⟨8, 3, .ro, 0x0⟩]⟩,
  ⟨0x1000010, 0x4, 4, 0x4, 1, [⟨0, 32, .ro, 0x0⟩]⟩,
  ⟨0x1000020, 0x4, 4, 0x4, 1, [⟨0, 32, .ro, 0x0⟩]⟩,
  ⟨0x1000030, 0x4, 1, 0x4, 1, [⟨0, 4, .ro, 0x0⟩, ⟨4, 4, .ro, 0x0⟩]⟩,
  ⟨0x1000034, 0x4, 1, 0x4, 1, [⟨0, 2, .rw, 0x0⟩]⟩,
  ⟨0x1000040, 0x4, 8, 0x4, 1, [⟨0, 32, .wo, 0x0⟩]⟩]

def stlRows : List RegRow := [
  ⟨0x1001000, 0x4, 1, 0x4, 1, [⟨0, 1, .ro, 0x0⟩, ⟨1, 1, .ro, 0x0⟩, ⟨2, 4, .ro, 0x0⟩]⟩,
  ⟨0x1001004, 0x4, 1, 0x4, 1, [⟨0, 32, .ro, 0x0⟩]⟩,
  ⟨0x1001008, 0x4, 1, 0x4, 1, [⟨0, 16, .ro, 0x0⟩]⟩,
  ⟨0x100100C, 0x4, 1, 0x4, 1, [⟨0, 32, .rc, 0x0⟩]⟩,
  ⟨0x1001010, 0x4, 1, 0x4, 1, [⟨0, 1, .wo, 0x0⟩]⟩,
  ⟨0x1001014, 0x4, 1, 0x4, 1, [⟨0, 8, .ro, 0x0⟩]⟩]

def altRows : List RegRow := [
  ⟨0x100000, 0x4, 1, 0x4, 1, [⟨0, 11, .rw, 0x0⟩, ⟨11, 3, .rw, 0x0⟩, ⟨14, 1, .rw, 0x0⟩]⟩,
  ⟨0x100004, 0x4, 1, 0x4, 1, [⟨0, 4, .wo, 0x0⟩]⟩,
  ⟨0x10000C, 0x4, 1, 0x4, 1, [⟨0, 16, .ro, 0x0⟩, ⟨16, 1, .ro, 0x0⟩]⟩,
  ⟨0x100028, 0x4, 1, 0x4, 1, [⟨0, 13, .rw, 0x0⟩]⟩,
  ⟨0x100100, 0x4, 64, 0x4, 1, [⟨0, 32, .w1c, 0x0⟩]⟩]

def cusRows : List RegRow := [
  ⟨0x1200000, 0x4, 1, 0x4, 1, [⟨0, 16, .ro, 0x0⟩, ⟨16, 16, .ro, 0x0⟩]⟩,
  ⟨0x1200004, 0x4, 1, 0x4, 1, [⟨0, 7, .ro, 0x0⟩, ⟨7, 1, .ro, 0x0⟩, ⟨8, 1, .ro, 0x0⟩]⟩,
  ⟨0x1200008, 0x4, 1, 0x4, 1, [⟨0, 11, .rw, 0x3C⟩]⟩,
  ⟨0x120000C, 0x4, 1, 0x4, 1, [⟨0, 1, .w1c, 0x0⟩, ⟨1, 1, .w1c, 0x0⟩, ⟨2, 1, .w1c, 0x0⟩, ⟨3, 1, .w1c, 0x0⟩, ⟨4, 1, .w1c, 0x0⟩, ⟨5, 1, .w1c, 0x0⟩]⟩,
  ⟨0x1200010, 0x4, 1, 0x4, 1, [⟨0, 32, .rc, 0x0⟩]⟩,
  ⟨0x1200020, 0x4, 6, 0x4, 1, [⟨0, 16, .ro, 0x0⟩, ⟨16, 5, .ro, 0x0⟩, ⟨21, 5, .ro, 0x0⟩]⟩,
  ⟨0x1200040, 0x4, 1, 0x4, 1, [⟨0, 6, .rw, 0x0⟩]⟩,
  ⟨0x1200044, 0x4, 1, 0x4, 1, [⟨0, 2, .ro, 0x0⟩, ⟨2, 3, .ro, 0x0⟩, ⟨5, 11, .ro, 0x0⟩, ⟨16, 16, .ro, 0x0⟩]⟩,
  ⟨0x1200048, 0x4, 1, 0x4, 1, [⟨0, 16, .ro, 0x0⟩, ⟨16, 16, .ro, 0x0⟩]⟩,
  ⟨0x120004C, 0x4, 1, 0x4, 1, [⟨0, 16, .ro, 0x0⟩]⟩,
  ⟨0x1200060, 0x4, 8, 0x4, 1, [⟨0, 32, .ro, 0x0⟩]⟩]

def drvRows : List RegRow := [
  ⟨0x200000, 0x4, 1, 0x4, 1, [⟨0, 13, .ro, 0x0⟩, ⟨13, 1, .ro, 0x0⟩, ⟨14, 1, .ro, 0x0⟩, ⟨15, 1, .ro, 0x0⟩, ⟨16, 1, .ro, 0x0⟩]⟩,
  ⟨0x200004, 0x4, 1, 0x4, 1, [⟨0, 16, .rw, 0x0⟩, ⟨16, 8, .rw, 0x0⟩]⟩,
  ⟨0x200008, 0x4, 1, 0x4, 1, [⟨0, 16, .rw, 0x1388⟩]⟩,
  ⟨0x20000C, 0x4, 1, 0x4, 1, [⟨0, 16, .ro, 0x0⟩, ⟨16, 1, .ro, 0x0⟩]⟩,
  ⟨0x200010, 0x4, 1, 0x4, 1, [⟨0, 32, .rc, 0x0⟩]⟩,
  ⟨0x200014, 0x4, 1, 0x4, 1, [⟨0, 32, .rc, 0x0⟩]⟩,
  ⟨0x200018, 0x4, 1, 0x4, 1, [⟨0, 32, .rc, 0x0⟩]⟩,
  ⟨0x20001C, 0x4, 1, 0x4, 1, [⟨0, 17, .ro, 0x0⟩]⟩,
  ⟨0x200020, 0x4, 1, 0x4, 1, [⟨0, 32, .rc, 0x0⟩]⟩,
  ⟨0x200024, 0x4, 1, 0x4, 1, [⟨0, 1, .w1c, 0x0⟩, ⟨1, 1, .w1c, 0x0⟩, ⟨2, 1, .w1c, 0x0⟩, ⟨3, 1, .w1c, 0x0⟩, ⟨4, 1, .w1c, 0x0⟩, ⟨5, 1, .w1c, 0x0⟩]⟩,
  ⟨0x200028, 0x4, 1, 0x4, 1, [⟨0, 32, .ro, 0x0⟩]⟩,
  ⟨0x20002C, 0x4, 1, 0x4, 1, [⟨0, 32, .ro, 0x0⟩]⟩,
  ⟨0x200040, 0x4, 16, 0x4, 1, [⟨0, 12, .ro, 0x0⟩, ⟨12, 1, .ro, 0x0⟩, ⟨16, 8, .ro, 0x0⟩]⟩,
  ⟨0x200080, 0x4, 8, 0x4, 1, [⟨0, 4, .wo, 0x0⟩]⟩,
  ⟨0x2000A0, 0x4, 8, 0x4, 1, [⟨0, 3, .ro, 0x4⟩, ⟨3, 6, .ro, 0x0⟩, ⟨9, 6, .ro, 0x0⟩, ⟨15, 1, .ro, 0x0⟩, ⟨16, 8, .ro, 0x0⟩]⟩]

def swdRows : List RegRow := [
  ⟨0x300000, 0x1000, 256, 0x4, 1, [⟨0, 3, .ro, 0x4⟩, ⟨4, 3, .ro, 0x0⟩, ⟨8, 8, .ro, 0x0⟩, ⟨16, 1, .ro, 0x0⟩, ⟨17, 1, .ro, 0x0⟩, ⟨18, 1, .ro, 0x0⟩, ⟨19, 1, .ro, 0x0⟩, ⟨20, 4, .ro, 0x0⟩]⟩,
  ⟨0x300004, 0x1000, 256, 0x4, 1, [⟨0, 4, .wo, 0x0⟩, ⟨4, 3, .rw, 0x0⟩]⟩,
  ⟨0x300008, 0x1000, 256, 0x4, 1, [⟨0, 5, .ro, 0x0⟩, ⟨8, 8, .ro, 0x0⟩, ⟨16, 16, .rc, 0x0⟩]⟩,
  ⟨0x30000C, 0x1000, 256, 0x4, 1, [⟨0, 32, .rc, 0x0⟩]⟩,
  ⟨0x300010, 0x1000, 256, 0x4, 1, [⟨0, 4, .rw, 0x8⟩, ⟨4, 10, .rw, 0x40⟩, ⟨14, 10, .ro, 0x0⟩]⟩,
  ⟨0x300014, 0x8000, 32, 0x4, 1, [⟨0, 4, .rw, 0x8⟩, ⟨4, 10, .rw, 0x40⟩, ⟨14, 10, .ro, 0x0⟩]⟩,
  ⟨0x300018, 0x8000, 32, 0x4, 1, [⟨0, 4, .rw, 0x8⟩, ⟨4, 10, .rw, 0x40⟩, ⟨14, 10, .ro, 0x0⟩]⟩,
  ⟨0x30001C, 0x8000, 32, 0x4, 1, [⟨0, 4, .ro, 0xF⟩, ⟨16, 16, .rc, 0x0⟩]⟩]

def barRows : List RegRow := [
  ⟨0x400000, 0x4, 1, 0x4, 1, [⟨0, 8, .ro, 0x0⟩, ⟨8, 1, .ro, 0x0⟩, ⟨9, 1, .ro, 0x0⟩, ⟨10, 1, .ro, 0x0⟩, ⟨11, 1, .ro, 0x0⟩]⟩,
  ⟨0x400004, 0x4, 1, 0x4, 1, [⟨0, 21, .ro, 0x0⟩]⟩,
  ⟨0x400008, 0x4, 1, 0x4, 1, [⟨0, 21, .ro, 0x0⟩]⟩,
  ⟨0x40000C, 0x4, 1, 0x4, 1, [⟨0, 21, .ro, 0x0⟩]⟩,
  ⟨0x400010, 0x4, 1, 0x4, 1, [⟨0, 14, .ro, 0x0⟩]⟩,
  ⟨0x400014, 0x4, 1, 0x4, 1, [⟨0, 14, .ro, 0x0⟩]⟩,
  ⟨0x400018, 0x4, 1, 0x4, 1, [⟨0, 32, .rc, 0x0⟩]⟩,
  ⟨0x40001C, 0x4, 1, 0x4, 1, [⟨0, 32, .rc, 0x0⟩]⟩,
  ⟨0x400020, 0x4, 1, 0x4, 1, [⟨0, 32, .rc, 0x0⟩]⟩,
  ⟨0x400024, 0x4, 1, 0x4, 1, [⟨0, 1, .w1c, 0x0⟩, ⟨1, 1, .w1c, 0x0⟩, ⟨2, 1, .w1c, 0x0⟩, ⟨3, 1, .w1c, 0x0⟩, ⟨4, 1, .w1c, 0x0⟩]⟩,
  ⟨0x400028, 0x4, 1, 0x4, 1, [⟨0, 12, .ro, 0x0⟩, ⟨12, 1, .ro, 0x0⟩]⟩]

def skyRows : List RegRow := [
  ⟨0x500000, 0x4, 1, 0x4, 1, [⟨0, 3, .ro, 0x0⟩, ⟨3, 1, .ro, 0x0⟩, ⟨4, 1, .ro, 0x0⟩, ⟨5, 1, .ro, 0x0⟩, ⟨6, 1, .w1c, 0x0⟩, ⟨7, 1, .ro, 0x0⟩, ⟨16, 5, .ro, 0x0⟩]⟩,
  ⟨0x500004, 0x4, 1, 0x4, 1, [⟨0, 5, .rw, 0x4⟩]⟩,
  ⟨0x500008, 0x4, 1, 0x4, 1, [⟨0, 24, .ro, 0xFFFFFF⟩]⟩,
  ⟨0x50000C, 0x4, 1, 0x4, 1, [⟨0, 1, .w1c, 0x0⟩, ⟨1, 1, .w1c, 0x0⟩, ⟨2, 1, .w1c, 0x0⟩, ⟨3, 1, .w1c, 0x0⟩, ⟨4, 1, .w1c, 0x0⟩, ⟨5, 1, .w1c, 0x0⟩, ⟨6, 1, .w1c, 0x0⟩]⟩,
  ⟨0x500010, 0x4, 1, 0x4, 1, [⟨0, 24, .rc, 0x0⟩, ⟨31, 1, .rc, 0x0⟩]⟩,
  ⟨0x500014, 0x4, 1, 0x4, 1, [⟨0, 32, .rc, 0x0⟩]⟩,
  ⟨0x500018, 0x4, 1, 0x4, 1, [⟨0, 32, .rc, 0x0⟩]⟩,
  ⟨0x50001C, 0x4, 1, 0x4, 1, [⟨0, 21, .ro, 0x0⟩]⟩,
  ⟨0x500040, 0x4, 24, 0x4, 1, [⟨0, 11, .ro, 0x0⟩, ⟨11, 1, .ro, 0x1⟩, ⟨16, 16, .rc, 0x0⟩]⟩]

def furglbRows : List RegRow := [
  ⟨0x600000, 0x4, 1, 0x4, 1, [⟨0, 1, .ro, 0x1⟩, ⟨1, 1, .ro, 0x0⟩, ⟨2, 2, .ro, 0x0⟩]⟩,
  ⟨0x600004, 0x4, 1, 0x4, 1, [⟨0, 2, .w1c, 0x0⟩, ⟨2, 1, .w1c, 0x0⟩, ⟨3, 1, .w1c, 0x0⟩, ⟨4, 1, .w1c, 0x0⟩, ⟨5, 1, .w1c, 0x0⟩]⟩]

def furpgRows : List RegRow := [
  ⟨0x610000, 0x1000, 2, 0x4, 1, [⟨0, 4, .wo, 0x0⟩]⟩,
  ⟨0x610004, 0x1000, 2, 0x4, 1, [⟨0, 3, .ro, 0x3⟩, ⟨3, 2, .ro, 0x0⟩, ⟨5, 1, .ro, 0x0⟩, ⟨16, 16, .ro, 0x0⟩]⟩,
  ⟨0x610008, 0x1000, 2, 0x4, 1, [⟨0, 2, .rw, 0x0⟩, ⟨2, 1, .rw, 0x0⟩, ⟨4, 6, .rw, 0xE⟩]⟩,
  ⟨0x61000C, 0x1000, 2, 0x4, 1, [⟨0, 5, .ro, 0x0⟩, ⟨16, 16, .rc, 0x0⟩]⟩,
  ⟨0x610010, 0x1000, 2, 0x4, 1, [⟨0, 32, .rc, 0x0⟩]⟩,
  ⟨0x610014, 0x1000, 2, 0x4, 1, [⟨0, 13, .ro, 0x0⟩, ⟨13, 1, .ro, 0x0⟩, ⟨14, 1, .w1c, 0x0⟩, ⟨16, 14, .ro, 0x0⟩]⟩]

def furportRows : List RegRow := [
  ⟨0x620000, 0x800, 32, 0x4, 1, [⟨0, 1, .ro, 0x0⟩, ⟨1, 1, .ro, 0x0⟩, ⟨2, 1, .ro, 0x0⟩, ⟨3, 1, .ro, 0x0⟩, ⟨16, 16, .rc, 0x0⟩]⟩,
  ⟨0x620004, 0x800, 32, 0x4, 1, [⟨0, 1, .rw, 0x0⟩, ⟨1, 1, .rw, 0x0⟩, ⟨2, 2, .rw, 0x0⟩, ⟨4, 14, .rw, 0x2400⟩, ⟨20, 12, .rw, 0x64⟩]⟩,
  ⟨0x620010, 0x800, 32, 0x4, 1, [⟨0, 32, .rc, 0x0⟩]⟩,
  ⟨0x62001C, 0x800, 32, 0x4, 1, [⟨0, 32, .rc, 0x0⟩]⟩,
  ⟨0x620028, 0x800, 32, 0x4, 1, [⟨0, 32, .rc, 0x0⟩]⟩,
  ⟨0x62002C, 0x800, 32, 0x4, 1, [⟨0, 32, .rc, 0x0⟩]⟩,
  ⟨0x620030, 0x800, 32, 0x4, 1, [⟨0, 32, .rc, 0x0⟩]⟩,
  ⟨0x620034, 0x800, 32, 0x4, 1, [⟨0, 32, .rc, 0x0⟩]⟩,
  ⟨0x620038, 0x800, 32, 0x4, 1, [⟨0, 32, .rc, 0x0⟩]⟩,
  ⟨0x62003C, 0x800, 32, 0x4, 1, [⟨0, 32, .rc, 0x0⟩]⟩,
  ⟨0x620040, 0x800, 32, 0x4, 1, [⟨0, 32, .rc, 0x0⟩]⟩,
  ⟨0x620044, 0x800, 32, 0x4, 1, [⟨0, 32, .rc, 0x0⟩]⟩,
  ⟨0x620048, 0x800, 32, 0x4, 1, [⟨0, 32, .rc, 0x0⟩]⟩,
  ⟨0x62004C, 0x800, 32, 0x4, 1, [⟨0, 32, .rc, 0x0⟩]⟩,
  ⟨0x620050, 0x800, 32, 0x4, 1, [⟨0, 32, .rc, 0x0⟩]⟩,
  ⟨0x620054, 0x800, 32, 0x4, 1, [⟨0, 32, .rc, 0x0⟩]⟩,
  ⟨0x620058, 0x800, 32, 0x4, 1, [⟨0, 32, .rc, 0x0⟩]⟩,
  ⟨0x620060, 0x800, 16, 0x4, 1, [⟨0, 32, .rc, 0x0⟩]⟩,
  ⟨0x620064, 0x800, 16, 0x4, 1, [⟨0, 32, .rc, 0x0⟩]⟩,
  ⟨0x620068, 0x800, 16, 0x4, 1, [⟨0, 32, .rc, 0x0⟩]⟩,
  ⟨0x62006C, 0x800, 16, 0x4, 1, [⟨0, 32, .rc, 0x0⟩]⟩,
  ⟨0x620070, 0x800, 16, 0x4, 1, [⟨0, 32, .rc, 0x0⟩]⟩,
  ⟨0x628060, 0x800, 16, 0x4, 1, [⟨0, 32, .rc, 0x0⟩]⟩,
  ⟨0x628064, 0x800, 16, 0x4, 1, [⟨0, 32, .rc, 0x0⟩]⟩,
  ⟨0x628068, 0x800, 16, 0x4, 1, [⟨0, 32, .rc, 0x0⟩]⟩,
  ⟨0x62806C, 0x800, 16, 0x4, 1, [⟨0, 32, .rc, 0x0⟩]⟩,
  ⟨0x620014, 0x800, 32, 0x4, 1, [⟨0, 32, .rc, 0x0⟩]⟩,
  ⟨0x620020, 0x800, 32, 0x4, 1, [⟨0, 32, .rc, 0x0⟩]⟩,
  ⟨0x620018, 0x800, 32, 0x4, 1, [⟨0, 32, .ro, 0x0⟩]⟩,
  ⟨0x620024, 0x800, 32, 0x4, 1, [⟨0, 32, .ro, 0x0⟩]⟩,
  ⟨0x628070, 0x800, 16, 0x4, 1, [⟨0, 32, .ro, 0x0⟩]⟩]

def furruleRows : List RegRow := [
  ⟨0x640000, 0x20, 16384, 0x4, 1, [⟨0, 1, .rw, 0x0⟩, ⟨1, 1, .rw, 0x0⟩, ⟨2, 2, .rw, 0x0⟩, ⟨4, 2, .rw, 0x0⟩, ⟨6, 2, .rw, 0x0⟩, ⟨8, 8, .rw, 0x0⟩]⟩,
  ⟨0x640004, 0x20, 16384, 0x4, 1, [⟨0, 16, .rw, 0x0⟩, ⟨16, 16, .rw, 0x0⟩]⟩,
  ⟨0x640008, 0x20, 16384, 0x4, 1, [⟨0, 16, .rw, 0x0⟩, ⟨16, 16, .rw, 0x0⟩]⟩,
  ⟨0x64000C, 0x20, 16384, 0x4, 1, [⟨0, 32, .rw, 0x0⟩]⟩,
  ⟨0x640010, 0x20, 16384, 0x4, 1, [⟨0, 32, .rw, 0x0⟩]⟩,
  ⟨0x640014, 0x20, 16384, 0x4, 1, [⟨0, 14, .rw, 0x0⟩]⟩,
  ⟨0x64001C, 0x20, 16384, 0x4, 1, [⟨0, 1, .wo, 0x0⟩]⟩]

def furchRows : List RegRow := [
  ⟨0x800000, 0x40, 16384, 0x4, 1, [⟨0, 1, .rw, 0x0⟩, ⟨1, 1, .rw, 0x0⟩, ⟨2, 1, .rw, 0x0⟩, ⟨3, 4, .rw, 0x0⟩, ⟨7, 1, .rw, 0x0⟩, ⟨8, 2, .rw, 0x1⟩, ⟨10, 1, .rw, 0x1⟩, ⟨11, 2, .rw, 0x0⟩, ⟨13, 1, .rw, 0x1⟩, ⟨14, 1, .rw, 0x0⟩, ⟨15, 1, .rw, 0x0⟩, ⟨16, 1, .rw, 0x0⟩, ⟨17, 1, .rw, 0x1⟩, ⟨18, 1, .rw, 0x0⟩]⟩,
  ⟨0x800004, 0x40, 16384, 0x4, 1, [⟨0, 32, .rw, 0x0⟩]⟩,
  ⟨0x800008, 0x40, 16384, 0x4, 1, [⟨0, 32, .rw, 0x0⟩]⟩,
  ⟨0x80000C, 0x40, 16384, 0x4, 1, [⟨0, 31, .rw, 0x0⟩]⟩,
  ⟨0x800010, 0x40, 16384, 0x4, 1, [⟨0, 32, .rw, 0xC0000000⟩]⟩,
  ⟨0x800014, 0x40, 16384, 0x4, 1, [⟨0, 32, .rw, 0x0⟩]⟩,
  ⟨0x800020, 0x40, 16384, 0x4, 1, [⟨0, 2, .ro, 0x0⟩, ⟨2, 1, .ro, 0x0⟩, ⟨3, 1, .ro, 0x0⟩, ⟨4, 2, .rw, 0x0⟩, ⟨6, 2, .rw, 0x0⟩]⟩,
  ⟨0x800024, 0x40, 16384, 0x4, 1, [⟨0, 32, .rw, 0x0⟩]⟩,
  ⟨0x800028, 0x40, 16384, 0x4, 1, [⟨0, 32, .rw, 0x0⟩]⟩,
  ⟨0x80003C, 0x40, 16384, 0x4, 1, [⟨0, 1, .wo, 0x0⟩]⟩]

def fursaRows : List RegRow := [
  ⟨0x900000, 0x20, 65536, 0x4, 1, [⟨0, 1, .rw, 0x0⟩, ⟨1, 3, .ro, 0x0⟩, ⟨4, 1, .ro, 0x0⟩, ⟨5, 2, .ro, 0x0⟩, ⟨8, 8, .ro, 0x0⟩]⟩,
  ⟨0x900004, 0x20, 65536, 0x4, 1, [⟨0, 32, .rw, 0x0⟩]⟩,
  ⟨0x900008, 0x20, 65536, 0x4, 1, [⟨0, 32, .rw, 0x0⟩]⟩,
  ⟨0x90000C, 0x20, 65536, 0x4, 1, [⟨0, 32, .ro, 0x0⟩]⟩,
  ⟨0x90001C, 0x20, 65536, 0x4, 1, [⟨0, 1, .wo, 0x0⟩]⟩,
  ⟨0xB00000, 0x4, 1, 0x4, 1, [⟨0, 17, .ro, 0x0⟩, ⟨17, 13, .ro, 0x0⟩, ⟨30, 1, .ro, 0x0⟩]⟩,
  ⟨0xB00004, 0x4, 1, 0x4, 1, [⟨0, 1, .w1c, 0x0⟩, ⟨1, 1, .w1c, 0x0⟩, ⟨2, 1, .w1c, 0x0⟩, ⟨3, 1, .w1c, 0x0⟩, ⟨4, 1, .w1c, 0x0⟩, ⟨5, 1, .w1c, 0x0⟩]⟩,
  ⟨0xB00008, 0x4, 1, 0x4, 1, [⟨0, 16, .ro, 0x0⟩]⟩,
  ⟨0xB0000C, 0x4, 1, 0x4, 1, [⟨0, 16, .ro, 0x0⟩, ⟨16, 1, .ro, 0x0⟩]⟩,
  ⟨0xB00010, 0x4, 2, 0x4, 1, [⟨0, 16, .rc, 0x0⟩, ⟨16, 1, .rc, 0x0⟩, ⟨31, 1, .rc, 0x0⟩]⟩,
  ⟨0xB00018, 0x4, 1, 0x4, 1, [⟨0, 32, .rc, 0x0⟩]⟩]

def thaRows : List RegRow := [
  ⟨0xC00000, 0x4, 1, 0x4, 1, [⟨0, 1, .ro, 0x0⟩, ⟨1, 1, .ro, 0x0⟩, ⟨2, 1, .ro, 0x0⟩]⟩,
  ⟨0xC00004, 0x4, 1, 0x4, 1, [⟨0, 1, .w1c, 0x0⟩, ⟨1, 1, .w1c, 0x0⟩, ⟨2, 1, .w1c, 0x0⟩, ⟨3, 1, .w1c, 0x0⟩, ⟨4, 1, .w1c, 0x0⟩]⟩,
  ⟨0xC00008, 0x4, 1, 0x4, 1, [⟨0, 8, .rw, 0x18⟩]⟩,
  ⟨0xC00010, 0x20, 2, 0x4, 1, [⟨0, 32, .rc, 0x0⟩]⟩,
  ⟨0xC00014, 0x20, 2, 0x4, 1, [⟨0, 32, .rc, 0x0⟩]⟩,
  ⟨0xC00018, 0x20, 2, 0x4, 1, [⟨0, 28, .ro, 0x0⟩]⟩,
  ⟨0xC0001C, 0x20, 2, 0x4, 1, [⟨0, 32, .rc, 0x0⟩]⟩,
  ⟨0xC00020, 0x20, 2, 0x4, 1, [⟨0, 28, .ro, 0x0⟩]⟩,
  ⟨0xC00024, 0x20, 2, 0x4, 1, [⟨0, 28, .ro, 0x0⟩, ⟨28, 3, .ro, 0x0⟩, ⟨31, 1, .ro, 0x0⟩]⟩,
  ⟨0xC00028, 0x20, 2, 0x4, 1, [⟨0, 28, .ro, 0x0⟩]⟩]

def hdgRows : List RegRow := [
  ⟨0xC01000, 0x4, 1, 0x4, 1, [⟨0, 9, .ro, 0x0⟩, ⟨16, 1, .w1c, 0x0⟩]⟩,
  ⟨0xC01004, 0x4, 1, 0x4, 1, [⟨0, 32, .rc, 0x0⟩]⟩,
  ⟨0xC01008, 0x4, 1, 0x4, 1, [⟨0, 9, .ro, 0x0⟩]⟩,
  ⟨0xC0100C, 0x4, 1, 0x4, 1, [⟨0, 32, .rc, 0x0⟩]⟩,
  ⟨0xC10000, 0x400, 259, 0x4, 1, [⟨0, 1, .ro, 0x0⟩, ⟨1, 1, .ro, 0x0⟩, ⟨2, 1, .ro, 0x0⟩, ⟨3, 1, .ro, 0x0⟩]⟩,
  ⟨0xC10004, 0x400, 259, 0x4, 1, [⟨0, 1, .ro, 0x0⟩, ⟨1, 3, .ro, 0x0⟩, ⟨4, 2, .ro, 0x0⟩, ⟨6, 2, .ro, 0x0⟩, ⟨8, 3, .ro, 0x0⟩, ⟨11, 1, .ro, 0x0⟩]⟩,
  ⟨0xC10008, 0x400, 259, 0x4, 1, [⟨6, 26, .ro, 0x0⟩]⟩,
  ⟨0xC1000C, 0x400, 259, 0x4, 1, [⟨0, 16, .ro, 0x0⟩]⟩,
  ⟨0xC10010, 0x400, 259, 0x4, 1, [⟨0, 32, .rc, 0x0⟩]⟩,
  ⟨0xC10100, 0x400, 259, 0x10, 32, [⟨6, 26, .ro, 0x0⟩]⟩,
  ⟨0xC10104, 0x400, 259, 0x10, 32, [⟨0, 16, .ro, 0x0⟩, ⟨16, 16, .ro, 0x0⟩]⟩,
  ⟨0xC10108, 0x400, 259, 0x10, 32, [⟨6, 26, .ro, 0x0⟩]⟩,
  ⟨0xC1010C, 0x400, 259, 0x10, 32, [⟨0, 1, .ro, 0x0⟩, ⟨1, 3, .ro, 0x0⟩, ⟨4, 4, .ro, 0x0⟩, ⟨8, 2, .ro, 0x0⟩, ⟨10, 3, .ro, 0x0⟩]⟩]

def gorRows : List RegRow := [
  ⟨0xD00000, 0x4, 1, 0x4, 1, [⟨0, 1, .ro, 0x0⟩, ⟨1, 1, .ro, 0x0⟩, ⟨2, 1, .ro, 0x0⟩, ⟨3, 1, .ro, 0x0⟩, ⟨4, 1, .w1c, 0x0⟩, ⟨5, 1, .ro, 0x0⟩, ⟨6, 1, .ro, 0x0⟩, ⟨7, 2, .ro, 0x0⟩]⟩,
  ⟨0xD00004, 0x4, 1, 0x4, 1, [⟨0, 26, .w1c, 0x0⟩]⟩,
  ⟨0xD00008, 0x4, 1, 0x4, 1, [⟨0, 26, .ro, 0x0⟩]⟩,
  ⟨0xD0000C, 0x4, 1, 0x4, 1, [⟨0, 13, .ro, 0x0⟩, ⟨13, 7, .ro, 0x0⟩, ⟨20, 12, .ro, 0x0⟩]⟩,
  ⟨0xD00010, 0x4, 1, 0x4, 1, [⟨0, 12, .rw, 0x0⟩]⟩,
  ⟨0xD00014, 0x4, 4, 0x4, 1, [⟨0, 32, .ro, 0x0⟩]⟩,
  ⟨0xD00024, 0x4, 1, 0x4, 1, [⟨0, 5, .wo, 0x0⟩, ⟨5, 3, .wo, 0x0⟩, ⟨8, 1, .wo, 0x0⟩]⟩,
  ⟨0xD00028, 0x4, 1, 0x4, 1, [⟨0, 2, .ro, 0x0⟩, ⟨2, 1, .ro, 0x0⟩, ⟨3, 5, .ro, 0x0⟩, ⟨8, 3, .ro, 0x0⟩, ⟨16, 16, .ro, 0x0⟩]⟩,
  ⟨0xD0002C, 0x4, 1, 0x4, 1, [⟨0, 5, .ro, 0x18⟩, ⟨5, 4, .ro, 0x0⟩]⟩,
  ⟨0xD00030, 0x4, 1, 0x4, 1, [⟨0, 16, .rc, 0x0⟩, ⟨16, 8, .rc, 0x0⟩, ⟨24, 8, .rc, 0x0⟩]⟩,
  ⟨0xD00040, 0x4, 26, 0x4, 1, [⟨0, 3, .ro, 0x0⟩, ⟨3, 3, .ro, 0x0⟩, ⟨6, 1, .ro, 0x0⟩, ⟨7, 1, .ro, 0x0⟩, ⟨8, 1, .ro, 0x1⟩]⟩,
  ⟨0xD000C0, 0x4, 26, 0x4, 1, [⟨0, 1, .ro, 0x0⟩, ⟨1, 1, .ro, 0x0⟩, ⟨16, 16, .rc, 0x0⟩]⟩]

def crnRows : List RegRow := [
  ⟨0xE00000, 0x4, 1, 0x4, 1, [⟨0, 1, .ro, 0x0⟩, ⟨1, 1, .ro, 0x0⟩, ⟨2, 1, .ro, 0x0⟩, ⟨3, 8, .ro, 0x0⟩]⟩,
  ⟨0xE00004, 0x4, 1, 0x4, 1, [⟨0, 4, .wo, 0x0⟩]⟩,
  ⟨0xE00008, 0x4, 1, 0x4, 1, [⟨0, 1, .w1c, 0x0⟩, ⟨1, 1, .w1c, 0x0⟩, ⟨2, 1, .w1c, 0x0⟩, ⟨3, 1, .w1c, 0x0⟩, ⟨4, 1, .w1c, 0x0⟩]⟩,
  ⟨0xE0000C, 0x4, 1, 0x4, 1, [⟨0, 12, .ro, 0x0⟩, ⟨12, 8, .ro, 0x0⟩]⟩,
  ⟨0xE00010, 0x4, 1, 0x4, 1, [⟨0, 8, .ro, 0x0⟩]⟩,
  ⟨0xE00014, 0x4, 1, 0x4, 1, [⟨0, 1, .ro, 0x0⟩, ⟨1, 8, .ro, 0x0⟩, ⟨9, 4, .ro, 0x0⟩]⟩,
  ⟨0xE00018, 0x4, 1, 0x4, 1, [⟨0, 8, .rw, 0x0⟩, ⟨8, 1, .rw, 0x0⟩, ⟨9, 8, .rw, 0x0⟩, ⟨17, 4, .rw, 0x0⟩]⟩,
  ⟨0xE0001C, 0x4, 1, 0x4, 1, [⟨0, 32, .ro, 0x0⟩]⟩,
  ⟨0xE00020, 0x4, 1, 0x4, 1, [⟨0, 16, .ro, 0x0⟩]⟩,
  ⟨0xE00024, 0x4, 1, 0x4, 1, [⟨0, 32, .ro, 0x0⟩]⟩,
  ⟨0xE00028, 0x4, 1, 0x4, 1, [⟨0, 32, .rw, 0x0⟩]⟩,
  ⟨0xE0002C, 0x4, 1, 0x4, 1, [⟨0, 32, .rw, 0x0⟩]⟩,
  ⟨0xE00030, 0x4, 1, 0x4, 1, [⟨0, 32, .rc, 0x0⟩]⟩,
  ⟨0xE00034, 0x4, 1, 0x4, 1, [⟨0, 32, .rc, 0x0⟩]⟩]

def cmnRows : List RegRow := [
  ⟨0x1100000, 0x4, 1, 0x4, 1, [⟨0, 1, .ro, 0x0⟩, ⟨1, 1, .ro, 0x0⟩, ⟨2, 1, .ro, 0x0⟩, ⟨3, 13, .ro, 0x0⟩, ⟨16, 8, .ro, 0x0⟩, ⟨24, 8, .ro, 0x0⟩]⟩,
  ⟨0x1100004, 0x4, 1, 0x4, 1, [⟨0, 1, .w1c, 0x0⟩, ⟨1, 1, .w1c, 0x0⟩, ⟨2, 1, .w1c, 0x0⟩, ⟨3, 1, .w1c, 0x0⟩, ⟨4, 1, .w1c, 0x0⟩]⟩,
  ⟨0x1100008, 0x4, 1, 0x4, 1, [⟨0, 14, .ro, 0x0⟩]⟩,
  ⟨0x110000C, 0x4, 1, 0x4, 1, [⟨0, 32, .ro, 0x0⟩]⟩,
  ⟨0x1100010, 0x4, 4, 0x4, 1, [⟨0, 32, .ro, 0x0⟩]⟩,
  ⟨0x1100020, 0x4, 1, 0x4, 1, [⟨0, 16, .rw, 0x64⟩]⟩,
  ⟨0x1100024, 0x4, 1, 0x4, 1, [⟨0, 14, .rw, 0x0⟩, ⟨14, 1, .rw, 0x0⟩, ⟨15, 1, .wo, 0x0⟩]⟩,
  ⟨0x1100028, 0x4, 1, 0x4, 1, [⟨0, 2, .ro, 0x0⟩, ⟨2, 30, .ro, 0x0⟩]⟩,
  ⟨0x110002C, 0x4, 1, 0x4, 1, [⟨0, 32, .rc, 0x0⟩]⟩]

/-- The register tables by 1 MiB block (R110); Furrow takes six blocks. -/
def blockRows (b : Nat) : List RegRow :=
  if b = 0 then hifRows
  else if b = 1 then altRows
  else if b = 2 then drvRows
  else if b = 3 then swdRows
  else if b = 4 then barRows
  else if b = 5 then skyRows
  else if b < 0xC then furglbRows ++ furpgRows ++ furportRows ++ furruleRows ++ furchRows ++ fursaRows
  else if b = 0xC then thaRows ++ hdgRows
  else if b = 0xD then gorRows
  else if b = 0xE then crnRows
  else if b = 0xF then pwrRows
  else if b = 0x10 then lcsRows ++ stlRows
  else if b = 0x11 then cmnRows
  else if b = 0x12 then cusRows
  else []

/-- Whether the row's array has a dword at offset `off`. -/
def RegRow.covers (r : RegRow) (off : Nat) : Bool :=
  decide (r.base ≤ off) &&
    (let d := off - r.base
     let e := d % r.s1
     decide (d / r.s1 < r.c1) && decide (e / r.s2 < r.c2) && decide (e % r.s2 = 0))

/-- The fields of the dword at BAR0 offset `off`; none where the space is reserved (R11). -/
def fieldsAt (off : Nat) : List FldRow :=
  match (blockRows (off / 0x100000)).find? (fun r => r.covers off) with
  | some r => r.flds
  | none => []

/-- The monitors of R402: minimum response, default response, fixed, alive on the backup cell. -/
def monitorRow (m : Nat) : Nat × Nat × Nat × Nat :=
  if m ≤ 5 then (3, 3, 0, 1)
  else if m ≤ 7 then (2, 2, 0, 0)
  else if m = 8 then (3, 3, 0, 1)
  else if m = 9 then (2, 2, 0, 1)
  else if m = 10 then (1, 2, 0, 0)
  else if m = 11 then (2, 2, 0, 0)
  else if m = 12 then (0, 0, 0, 0)
  else if m ≤ 16 then (0, 3, 0, 0)
  else if m = 17 then (2, 5, 0, 0)
  else if m = 18 then (0, 1, 0, 0)
  else if m = 19 then (0, 0, 0, 0)
  else if m = 20 then (5, 5, 1, 0)
  else if m = 21 then (4, 4, 1, 0)
  else if m ≤ 24 then (0, 0, 1, 0)
  else (3, 3, 1, 0)

/-- `GOR_MON_CFG` of monitor m at reset (R402, R403, R420): the default response, the minimum, fixed, backup and, but for the
loops, enabled. -/
def monCfgReset (m lo : Nat) : Nat :=
  let r := monitorRow m
  if lo = 0 then r.2.1
  else if lo = 3 then r.1
  else if lo = 6 then r.2.2.1
  else if lo = 7 then r.2.2.2
  else if lo = 8 then (if 13 ≤ m && m ≤ 16 then 0 else 1)
  else 0

/-- What a field holds at step 3, by its key: the reset value of its register table; 0 where no table lists the key. -/
def regDefault (key : Nat) : Nat :=
  let off := 4 * (key / 32)
  let lo := key % 32
  if 0xD00040 ≤ off && off < 0xD000A8 then monCfgReset ((off - 0xD00040) / 4) lo
  else
    match (fieldsAt off).find? (fun f => f.lo == lo) with
    | some f => f.reset
    | none => 0

end Sys2Proof.Machine
end

