-- ==== Sys2Proof/Machine/Types.lean ====
section
/-! DEFINITION. The parts the state is made of, unit by unit: what each unit of the module holds besides its registers. -/

namespace Sys2Proof.Machine

/-- The four variants of R1. -/
inductive Variant | f1700 | p1700 | l1700 | h1700
deriving DecidableEq, Repr

/-! ### Commands, graphs and completions (spec/10) -/

/-- The attributes of a request HIF sends to host memory (R108): its PASID where it carries one, Relaxed Ordering, ID-Based Ordering and No
Snoop. -/
structure DmaAttr where
  pasid : Option Nat := none
  ro : Bool := false
  ido : Bool := false
  ns : Bool := false
deriving DecidableEq, Repr

/-- A descriptor (R202). `reserved` says that some reserved bit of it was set (R203). -/
structure Descriptor where
  opcode : Nat := 0
  flags : Nat := 0
  template : Nat := 0
  prio : Nat := 0
  deadline : Nat := 0
  inLen : Nat := 0
  outLen : Nat := 0
  key0 : Nat := 0
  key1 : Nat := 0
  key2 : Nat := 0
  inAddr : Nat := 0
  outAddr : Nat := 0
  tag : Nat := 0
  reserved : Bool := false
deriving DecidableEq, Repr

/-- Where a node of a graph instance stands (R213, R178). -/
inductive NodePhase
  | waiting                 -- a predecessor has not completed
  | ready (die : Nat)       -- on the ready list of its role at this die
  | placed (slot : Nat)     -- in work slot `slot` (2 × cell + slot)
  | done
deriving DecidableEq, Repr

/-- A node of a graph instance. `cell` is the cell of its slot and `ran` the cell it last started in; `verdict` is the status its work
ended with, before it completes. -/
structure GNode where
  phase : NodePhase := .waiting
  cell : Nat := 0
  ran : Option Nat := none
  verdict : Option Nat := none
  status : Option Nat := none
deriving DecidableEq, Repr

/-- A key as a node resolved it (R228, R315): slot number, key bytes and attribute record at that moment. -/
structure KeySnap where
  slot : Nat
  tier : Nat
  ktype : Nat
  key : Bytes
  attr : Bytes
  opt : Bytes := []
deriving DecidableEq, Repr

/-- The outcome of a handle resolution: the key, or the status it ended with (R299). -/
inductive KeyOut
  | key (k : KeySnap)
  | fail (status : Nat)
deriving DecidableEq, Repr

/-- A graph instance (R213 to R217). -/
structure Graph where
  qid : Nat
  desc : Descriptor
  tpl : Template
  prio : Nat
  tAcc : Nat
  deadline : Nat
  epoch : Nat
  nodes : List GNode
  input : Option Bytes := none
  inFault : Bool := false
  keys : List (Option KeyOut) := [none, none, none]
  committed : Bool := false
  out : Bytes := []
  lastDie : Option Nat := none
  lastCell : Option (Nat × Nat) := none
  pend : Option Nat := none
  order : Nat := 0
  drawn : Bytes := []
deriving DecidableEq, Repr

/-- Work on a ready list or in a slot: a node of a graph, a frame Furrow diverted (R24), or the rekey of an association that
reached its threshold (R363). -/
inductive Work
  | node (g n : Nat)
  | frame (port : Nat) (f : Bytes)
  | rekey (assoc : Nat)
deriving DecidableEq, Repr

/-- A ready list entry (R178): its level, its work, the bale epoch it needs and the tick it reached the level. -/
structure Ready where
  prio : Nat
  work : Work
  epoch : Nat
  since : Nat
deriving DecidableEq, Repr

/-- The counter of a cipher lane (R277): its width, the block whose other bits it leaves unchanged, and the value of its field; a value of
2^width says that it is spent. -/
structure LaneCtr where
  width : Nat
  block : Bytes
  value : Nat
deriving DecidableEq, Repr

/-- The state of a cipher lane (R274, R286): the loaded key, its cipher (0 TDEA, 1 AES), the chaining value and the counter. -/
structure Lane where
  alg : Nat := 0
  key : Bytes := []
  chain : Bytes := []
  ctr : Option LaneCtr := none
deriving DecidableEq, Repr

/-- How a digest job pads (R281). -/
inductive PadMethod | counted | lastWord
deriving DecidableEq, Repr

/-- Where a digest job's result goes (R284): to firmware, to the comparator with the bytes it is compared with, or into a Barrow slot. -/
inductive DigestDest | firmware | compare (expected : Bytes) | barrow (klen : Nat)
deriving DecidableEq, Repr

/-- A digest job (R279 to R281, R284): the code, the output length of SHAKE, the declared length, the padding method, the destination, and the
key of an HMAC. -/
structure DigestJob where
  code : Nat
  d : Nat := 0
  len : Nat
  pad : PadMethod := .counted
  dest : DigestDest := .firmware
  key : Option Bytes := none
deriving DecidableEq, Repr

/-- The state of a digest unit (R280, R286): its job, the bytes it has accepted, and whether the stream has ended. -/
structure DigestUnit where
  job : Option DigestJob := none
  got : Bytes := []
  ended : Bool := false
deriving DecidableEq, Repr

/-- The state of a cell's cipher lane and digest unit (R286). -/
structure CellUnits where
  lane : Lane := {}
  digest : DigestUnit := {}
deriving DecidableEq, Repr

/-- How a slot's work stands (R180). -/
inductive SlotMode | prefetched | running | yielded
deriving DecidableEq, Repr

/-- What a work slot holds (R180); `ctx` is the context of its cell's units while the work has yielded (R287). -/
structure SlotEnt where
  work : Work
  mode : SlotMode
  prio : Nat := 0
  short : Bool := false
  roleEpoch : Nat := 0
  baleEpoch : Nat := 0
  ctx : CellUnits := {}
deriving DecidableEq, Repr

/-- The owner of a timer of a delay list (R182). -/
inductive Owner
  | keyExpiry (slot : Nat)
  | mka (inst kind : Nat)
  | cairn (code key : Nat)
  | pend (idx : Nat)
  | stile
  | cmn (kind peer : Nat)
  | sleep (m : Nat)
  | selftest (c : Nat)
  | firmware (g id : Nat)
deriving DecidableEq, Repr

structure Timer where
  list : Nat
  due : Nat
  owner : Owner
deriving DecidableEq, Repr

/-- The memory port of a clump (R186 to R190), by requester number: who requests, the wait counters whose limits were reached in
order, the pre-empted owner and the previous winner. -/
structure Port where
  req : List Nat := []
  limited : List Nat := []
  preempted : Option Nat := none
  prev : Nat := 9
  emergency : List Nat := []
deriving DecidableEq, Repr

/-- Operand copies of a dispatch agent (R177): the operand node `src` of a graph made for its node `dst`. -/
structure OpCopy where
  die : Nat
  g : Nat
  src : Nat
  dst : Nat
  data : Bytes
deriving DecidableEq, Repr

/-- An operand transfer on its way to a cell that has not answered it (R175, R176): the nodes it goes between and the role and bale
epochs it carries. -/
structure OpMsg where
  g : Nat
  src : Nat
  dst : Nat
  cell : Nat
  roleEpoch : Nat
  baleEpoch : Nat
deriving DecidableEq, Repr

/-- What the last meadow or cell command was written to (R200). -/
inductive DrvUnit | meadow (m : Nat) | cell (c : Nat)
deriving DecidableEq, Repr

/-- What a cell or a meadow leaving service moves toward (R192, R194, R197). -/
inductive Goal | none | fallow | restart | retest
deriving DecidableEq, Repr

/-- Drover and the Sward beside their registers. `excess` of a ready list: the entries that wait for room in it, those bound for the head of
their level marked; `msgs`: the operand transfers not answered; `oram` of a cell: the operands its operand RAM holds, by graph and node;
`prior` of a cell on its way out of service by its meadow, a fault or a test: 1 + the role it held; `winOpen` of a cell: 1 + the tick its
mismatch window opened at; `stopped` of a cell: 1 + the tick a node of it was last stopped at; `cmdOf`: what the command in progress
was written to. -/
structure Drover where
  tick : Nat := 0
  graphs : SMap (Option Graph) := []
  seqNo : Nat := 0
  ready : SMap (List Ready) := []
  slots : SMap (Option SlotEnt) := []
  rr : SMap Nat := []
  timers : List Timer := []
  excess : SMap (List (Ready × Bool)) := []
  copies : List OpCopy := []
  msgs : List OpMsg := []
  oram : SMap (List (Nat × Nat × Bytes)) := []
  units : SMap CellUnits := []
  banks : List (Nat × List Template) := []
  cellGoal : SMap Goal := []
  cellDrain : SMap Nat := []
  prior : SMap Nat := []
  cellEpoch : SMap Nat := []
  mdwGoal : SMap Goal := []
  mdwDrain : SMap Nat := []
  mdwAuto : Option Nat := none
  heldReturn : SMap Bool := []
  winOpen : SMap Nat := []
  stopped : SMap Nat := []
  cmdOf : Option DrvUnit := none
  ports : SMap Port := []
  staleAt : SMap Nat := []
  tickLatch : Nat := 0
deriving DecidableEq, Repr

/-! ### Host interface and allotments (spec/06, spec/07) -/

/-- Queue states (R140). -/
inductive QSt | disabled | enabled | draining | pendingEnable | error
deriving DecidableEq, Repr

/-- A descriptor that passed admission and waits in HIF in ring order (R205). -/
structure Waiting where
  desc : Descriptor
  tpl : Template
  input : Bytes := []
  pend : Option Nat := none
deriving DecidableEq, Repr

/-- An ABORT that waits for the completions of the descriptors it aborted (R211): its queue and descriptor, the queue and tag it named. -/
structure AbortWait where
  qid : Nat
  w : Waiting
  target : Nat
  tag : Nat
deriving DecidableEq, Repr

/-- A queue pair (R113 to R116, R137 to R141). `fetched` counts descriptors fetched whose completions are not yet written, `inAir`
those whose read has not arrived; `fenced` says that the descriptor last offered to Drover was a fenced one (R215). -/
structure Queue where
  sqBase : Nat := 0
  cqBase : Nat := 0
  depthLog2 : Nat := 0
  vector : Nat := 0
  coalCount : Nat := 0
  coalUs : Nat := 0
  st : QSt := .disabled
  heldReset : Bool := false
  sqHead : Nat := 0
  sqTail : Nat := 0
  cqTail : Nat := 0
  cqHead : Nat := 0
  phase : Bool := true
  errKind : Nat := 0
  fetched : Nat := 0
  inAir : Nat := 0
  waiting : List Waiting := []
  unsig : Nat := 0
  unsigAt : Nat := 0
  fenced : Bool := false
deriving DecidableEq, Repr

/-- Allotment states (R131). -/
inductive ASt | free | active | quiescing | pendingEnable | quiesced | resetting | removing
deriving DecidableEq, Repr

/-- An open dirty-log record (R149): window address, pages written, the tick it was opened. -/
structure LogRec where
  window : Nat
  pages : List Nat
  opened : Nat
deriving DecidableEq, Repr

/-- A write held for want of log space (R150): the queue and the completion it belongs to, and the length of its output buffer. -/
structure HeldOut where
  qid : Nat
  outAddr : Nat
  buf : Nat
  out : Bytes
  cpl : Bytes
deriving DecidableEq, Repr

/-- The dirty-page log of an allotment (R149, R150). -/
structure DirtyLog where
  base : Nat := 0
  en : Bool := false
  depthLog2 : Nat := 10
  flushUs : Nat := 100
  head : Nat := 0
  tail : Nat := 0
  phase : Bool := true
  seq : Nat := 0
  cache : List LogRec := []
  full : Bool := false
  lost : Bool := false
  headErr : Bool := false
  stalls : Nat := 0
  held : List HeldOut := []
deriving DecidableEq, Repr

/-- An allotment (R131 to R150); entry 2,048 stands for the steward selection (R144). -/
structure Allot where
  st : ASt := .free
  pasid : Nat := 0
  pasidEn : Bool := false
  quota : Nat := 0
  mbxVec : Nat := 0
  t2s : Bytes := []
  s2t : Bytes := []
  t2sFull : Bool := false
  s2tFull : Bool := false
  t2sOver : Bool := false
  s2tOver : Bool := false
  s2tAcked : Bool := false
  log : DirtyLog := {}
deriving DecidableEq, Repr

/-- An MSI-X table entry (R121). -/
structure Msix where
  addr : Nat := 0
  data : Nat := 0
  masked : Bool := true
  pending : Bool := false
deriving DecidableEq, Repr

/-- An SPDM session (R122, R125): whether its handshake is complete, its secret, how often its keys were updated, and the numbers of the
next message it protects in each direction. -/
structure Session where
  id : Nat
  established : Bool := false
  secret : Bytes
  keyGen : Nat := 0
  seqIn : Nat := 0
  seqOut : Nat := 0
deriving DecidableEq, Repr

/-- The SPDM responder (R122 to R125): how far the connection is negotiated, with a key exchange group and an AEAD or without, the open sessions,
the transcript that signatures cover, a large response kept for CHUNK_GET and a large request gathered by CHUNK_SEND. -/
structure Spdm where
  caps : Bool := false
  algs : Bool := false
  dhe : Bool := false
  aead : Bool := false
  sessions : List Session := []
  nextId : Nat := 1
  transcript : Bytes := []
  large : Bytes := []
  chunkIn : Bytes := []
deriving DecidableEq, Repr

/-- A sub-stream of an IDE stream (R126): its two key sets as Barrow slots, the set in use, and whether it is running. -/
structure IdeSub where
  k0 : Option Nat := none
  k1 : Option Nat := none
  cur : Nat := 0
  go : Bool := false
deriving DecidableEq, Repr

/-- An IDE stream: 0 the link stream, 1 to 8 selective streams 0 to 7. -/
structure IdeStream where
  sub : List IdeSub := [{}, {}, {}]
  secure : Bool := false
  insecure : Bool := false
  carriesDma : Bool := true
deriving DecidableEq, Repr

/-- HIF beside its registers, queues and allotments. `altBusy`: the allotment, or 65,536 + the queue, whose command is in progress; `aborts`:
the ABORTs that wait for what they aborted (R211); `atsEn`: the host has enabled ATS; `atsDenied`: the pages, by PASID, whose translation
the host denies (R108, log 223). -/
structure Hif where
  perst : Bool := false
  d3hot : Bool := false
  endpoint : Bool := false
  msix : SMap Msix := []
  msixEn : Bool := false
  msixMask : Bool := false
  cfgSpace : SMap Nat := []
  rrAllot : Nat := 0
  rrQueue : SMap Nat := []
  altBusy : Option Nat := none
  aborts : List AbortWait := []
  atsEn : Bool := false
  atsDenied : List (Option Nat × Nat) := []
  spdm : Spdm := {}
  ide : SMap IdeStream := []
  eid : Nat := 0
  alertMuted : Bool := false
  alertAt : Nat := 0
  subsys : Nat := 0
deriving DecidableEq, Repr

/-! ### Cairn (spec/20) -/

/-- A record of Cairn (R423). -/
structure CairnRec where
  flags : Nat
  code : Nat
  time : Nat
  pcc : Nat
  delta : Nat
  payload : Bytes
deriving DecidableEq, Repr

/-- A 4 KiB block (R422). -/
structure CairnBlock where
  seq : Nat := 0
  pcc : Nat := 0
  recs : List CairnRec := []
  closed : Bool := false
deriving DecidableEq, Repr

/-- An event in the input queue (R425). -/
structure CairnEvent where
  code : Nat
  key : Nat
  payload : Bytes
  flags : Nat := 0
deriving DecidableEq, Repr

/-- A rate window (R427). -/
structure RateWin where
  code : Nat
  key : Nat
  count : Nat
  suppressed : Nat := 0
  last : Nat := 0
deriving DecidableEq, Repr

/-- A tally entry of a freeze (R429). -/
structure Tally where
  code : Nat
  key : Nat
  count : Nat
  first : Nat
  last : Nat
deriving DecidableEq, Repr

/-- What an aperture load will bring (R431). -/
inductive ApLoad | ring (b : Nat) | flash (pos : Nat)
deriving DecidableEq, Repr

structure Cairn where
  opTime : Nat := 0
  pcc : Nat := 0
  timeLatch : Nat := 0
  fresh : Bool := true
  lastTime : Nat := 0
  queue : List CairnEvent := []
  dropped : Nat := 0
  ring : SMap CairnBlock := []
  head : Nat := 0
  tail : Nat := 0
  unspilled : List Nat := []
  nextSeq : Nat := 1
  windows : List RateWin := []
  rates : List (Nat × Nat × Nat) := []
  frozenAt : Nat := 0
  tally : List Tally := []
  tallyOver : Nat := 0
  sums : List CairnEvent := []
  load : Option ApLoad := none
  aperture : Bytes := []
  spillPos : Nat := 0
  spill : SMap (Option CairnBlock) := []
  lost : Nat := 0
deriving DecidableEq, Repr

/-! ### Gorse (spec/19) -/

/-- A swale in progress (R405, R409): 1 Swale-W, 2 Swale-R, with the monitor and response that gave it its kind. -/
structure Swale where
  kind : Nat
  mon : Nat
  resp : Nat
deriving DecidableEq, Repr

/-- Gorse beside its registers. `outs`: the monitors out of window now; `swale` in progress; `haltMon`: the monitor whose Halt is
pending or took place; `ledger`: the records programmed, 16 bytes each; `peat` and `latch`: the first 12 bytes of the records in the
Peat buffer and in the input latch behind it; `overflow`: backup records dropped; `backupTrips`: monitors that tripped since VIN
went; `downTime`, `downUs`: operating time at the last power-down and microseconds since; the built-in test that runs, channels
that passed since the last full pass, at `fullAt`, and channels that failed their last test; `overdue`: BIST_OVERDUE has tripped since
then; `peatAlarm`: the start found records of an alarm raised on the backup cell alone (R40). -/
structure Gorse where
  outs : List Nat := []
  swale : Option Swale := none
  haltMon : Option Nat := none
  ledger : List Bytes := []
  peat : List Bytes := []
  latch : List Bytes := []
  overflow : Nat := 0
  backupTrips : List Nat := []
  downTime : Nat := 0
  downUs : Nat := 0
  bist : Option (Nat × Nat) := none
  passed : List (Nat × Nat) := []
  failedCh : List (Nat × Nat) := []
  fullAt : Nat := 0
  overdue : Bool := false
  peatAlarm : Bool := false
deriving DecidableEq, Repr

/-! ### Barrow, the root store and the custodians (spec/14, spec/08) -/

inductive SlotSt | free | live | expired | orphaned | poisoned
deriving DecidableEq, Repr

/-- The recorded parent of a slot (R307). -/
inductive Parent | none | master (entry gen : Nat) | kek (slot use : Nat)
deriving DecidableEq, Repr

/-- A slot of the DRAM key cache (R294, R298, R301). -/
structure KSlot where
  st : SlotSt := .free
  use : Nat := 0
  allot : Nat := 0
  tier : Nat := 0
  ktype : Nat := 0
  attr : Bytes := []
  key : Bytes := []
  opt : Bytes := []
  parent : Parent := .none
  expiry : Nat := 0
  orphanNo : Nat := 0
deriving DecidableEq, Repr

/-- A master table entry (R308). -/
structure Master where
  present : Bool := false
  gen : Nat := 0
  id : Bytes := []
  key : Bytes := []
deriving DecidableEq, Repr

/-- A custodian slot (R153): 0 empty, 1 enrolled, 2 revoked; `alg` 1 SLH-DSA-SHA2-128s, 2 ML-DSA-65. -/
structure CusSlot where
  st : Nat := 0
  alg : Nat := 0
  pk : Bytes := []
deriving DecidableEq, Repr

/-- An action class (R155). -/
structure CusClass where
  members : Nat := 0
  k : Nat := 0
deriving DecidableEq, Repr

/-- A replica of a master (R442). -/
structure Replica where
  src : Nat
  allot : Nat
  gen : Nat
  id : Bytes
  key : Bytes
deriving DecidableEq, Repr

/-- Commons membership state (R436), kept in the root store. -/
structure Membership where
  member : Bool := false
  self : Nat := 0
  gen : Nat := 0
  id : Bytes := []
  digest : Bytes := []
  replicas : List Replica := []
  rosterKey : Bytes := []
deriving DecidableEq, Repr

/-- A persistent MKA instance (R375) as the root store keeps it. -/
structure PersistMka where
  inst : Nat
  params : Bytes
  cak : Bytes
deriving DecidableEq, Repr

/-- The root store (R308). `root` is the device root; none while the store holds none. -/
structure Root where
  root : Option Bytes := none
  era : Nat := 0
  masters : SMap Master := []
  slots : SMap CusSlot := []
  classes : SMap CusClass := []
  seeded : Bool := false
  attKey : Option Bytes := none
  attTest : Bool := false
  baleRec : Option (Nat × Nat) := none
  wcntA : Nat := 0
  wcntB : Nat := 0
  cmn : Membership := {}
  policy : Bytes := []
  linkMaster : Option Bytes := none
  persist : List PersistMka := []
deriving DecidableEq, Repr

/-- What an invalidation destroys: the chain of a master, or the children of a key-encryption key (R312, R313). -/
inductive InvRoot | master (entry : Nat) | kek (slot use : Nat)
deriving DecidableEq, Repr

/-- An invalidation in progress (R312): what it destroys, how many of its steps are done, the graph that waits for it, the
allotment whose removal it serves. -/
structure Inval where
  root : InvRoot
  pass : Nat := 0
  g : Option Nat := none
  removing : Option Nat := none
deriving DecidableEq, Repr

structure Barrow where
  slots : SMap KSlot := []
  hotE : List Nat := []
  hotW : List Nat := []
  orphanSeq : Nat := 0
  inval : List Inval := []
  recovering : Bool := false
  rootLost : Bool := false
  lastEra : Option Nat := none
deriving DecidableEq, Repr

/-- A stored approval (R161). -/
structure Approval where
  slot : Nat
  alg : Nat
  msg : Bytes
  sig : Bytes
deriving DecidableEq, Repr

/-- A pending entry (R157 to R163); state 0 FREE, 1 PENDING, 2 VERIFYING, 3 REJECTED. `waiting`: a matching descriptor waits in HIF;
`graph`: the instance of the resubmission being verified; `sig`: the approval whose signature is verified now; `rejecting`: the entry became
REJECTED while it was verified; `aborting`: ABORT named the resubmission (R218). -/
structure Pend where
  st : Nat := 0
  cls : Nat := 0
  opcode : Nat := 0
  handles : Nat × Nat × Nat := (0, 0, 0)
  inLen : Nat := 0
  inDigest : Bytes := []
  nonce : Bytes := []
  digest : Bytes := []
  record : Bytes := []
  approvals : List Approval := []
  rejects : Nat := 0
  verified : Nat := 0
  expiry : Nat := 0
  waiting : Bool := false
  graph : Option Nat := none
  sig : Option Approval := none
  rejecting : Bool := false
  aborting : Bool := false
  enrolSlot : Option Nat := none
  enrolPk : Bytes := []
  enrolAlg : Nat := 0
deriving DecidableEq, Repr

/-! ### Supply, power levels and sleep (spec/03) -/

/-- The save memory of a meadow (R65): for each cell its role, epoch and next role; the requested level; the bale epoch. -/
structure Save where
  cells : List (Nat × Nat × Nat) := []
  level : Nat := 0
  epoch : Nat := 0
  valid : Bool := false
deriving DecidableEq, Repr

/-- PWR beside its registers. `on`: the islands are supplied; `vin`: VIN is valid; `stepping` of a meadow: a level step under way and its
direction (R57); `wiped`: a sleeping meadow's retained SRAM was cleared by a swale (R67); `deep` of a meadow: its transition goes to or comes
from S3; `stretch` of an island: by how many percent its clock period is lengthened (R69); `heldReq` of a meadow that sleeps or changes state:
the level it requested before the writes that take effect when it is next ACTIVE (R68); `saveBad` of a meadow: the wake under way found its save
memory corrupt (R67); `storeUj`: the energy in the hold-up store in µJ (R60). -/
structure Power where
  vin : Bool := false
  on : Bool := false
  reset : Bool := false
  resetHeld : Bool := false
  halted : Bool := false
  peatLost : Bool := true
  startCause : Nat := 1
  breakA : Bool := false
  breakS : Bool := false
  holdP3 : Bool := false
  stepping : SMap (Option Bool) := []
  s1 : SMap Bool := []
  save : SMap Save := []
  wiped : SMap Bool := []
  stretch : SMap Nat := []
  deep : SMap Bool := []
  heldReq : SMap (Option Nat) := []
  saveBad : SMap Bool := []
  storeUj : Nat := 0
deriving DecidableEq, Repr

/-- What drives a pin. -/
inductive Drive | low | high | hiZ
deriving DecidableEq, Repr

/-- The outputs of R37, R40 and R129. The open-drain ones are released or driven low: `ready` says that READY is released, `tampDrive` that
the tamper loops are driven. The flash signals stand for both devices between transfers, and `stlTdo` for Stile's data output. -/
structure Pins where
  ready : Bool := false
  alarmLow : Bool := false
  haltLow : Bool := false
  smbAlertLow : Bool := false
  tampDrive : Bool := false
  flResetN : Drive := .low
  flCsN : Drive := .high
  flClk : Drive := .low
  stlTdo : Drive := .hiZ
deriving DecidableEq, Repr

/-- The fuse rows of a triple (R94, R96). -/
structure Triple where
  intent : Nat := 0
  target : Nat := 0
  commit : Nat := 0
deriving DecidableEq, Repr

/-- A fuse write under way (R92, R96, R83): stage 0 intent, 1 target, 2 commit of triple `t`; the graph it completes, if any. -/
inductive FuseJob
  | signer (k : Nat) (hash : Bytes)
  | revoke (k : Nat) (g : Option Nat)
  | row (t stage target : Nat) (g : Option Nat)
  | selector
deriving DecidableEq, Repr

/-- The life-cycle unit and Stile beside their registers (spec/05). `st` is the state decoded at step 3, coded as `LCS_STATUS.STATE`. `check`:
the transition in its CHECK phase, its target and the graph that requested it; `job`: the fuse write under way; `retried` says that the row of
the job failed its read-back once; `resetHeld`: a reset that waits for the write to end; `lockLast` of a region: the operating time of its last
record 0xF001; `memTest`: the memory test mode that waits for its swale, and its memory; `repairs`: the redundancy repairs programmed, the latest
first; `prodSeen`: the root store holds what a start in Production left (R90); `attSeen`: a start has made an attestation key (R100). -/
structure LifeCycle where
  variant : Variant := .f1700
  uid : Bytes := List.replicate 16 0
  t1 : Triple := {}
  t2 : Triple := {}
  t3 : Triple := {}
  signers : List (Option Bytes) := [none, none, none, none]
  revoked : Nat := 0
  selBlown : Nat := 0
  st : Nat := 0
  nonce : Bytes := []
  check : Option (Nat × Option Nat) := none
  job : Option FuseJob := none
  retried : Bool := false
  resetHeld : Bool := false
  attPending : Option Bytes := none
  lockLast : SMap Nat := []
  memTest : Option (TestMode × TestMem) := none
  repairs : List (TestMem × Nat) := []
  prodSeen : Bool := false
  attSeen : Bool := false
deriving DecidableEq, Repr

/-- The work of the stage in state BUSY (R80). -/
inductive StageJob | erase | program | check | abortErase | abortProgram
deriving DecidableEq, Repr

/-- The bale and its staging (spec/04). `step` is the start step reached (R72); `flashCnt` holds the flash copy of each slot's write count (R82);
`adoptedHdr` the checked header of the adopted bale; `flash` holds the 64 KiB chunks of both slots, slot × 768 + chunk, an unlisted chunk being
erased; `job` is the work of state BUSY; `expiryNext` is the meadow from which the restarts of an expired overlap go on (R84). -/
structure BaleState where
  step : Nat := 0
  flash : SMap Bytes := []
  deviceBad : SMap Bool := []
  flashCnt : SMap Nat := []
  aperture : SMap Nat := []
  written : List Nat := []
  target : Nat := 0
  job : Option StageJob := none
  staged : BaleContent := {}
  stagedLimit : Nat := 0
  running : Option Nat := none
  content : BaleContent := {}
  adopted : BaleContent := {}
  adoptedEpoch : Nat := 0
  adoptedSlot : Nat := 0
  adoptedHdr : Bytes := []
  stagedEpoch : Nat := 0
  mdwEpoch : SMap Nat := []
  overlapEnd : Nat := 0
  expiryNext : Option Nat := none
  ref156 : Bool := false
deriving DecidableEq, Repr

/-! ### Skylark (spec/15) -/

/-- A noise source (R322 to R324, R329): blocks completed, the numbers of the failed ones among the last 1,024, the last bit and the
run it ends, the passing blocks of its start-up run, whether that run is complete, and whether the source is excluded. -/
structure NoiseSrc where
  blocks : Nat := 0
  fails : List Nat := []
  last : Option Bool := none
  run : Nat := 0
  up : Nat := 0
  passed : Bool := false
  excl : Bool := false
deriving DecidableEq, Repr

/-- An expander instance (R327): requests since its last reseed, and whether it is reseeding. -/
structure Drbg where
  count : Nat := 0
  reseeding : Bool := false
deriving DecidableEq, Repr

/-- Skylark beside its registers. `clients`: the client instances 0 to 7 of the meadows, 8 Furrow, 9 the hub, 10 Barrow; `serving`:
the clients whose own instance serves them at present (R328); `want`: the clients that wait for a seed; `stalls`: readers that
stall and the tick their read began (R330); `buffer`: entries of `SKY_DATA` (R331). -/
structure Skylark where
  srcs : SMap NoiseSrc := []
  step7 : Bool := false
  katOk : Bool := false
  spare : SMap Nat := []
  seeds : Nat := 0
  service : List Drbg := []
  next : Nat := 0
  clients : SMap (Option Drbg) := []
  serving : List Nat := []
  want : List Nat := []
  stalls : List (Reader × Nat) := []
  buffer : Nat := 0
deriving DecidableEq, Repr

/-! ### Furrow (spec/16, spec/17) -/

/-- What an association holds beside its register fields (R362, R370): key, salt and SSCI of the installed key; `pn`, the next PN of
a transmit association or the LOWEST_PN of a receive one; `next`, NEXT_PN; `seen`, the PNs of the duplicate map; `last`, the tick of
the last frame decided under it. -/
structure Sa where
  key : Bytes := []
  salt : Bytes := []
  ssci : Bytes := []
  pn : Nat := 0
  next : Nat := 0
  seen : List Nat := []
  last : Nat := 0
deriving DecidableEq, Repr

/-- What a far-side frame under way to its ICV verdict carries from its decision (R346, R348): its PN, whether its ICV verifies, its
confidentiality, and the channel entry in force when it was decided. -/
structure RxFrame where
  pn : Nat
  valid : Bool
  conf : Bool
  check : Bool
  replay : Bool
  win : Nat
  commons : Bool
  octets : Nat
deriving DecidableEq, Repr

/-- A frame between its decision and its leaving (R343, R345, R346): what leaves, whether its FCS is sent right, the association it
was decided under, the elastic-buffer bytes it holds, whether it is dropped late, and for a far-side frame what its verdict needs. -/
structure Flight where
  data : Bytes
  ok : Bool := true
  assoc : Option Nat := none
  held : Nat := 0
  late : Bool := false
  rx : Option RxFrame := none
deriving DecidableEq, Repr

/-- An accumulator of statistics (R355): its association, the updates gathered, and the pending increments of the association's and
the channel's record. -/
structure Accum where
  assoc : Nat
  updates : Nat
  sa : List Nat
  ch : List Nat
deriving DecidableEq, Repr

/-- An MKA instance (R374): its binding, its parameters, its own member identifier and message number, its peer, and the SAK in
use. `keyed` says that a SAK is shared with the present peer, `secured` that the transmit switch was armed with it. -/
structure Mka where
  port : Nat
  txc : Nat
  rxc : Nat
  prio : Nat
  hello : Nat
  ckn : Bytes
  cak : Bytes
  persist : Bool := false
  mi : Bytes := []
  mn : Nat := 0
  peer : Option Bytes := none
  peerMn : Nat := 0
  peerSci : Bytes := []
  live : Bool := false
  server : Bool := false
  keyed : Bool := false
  secured : Bool := false
  an : Option Nat := none
  old : Option Nat := none
  keyNo : Nat := 0
  sak : Bytes := []
  sent : Nat := 0
deriving DecidableEq, Repr

/-- Furrow beside its registers. `arms`: the armed switch of a channel, target AN, mode and PN (R366); `flights` of 16 × side + port:
the frames received there and not yet sent; `shadow` of a dword offset: the value written and not yet committed (R342); `diverts` of a
far port: the ticks of the frames diverted in the last 10 ms; `winAt` of a group: the tick its mismatch window opened; `kat` of a
group: its start began in FAULTED; `toCmn`: Commons frames handed to CMN. -/
structure Furrow where
  sas : SMap Sa := []
  arms : SMap (Option (Nat × Nat × Nat)) := []
  flights : SMap (List Flight) := []
  paused : SMap Bool := []
  shadow : SMap (Option Nat) := []
  diverts : SMap (List Nat) := []
  winAt : SMap (Option Nat) := []
  kat : SMap Bool := []
  acc : SMap (List Accum) := []
  fifo : SMap (List (Nat × Bool)) := []
  toCmn : List (Nat × Bytes) := []
  mka : SMap (Option Mka) := []
deriving DecidableEq, Repr

/-! ### Thatch and Hedgerow (spec/18) -/

/-- A counter block (R385): its major counter and the minor counters of its 128 lines. -/
structure CtrBlock where
  major : Nat := 0
  minors : List Nat := List.replicate 128 0
deriving DecidableEq, Repr

/-- An access Thatch holds while its engine initialises or its block is rewritten (R386, R391). -/
inductive MemAccess
  | read (addr : Nat) (finding : Finding) (g : Option Nat)
  | write (addr : Nat) (data : Bytes) (g : Option Nat)
deriving DecidableEq, Repr

/-- A Thatch engine beside its registers (R383 to R391): its keys while it has any; the data lines, by line number; the counter blocks
whose bit is set; the child counters of the tree, level × 2^24 + child, level 7 holding the root; the lines poisoned and frozen; the
blocks under rewrite; the accesses that wait. -/
structure Engine where
  keys : Option Bytes := none
  data : SMap Bytes := []
  blocks : SMap (Option CtrBlock) := []
  tree : SMap Nat := []
  poison : SMap Bool := []
  frozen : SMap Bool := []
  rewriting : List Nat := []
  held : List MemAccess := []
deriving DecidableEq, Repr

/-- The two engines: 0 east, 1 west. -/
structure Thatch where
  engines : SMap Engine := []
deriving DecidableEq, Repr

/-- A burst that waits at a Hedgerow unit (R397, R398): master, kind, attributes, address, length. -/
structure Burst where
  master : Nat
  kind : Nat
  attr : Nat
  addr : Nat
  len : Nat
deriving DecidableEq, Repr

/-- Hedgerow beside its registers: the rule sets, 2 × unit + set; what a set of a cell unit was loaded for, 1 + 2 × role + world; the
bursts that stall at a unit. -/
structure Hedgerow where
  sets : SMap (List Region) := []
  tags : SMap Nat := []
  held : SMap (List Burst) := []
deriving DecidableEq, Repr

/-! ### Commons (spec/21) -/

/-- A session (R439, R440). `opening` while its handshake runs, `mine` on the initiator; `eph` holds the decapsulation key and `open_`
the initiator's message meanwhile; `tx` and `rx` are the slots of the two session keys; `seq` the next SEQ to send; `top` and `seen` the
replay window; `got` messages received; `sent` messages sent; `heard` and `beat` the ticks of the last message received and heartbeat
sent; `segs` the segments gathered, by TYPE. -/
structure CmnSess where
  peer : Nat
  num : Nat
  opening : Bool := true
  mine : Bool := true
  lost : Bool := false
  eph : Bytes := []
  hello : Bytes := []
  tx : Nat := 0
  rx : Nat := 0
  seq : Nat := 1
  top : Nat := 0
  seen : List Nat := []
  sent : Nat := 0
  heard : Nat := 0
  beat : Nat := 0
  segs : List (Nat × Nat × Nat × Bytes) := []
  since : Nat := 0
deriving DecidableEq, Repr

/-- An invitation in force (R437): the index, the candidate's entry, the operating time it ends at. -/
structure Invited where
  index : Nat
  entry : Bytes
  until_ : Nat
deriving DecidableEq, Repr

/-- A join in progress on the candidate (R437): its graph, the invitation, the sponsor's entry. -/
structure Joining where
  g : Nat
  inv : CmnInvite
  sponsor : Bytes
deriving DecidableEq, Repr

/-- The roster update applied last (R438): generation, keeper, index, the entry it gave and the entry it replaced. -/
structure LastUpdate where
  gen : Nat
  keeper : Nat
  index : Nat
  entry : Bytes
  old : Bytes
deriving DecidableEq, Repr

/-- A message of the Commons that was unsealed and waits to be acted on: sender, session and content. -/
structure CmnIn where
  peer : Nat
  num : Nat
  msg : CmnMsg
deriving DecidableEq, Repr

/-- A segment of a handshake message (R440): its sender, session number and TYPE, its number and the last one, its body. -/
structure HsSeg where
  peer : Nat
  num : Nat
  type : Nat
  seg : Nat
  last : Nat
  body : Bytes
deriving DecidableEq, Repr

/-- The Commons beside its registers and the membership the root store keeps. `roster` while one is loaded; `routes` true for RELAY;
`outQ` the relay queue; `waiting` messages that wait for a session, a port group or room; `admits` candidates to whom the sponsor
sends the roster once they are admitted; `moves` the peer and MASTER_ID of moves in progress; `last` the update applied last; `hs` the
handshake segments gathered; `openers` graphs that wait for a session with a peer, `failed` those whose attempt failed; `admitted` the
generation this module joined at. -/
structure Commons where
  roster : SMap Bytes := []
  sess : List CmnSess := []
  routes : SMap Bool := []
  outQ : List Bytes := []
  waiting : List (Nat × CmnMsg) := []
  invites : List Invited := []
  join : Option Joining := none
  admits : List (Nat × Bytes) := []
  moves : List (Nat × Bytes) := []
  last : Option LastUpdate := none
  inbox : List CmnIn := []
  hs : List HsSeg := []
  openers : List (Nat × Nat) := []
  failed : List (Nat × Nat) := []
  admitted : Option Nat := none
deriving DecidableEq, Repr

end Sys2Proof.Machine
end

