-- ==== Sys2Proof/Machine/State.lean ====
section
/-! DEFINITION. The state of the module as plain data, the reasons a step can stop, and the state right after reset. -/

namespace Sys2Proof.Machine

/-- Why a step stops with a fault. -/
inductive Fault
  /-- A register access to an offset of 64 MiB or more, outside BAR0 (R109). Raised by the register commands; safe, since the
  spec gives such an access no meaning. -/
  | outsideBar
deriving DecidableEq, Repr

/-- Why a step is refused. -/
inductive Refusal
  /-- A command that has no meaning in the model yet. Raised by the dispatch alone; safe. -/
  | notModelled (mnemonic : String)
deriving DecidableEq, Repr

/-- What the module sends out: to the host, onto the links, to the SMBus, to Stile. Requests to host memory carry their attributes (R108):
reads of descriptors and of input buffers, and writes of outputs, completions and dirty-log records; `translate` asks the host for the
translation of a page. -/
inductive Out
  | descRead (qid addr bytes : Nat) (attr : DmaAttr)
  | inputRead (qid addr bytes : Nat) (attr : DmaAttr)
  | translate (pasid : Option Nat) (page : Nat)
  | completion (qid idx : Nat) (bytes : Bytes) (attr : DmaAttr)
  | output (qid addr : Nat) (bytes : Bytes) (attr : DmaAttr)
  | logRecord (a addr : Nat) (bytes : Bytes) (attr : DmaAttr)
  | msix (vector : Nat)
  | cfg (retry : Bool) (val : Nat)
  | spdm (mctp : Bool) (code : Nat) (body : Bytes)
  | secured (mctp : Bool) (sid : Nat) (bytes : Bytes)
  | mctp (code : Nat) (body : Bytes)
  | frame (side port : Nat) (bytes : Bytes) (fcsOk : Bool)
  | pause (port kind quanta : Nat)
  | atsDone (tag : Nat)
  | stile (ok : Bool) (val : Nat)
  | memTest (fail : Option Nat)
  | refused (sender : Nat)
  | line (stack addr : Nat) (bytes : Option Bytes)
  | granted (unit : Nat) (ok : Bool)
deriving DecidableEq, Repr

/-- The state of the module. -/
structure State where
  /-- The commands that wait, first in first out. -/
  pending : List Instr := []
  /-- The register file: the fields of the BAR0 registers that differ from their reset values, by `Fld.key`. -/
  regs : SMap Nat := []
  drv : Drover := {}
  queues : SMap Queue := []
  allots : SMap Allot := []
  hif : Hif := {}
  cairn : Cairn := {}
  gorse : Gorse := {}
  root : Root := {}
  bar : Barrow := {}
  pends : SMap Pend := []
  pwr : Power := {}
  pins : Pins := {}
  lc : LifeCycle := {}
  bale : BaleState := {}
  sky : Skylark := {}
  fur : Furrow := {}
  tha : Thatch := {}
  hdg : Hedgerow := {}
  cmn : Commons := {}
  /-- The last value a read returned. -/
  rdata : Nat := 0
  /-- What the module has sent out, the latest first. -/
  outbox : List Out := []
  /-- The model's own counter of free values drawn (log 4). -/
  freeCtr : Nat := 0
deriving DecidableEq, Repr

/-- The module right after reset, as delivered (log 3): no supply yet, fuses unblown, every register at its step 3 value. -/
def State.reset : State := {}

end Sys2Proof.Machine
end

