-- ==== Sys2Proof/Machine/Ops.lean ====
section
/-! DEFINITION. The named operations on the state that every unit uses: register fields, bytes, free values, messages to the
host. -/

namespace Sys2Proof.Machine

/-! ### Bytes -/

/-- The `n` bytes of `v`, least significant first (the byte order of R10 and R202). -/
def le : Nat → Nat → Bytes
  | 0, _ => []
  | n + 1, v => BitVec.ofNat 8 v :: le n (v / 256)

/-- The number whose bytes are `b`, least significant first. -/
def leNat : Bytes → Nat
  | [] => 0
  | x :: b => x.toNat + 256 * leNat b

/-- The `n` bytes of `v`, most significant first. -/
def be (n v : Nat) : Bytes := (le n v).reverse

/-- The number whose bytes are `b`, most significant first. -/
def beNat (b : Bytes) : Nat := leNat b.reverse

/-- `n` bytes of `b` from offset `o`. -/
def slice (b : Bytes) (o n : Nat) : Bytes := (b.drop o).take n

/-- The byte of `b` at offset `o` as a number; 0 beyond its end. -/
def byteAt (b : Bytes) (o : Nat) : Nat := ((b.drop o).head?.map (·.toNat)).getD 0

/-- The little-endian number of `n` bytes of `b` at offset `o`. -/
def leAt (b : Bytes) (o n : Nat) : Nat := leNat (slice b o n)

/-- `b` cut or padded with zeros to `n` bytes. -/
def fit (n : Nat) (b : Bytes) : Bytes := (b ++ List.replicate n 0).take n

/-- `n` zero bytes. -/
def zeros (n : Nat) : Bytes := List.replicate n 0

/-- Whether every byte of `b` is zero. -/
def allZero (b : Bytes) : Bool := b.all (fun x => x == 0)

/-- The bytewise exclusive or of two strings, as long as the shorter. -/
def xorB (a b : Bytes) : Bytes := List.zipWith (· ^^^ ·) a b

/-- Bit `k` of `v`. -/
def bit (v k : Nat) : Bool := v.testBit k

/-- `v` with bit `k` set. -/
def setBit (v k : Nat) : Nat := v ||| 2 ^ k

/-- `v` with bit `k` clear. -/
def clrBit (v k : Nat) : Nat := if v.testBit k then v - 2 ^ k else v

/-- How many of the bits 0 to n − 1 of `v` are set. -/
def popCount (n v : Nat) : Nat := ((List.range n).filter (fun k => v.testBit k)).length

/-- 1 for true. -/
def b2n (b : Bool) : Nat := if b then 1 else 0

/-- Replace element `k` of a list. -/
def setAt {α : Type} (l : List α) (k : Nat) (x : α) : List α := l.set k x

/-- SHA-256 as the spec uses it, always 32 bytes. -/
def sha256 (b : Bytes) : Bytes := fit 32 (Config.sha256 b)

/-- SHA-384, always 48 bytes. -/
def sha384 (b : Bytes) : Bytes := fit 48 (Config.sha384 b)

/-- The four ASCII bytes of a magic number. -/
def magic (a b c d : Nat) : Bytes := [BitVec.ofNat 8 a, BitVec.ofNat 8 b, BitVec.ofNat 8 c, BitVec.ofNat 8 d]

/-! ### Register fields -/

/-- What a field of a register holds. -/
def State.getF (s : State) (f : Fld) : Nat := getM regDefault s.regs f.key

/-- Store into a field; bits beyond its width are lost. -/
def State.setF (s : State) (f : Fld) (v : Nat) : State :=
  { s with regs := setM regDefault s.regs f.key (v % 2 ^ f.w) }

/-- Whether a one-bit field holds 1. -/
def State.isSet (s : State) (f : Fld) : Bool := s.getF f == 1

/-- Add `n` to a counter field that saturates at its largest value. -/
def State.addF (s : State) (f : Fld) (n : Nat) : State := s.setF f (min (s.getF f + n) (2 ^ f.w - 1))

/-- Add one to a counter field that saturates. -/
def State.bump (s : State) (f : Fld) : State := s.addF f 1

/-- Set bit `k` of a field. -/
def State.setFBit (s : State) (f : Fld) (k : Nat) (b : Bool) : State :=
  s.setF f (if b then setBit (s.getF f) k else clrBit (s.getF f) k)

/-! ### Parts of the state held in sparse arrays -/

def State.queue (s : State) (q : Nat) : Queue := getC {} s.queues q
def State.setQueue (s : State) (q : Nat) (x : Queue) : State := { s with queues := setC {} s.queues q x }
def State.allot (s : State) (a : Nat) : Allot := getC {} s.allots a
def State.setAllot (s : State) (a : Nat) (x : Allot) : State := { s with allots := setC {} s.allots a x }
def State.graph (s : State) (g : Nat) : Option Graph := getC none s.drv.graphs g
def State.setGraph (s : State) (g : Nat) (x : Option Graph) : State :=
  { s with drv := { s.drv with graphs := setC none s.drv.graphs g x } }
def State.slot (s : State) (k : Nat) : Option SlotEnt := getC none s.drv.slots k
def State.setSlot (s : State) (k : Nat) (x : Option SlotEnt) : State :=
  { s with drv := { s.drv with slots := setC none s.drv.slots k x } }
def State.readyList (s : State) (k : Nat) : List Ready := getC [] s.drv.ready k
def State.setReady (s : State) (k : Nat) (x : List Ready) : State :=
  { s with drv := { s.drv with ready := setC [] s.drv.ready k x } }
def State.kslot (s : State) (k : Nat) : KSlot := getC {} s.bar.slots k
def State.setKslot (s : State) (k : Nat) (x : KSlot) : State :=
  { s with bar := { s.bar with slots := setC {} s.bar.slots k x } }
def State.master (s : State) (e : Nat) : Master := getC {} s.root.masters e
def State.setMaster (s : State) (e : Nat) (x : Master) : State :=
  { s with root := { s.root with masters := setC {} s.root.masters e x } }
def State.cus (s : State) (k : Nat) : CusSlot := getC {} s.root.slots k
def State.setCus (s : State) (k : Nat) (x : CusSlot) : State :=
  { s with root := { s.root with slots := setC {} s.root.slots k x } }
def State.cls (s : State) (k : Nat) : CusClass := getC {} s.root.classes k
def State.setCls (s : State) (k : Nat) (x : CusClass) : State :=
  { s with root := { s.root with classes := setC {} s.root.classes k x } }
def State.pendE (s : State) (k : Nat) : Pend := getC {} s.pends k
def State.setPend (s : State) (k : Nat) (x : Pend) : State := { s with pends := setC {} s.pends k x }

/-- E_ADOPT, of the bale record in the root store; 0 while the record is clear (R76). -/
def State.eAdopt (s : State) : Nat := (s.root.baleRec.map Prod.fst).getD 0

/-! ### Free values and messages -/

/-- Draw a free value (log 4). -/
def State.free (s : State) : Nat × State := (Config.freeValue s.freeCtr, { s with freeCtr := s.freeCtr + 1 })

/-- Draw `n` free bytes (log 4). -/
def State.freeBytes (s : State) (n : Nat) : Bytes × State :=
  ((List.range n).map (fun i => Config.freeByte (s.freeCtr + i)), { s with freeCtr := s.freeCtr + n })

/-- Send something out. -/
def State.emit (s : State) (o : Out) : State := { s with outbox := o :: s.outbox }

/-- Answer a read. -/
def State.answer (s : State) (v : Nat) : State := { s with rdata := v }

/-- Send the message of an MSI-X vector, or set its pending bit while the vector or the function is masked or MSI-X is not enabled (R121,
log 42). -/
def State.sendMsix (s : State) (v : Nat) : State :=
  let e := getC {} s.hif.msix v
  if s.hif.msixMask || !s.hif.msixEn || e.masked then
    { s with hif := { s.hif with msix := setC {} s.hif.msix v { e with pending := true } } }
  else s.emit (.msix v)

/-- Set an event bit of `HIF_EVENT`; a bit that goes from 0 to 1 while enabled sends the vector 0 message (R130). -/
def State.hifEvent (s : State) (f : Fld) : State :=
  let t := s.setF f 1
  if s.getF f = 0 && bit (s.getF Reg.HIF_EVENT_EN_EN) f.lo then t.sendMsix 0 else t

/-- An access to a window of an absent unit is counted (R3, R130). -/
def State.absentHit (s : State) : State := (s.bump Reg.HIF_ABSENT_HITS_HITS).hifEvent Reg.HIF_EVENT_ABSENT_HIT

/-! ### Conditions of the whole module -/

/-- The islands run: supplied, out of reset, not halted, and past step 3 of the start (R26, R72). -/
def State.live (s : State) : Bool := s.pwr.on && !s.pwr.reset && !s.pwr.halted

/-- An operation that acts only while the islands run. -/
def State.whenLive (s : State) (f : State → State) : State := if s.live then f s else s

/-- Act unless HIF is held in reset by `PERST_N` (R28). -/
def State.whenHif (s : State) (f : State → State) : State := s.whenLive (fun s => if s.hif.perst then s else f s)

/-- BAR0 shows every block: not in the no-bale state, not held at step 7, not in End of Life or Lost, nor on the way there with the ledger full
(R77, R78, R89, R98). -/
def State.fullMap (s : State) : Bool :=
  !s.isSet Reg.HIF_BALE_STATUS_NO_BALE && !s.isSet Reg.HIF_STATUS_START_HELD && !s.isSet Reg.LCS_STATUS_EOL_PENDING && s.lc.st != 3 && s.lc.st != 4

/-- Steward software reaches the blocks a held or no-bale start hides: the host interface is not in reset (R28, R77). -/
def State.whenOpen (s : State) (f : State → State) : State :=
  s.whenLive (fun s => if s.fullMap && !s.hif.perst then f s else s)

/-- The module with no command waiting: one Drover tick of 1 µs passes while the islands run (R182, log 1); without VIN the Peat
domain's oscillator counts the time (R414). -/
def State.idle (s : State) : State :=
  if s.live then { s with drv := { s.drv with tick := s.drv.tick + 1 } }
  else if s.pwr.vin then s
  else { s with gorse := { s.gorse with downUs := s.gorse.downUs + 1 } }

/-- Full service, step 12, reached (R72). -/
def State.service (s : State) : Bool := s.isSet Reg.HIF_STATUS_FULL_SERVICE

/-! ### The variant (R1) -/

def Variant.code : Variant → Nat
  | .f1700 => 0
  | .p1700 => 1
  | .l1700 => 2
  | .h1700 => 3

/-- The populated meadows, as `HIF_CAP0.MEADOWS` gives them. -/
def Variant.meadows : Variant → Nat
  | .f1700 => 0xFF
  | .p1700 => 0xFF
  | .l1700 => 0x11
  | .h1700 => 0x33

def Variant.cells : Variant → Nat
  | .f1700 => 256
  | .p1700 => 256
  | .l1700 => 64
  | .h1700 => 128

def Variant.hasFurrow (v : Variant) : Bool := v != .p1700
def Variant.hasPqc (v : Variant) : Bool := v != .h1700

/-- Meadow `m` is populated. -/
def State.hasMeadow (s : State) (m : Nat) : Bool := decide (m < 8) && bit s.lc.variant.meadows m

/-- The meadow of a cell (R9). -/
def meadowOf (cell : Nat) : Nat := cell / 32

/-- The clump of a cell, numbered 0 to 31 over the module (R9). -/
def clumpOf (cell : Nat) : Nat := cell / 8

/-- The die of a cell: 0 east, 1 west (R13). -/
def dieOf (cell : Nat) : Nat := cell / 128

/-- The cells of a meadow (R9). -/
def cellsOf (m : Nat) : List Nat := (List.range 32).map (fun i => 32 * m + i)

/-- Cell `c` is populated. -/
def State.hasCell (s : State) (c : Nat) : Bool := s.hasMeadow (meadowOf c)

end Sys2Proof.Machine
end

