-- ==== Sys2Proof/Machine/CairnOps.lean ====
section
/-! DEFINITION. Drover's timers (R182, R183) and Cairn's recorder (R421 to R432): posting an event, rate windows, the ring of
blocks, freezes and spill. Every unit posts through `State.post`. -/

namespace Sys2Proof.Machine

/-! ### Timers of the delay lists -/

/-- The timers that lists 1 to 7 share (R182). -/
def sharedTimers : Nat := 61440

/-- Take a timer of lists 1 to 7; none when the pool has no free timer (R183). -/
def State.takeTimer (s : State) (list due : Nat) (o : Owner) : Option State :=
  if s.drv.timers.length < sharedTimers then
    some { s with drv := { s.drv with timers := s.drv.timers ++ [⟨list, due, o⟩] } }
  else none

/-- Give a timer back to the pool (R182). -/
def State.dropTimer (s : State) (o : Owner) : State :=
  { s with drv := { s.drv with timers := s.drv.timers.filter (fun t => t.owner != o) } }

/-- A due timer whose action may have to wait for a cell or for the end of a verification, and holds up no other (R159, R197, R374). -/
def Timer.waits (u : Timer) : Bool :=
  u.list == 2 || u.list == 6 || (match u.owner with
    | .pend _ => true
    | _ => false)

/-- Timer `u` acts before timer `t`: they fall due at the same edge, and `u` stands in an earlier list, or earlier in the same one (R183).
The timers stand in order of insertion. -/
def State.actsBefore (s : State) (u t : Timer) : Bool :=
  u.due == t.due && !u.waits && (decide (u.list < t.list) || (u.list == t.list && (s.drv.timers.takeWhile (fun x => x != t)).contains u))

/-- The deadline of a graph in flight falls due at this tick: a timer of list 0 (R182, R184). -/
def State.deadlineAt (s : State) (due : Nat) : Bool :=
  s.drv.graphs.any (fun x => x.2.any (fun gr => gr.deadline == due && !gr.committed))

/-- The timer of this owner acts now: the tick count exceeds its due tick, and every timer of the same edge that acts before it has acted
(R183). -/
def State.isDue (s : State) (o : Owner) : Bool :=
  match s.drv.timers.find? (fun t => t.owner == o && decide (t.due < s.drv.tick)) with
  | some t => !s.deadlineAt t.due && !s.drv.timers.any (fun u => s.actsBefore u t)
  | none => false

/-! ### Records and blocks -/

/-- A payload padded to a multiple of 8 bytes (R423). -/
def pad8 (n : Nat) : Nat := (n + 7) / 8 * 8

/-- The bytes a record takes (R423). -/
def CairnRec.size (r : CairnRec) : Nat := (if bit r.flags 0 then 16 else 8) + pad8 r.payload.length

/-- The bytes of a block its records fill. -/
def CairnBlock.used (b : CairnBlock) : Nat := (b.recs.map CairnRec.size).sum

/-- The bytes of a record (R423). -/
def CairnRec.bytes (r : CairnRec) : Bytes :=
  [BitVec.ofNat 8 (r.size / 8), BitVec.ofNat 8 r.flags] ++ le 2 r.code ++
    (if bit r.flags 0 then le 6 r.time ++ le 4 r.pcc ++ zeros 2 else le 4 r.delta) ++
    fit (pad8 r.payload.length) r.payload

/-- One bit step of the CRC-32 of IEEE 802.3, least significant bit first. -/
def crcBit (c : Nat) : Nat := if c % 2 = 1 then (c / 2) ^^^ 0xEDB88320 else c / 2

/-- One byte step of the CRC-32. -/
def crcByte (c : Nat) (b : Byte) : Nat :=
  crcBit (crcBit (crcBit (crcBit (crcBit (crcBit (crcBit (crcBit (c ^^^ b.toNat))))))))

/-- The CRC-32 of IEEE 802.3 (R422). -/
def crc32 (b : Bytes) : Nat := (b.foldl crcByte 0xFFFFFFFF) ^^^ 0xFFFFFFFF

/-- The 4 KiB image of a block, with its header (R422). -/
def CairnBlock.bytes (b : CairnBlock) : Bytes :=
  let body := fit 4080 (b.recs.flatMap CairnRec.bytes)
  magic 0x45 0x5A 0x43 0x4E ++ le 4 b.seq ++ le 4 b.pcc ++ le 4 (if b.closed then crc32 body else 0) ++ body

def Cairn.block (c : Cairn) (k : Nat) : CairnBlock := getC {} c.ring k

/-- The ring can open its next block: it is not an unspilled one (R430). -/
def Cairn.canOpen (c : Cairn) : Bool := !(c.unspilled.contains ((c.head + 1) % 256))

/-- Close the open block and open the next (R422, R430). -/
def Cairn.turn (c : Cairn) : Cairn :=
  let n := (c.head + 1) % 256
  let ring := setC {} c.ring c.head { c.block c.head with closed := true }
  { c with
    ring := setC {} ring n { seq := c.nextSeq % 2 ^ 32, pcc := c.pcc }
    unspilled := c.unspilled ++ [c.head]
    head := n
    tail := if n = c.tail then (c.tail + 1) % 256 else c.tail
    nextSeq := (c.nextSeq + 1) % 2 ^ 32 }

/-- The record an event makes now, in full or compact form (R423). -/
def Cairn.record (c : Cairn) (flags code : Nat) (payload : Bytes) : CairnRec :=
  let full := c.fresh || (c.block c.head).recs.isEmpty || decide (0xFFFFFFFF < c.opTime - c.lastTime)
  { flags := if full then setBit flags 0 else clrBit flags 0
    code, time := c.opTime, pcc := c.pcc, delta := c.opTime - c.lastTime, payload }

/-- Append a record to the open block. -/
def Cairn.append (c : Cairn) (r : CairnRec) : Cairn :=
  let b := c.block c.head
  { c with ring := setC {} c.ring c.head { b with recs := b.recs ++ [r] }, fresh := false, lastTime := c.opTime }

/-- Write a record; none while the ring is held for want of a spilled block (R430). -/
def Cairn.write (c : Cairn) (flags code : Nat) (payload : Bytes) : Option Cairn :=
  let r := c.record flags code payload
  if (c.block c.head).used + r.size ≤ 4080 then some (c.append r)
  else if c.canOpen then
    let c' := c.turn
    some (c'.append (c'.record flags code payload))
  else none

/-! ### Input queue, rate windows and freeze -/

/-- Codes that always find room (R426). -/
def reservedCode (code : Nat) : Bool :=
  code / 0x1000 = 0 || code / 0x1000 = 0xB || code = 0x9004 || code = 0x9006

/-- Codes that no rate window limits (R427). -/
def unlimited (code : Nat) : Bool :=
  code / 0x1000 = 0 || (decide (0xB001 ≤ code) && decide (code ≤ 0xB004)) || code = 0x9004 || code = 0x9006 || code = 0x1010

/-- The window in ms and the maximum of a code (R427). -/
def Cairn.rate (c : Cairn) (code : Nat) : Nat × Nat :=
  match c.rates.find? (fun r => r.1 == code) with
  | some r => r.2
  | none => (1000, 32)

/-- The payload of a summary record (R427). -/
def summaryPayload (key count last : Nat) : Bytes := le 2 key ++ zeros 2 ++ le 4 count ++ le 6 last ++ zeros 2

/-- Tally an occurrence during a freeze (R429). -/
def Cairn.freezeTally (c : Cairn) (code key : Nat) : Cairn :=
  match c.tally.findIdx? (fun t => t.code == code && t.key == key) with
  | some i => { c with tally := c.tally.modify i (fun t => { t with count := t.count + 1, last := c.opTime }) }
  | none =>
    if c.tally.length < 64 then { c with tally := c.tally ++ [⟨code, key, 1, c.opTime, c.opTime⟩] }
    else { c with tallyOver := c.tallyOver + 1 }

/-- Put the outcome of a ring write back; none while the ring is held. -/
def State.cairnWrite (s : State) (flags code : Nat) (payload : Bytes) : Option State :=
  (s.cairn.write flags code payload).map (fun c => { s with cairn := c })

/-- Write a record of Cairn's own making; while the ring is held it waits in the queue (R430). -/
def State.cairnPut (s : State) (e : CairnEvent) : State :=
  (s.cairnWrite e.flags e.code e.payload).getD { s with cairn := { s.cairn with queue := s.cairn.queue ++ [e] } }

/-- A record that no rate window limits: by its code, or as a summary or FROZEN record, which stand for occurrences already counted
(R427, R429). -/
def CairnEvent.free (e : CairnEvent) : Bool := unlimited e.code || bit e.flags 1 || bit e.flags 2 || e.code == 0x2012

/-- Put an event in the input queue: 224 of its 256 entries take any code, and a reserved code always finds room. Without room it is dropped
and counted (R425, R426, log 239). -/
def State.cairnQueue (s : State) (e : CairnEvent) : State :=
  if reservedCode e.code || decide ((s.cairn.queue.filter (fun x => !reservedCode x.code)).length < 224) then { s with cairn := { s.cairn with queue := s.cairn.queue ++ [e] } }
  else ({ s with cairn := { s.cairn with dropped := s.cairn.dropped + 1 } }.bump Reg.CRN_DROPPED_COUNT).setF Reg.CRN_EVENT_DROPPED 1

/-- The payload of R461: key, detail, value. -/
def payload461 (key detail value : Nat) : Bytes := le 2 key ++ le 2 detail ++ le 4 value

/-- A timer request that found no free timer: counted and, as event 0x4002 with the list as key, recorded (R183). -/
def State.timerFull (s : State) : State := (s.bump Reg.DRV_TIMER_FULL_COUNT).setF Reg.DRV_EVENT_TIMER_FULL 1

/-- Accept one event from the queue (R427, R429); none while the ring is held. The window of event 0x4002 itself, where it finds no timer,
makes no further event (log 214). -/
def State.cairnAccept (s : State) (e : CairnEvent) : Option State :=
  if s.isSet Reg.CRN_STATUS_FROZEN then
    if bit e.flags 1 || bit e.flags 2 || e.code == 0x2012 then some { s with cairn := { s.cairn with sums := s.cairn.sums ++ [e] } }
    else some ({ s with cairn := s.cairn.freezeTally e.code e.key }.bump Reg.CRN_FROZEN_COUNT)
  else if e.free then s.cairnWrite e.flags e.code e.payload
  else
    match s.cairn.windows.findIdx? (fun w => w.code == e.code && w.key == e.key) with
    | some i =>
      match s.cairn.windows[i]? with
      | some w =>
        if w.count < (s.cairn.rate e.code).2 then
          (s.cairnWrite e.flags e.code e.payload).map (fun t =>
            { t with cairn := { t.cairn with windows := t.cairn.windows.modify i (fun w => { w with count := w.count + 1 }) } })
        else
          some { s with cairn := { s.cairn with
            windows := s.cairn.windows.modify i (fun w => { w with suppressed := w.suppressed + 1, last := s.cairn.opTime }) } }
      | none => some s
    | none =>
      (s.cairnWrite e.flags e.code e.payload).map (fun t =>
        match t.takeTimer 3 (t.drv.tick + 1000 * (t.cairn.rate e.code).1) (.cairn e.code e.key) with
        | some u => { u with cairn := { u.cairn with windows := u.cairn.windows ++ [RateWin.mk e.code e.key 1 0 0] } }
        | none =>
          let t := (t.setF Reg.CRN_EVENT_NO_WINDOW 1).timerFull
          if e.code = 0x4002 then t else t.cairnQueue ⟨0x4002, 3, payload461 3 3 0, 0⟩)

/-- Accept queued events in order while the ring takes them (R426); `n` bounds how many. -/
def State.cairnDrain : Nat → State → State
  | 0, s => s
  | n + 1, s =>
    match s.cairn.queue with
    | [] => s
    | e :: q =>
      match { s with cairn := { s.cairn with queue := q } }.cairnAccept e with
      | some t => State.cairnDrain n t
      | none => s

/-- Write the record of events dropped once the queue has room again (R426); a freeze stops the ring (R428). -/
def State.cairnDropped (s : State) : State :=
  if s.cairn.dropped = 0 || decide (224 ≤ (s.cairn.queue.filter (fun x => !reservedCode x.code)).length) || s.isSet Reg.CRN_STATUS_FROZEN then s
  else
    match s.cairnWrite 0 0x2011 (le 4 s.cairn.dropped) with
    | some t => { t with cairn := { t.cairn with dropped := 0 } }
    | none => s

/-- Take what the input queue holds, each event with the one its window may add to it. -/
def State.cairnRun (s : State) : State := (State.cairnDrain (2 * s.cairn.queue.length) s).cairnDropped

/-- Post an event with a payload of its own layout (R425, R426). -/
def State.postRaw (s : State) (code key : Nat) (payload : Bytes) (flags : Nat := 0) : State :=
  (s.cairnQueue ⟨code, key, payload, flags⟩).cairnRun

/-- Post an event with the payload of R461: key, detail, value. -/
def State.post (s : State) (code key detail value : Nat) : State := s.postRaw code key (payload461 key detail value)

/-- Take a timer; where none is free the request fails and is counted and recorded (R183). -/
def State.timer (s : State) (list due : Nat) (o : Owner) : Option State × State :=
  match s.takeTimer list due o with
  | some t => (some t, t)
  | none => (none, s.timerFull.post 0x4002 list list 0)

/-- Write a summary record, or keep it for the thaw (R427, R433). -/
def State.summary (s : State) (w : RateWin) : State :=
  if w.suppressed = 0 then s
  else
    let p := summaryPayload w.key w.suppressed w.last
    if s.isSet Reg.CRN_STATUS_FROZEN then
      { s with cairn := { s.cairn with sums := s.cairn.sums ++ [⟨w.code, w.key, p, 2⟩] } }
    else s.cairnPut ⟨w.code, w.key, p, 2⟩

/-- Close a rate window (R427). -/
def State.closeWindow (s : State) (w : RateWin) : State :=
  ({ s with cairn := { s.cairn with windows := s.cairn.windows.filter (fun x => !(x.code == w.code && x.key == w.key)) } }.dropTimer
    (.cairn w.code w.key)).summary w

/-- Close every open window at once (R427, R433). -/
def State.closeWindows (s : State) : State := s.cairn.windows.foldl State.closeWindow s

/-- End a freeze: the tallied pairs, the overflow and the summaries held are written (R429, R433). -/
def State.thaw (s : State) (auto : Bool) : State :=
  if s.isSet Reg.CRN_STATUS_FROZEN then
    let tal := s.cairn.tally.map (fun t =>
      CairnEvent.mk t.code t.key (summaryPayload t.key t.count t.last ++ le 6 t.first ++ zeros 2) 4)
    let ovf := if s.cairn.tallyOver = 0 then [] else [CairnEvent.mk 0x2012 0 (le 4 s.cairn.tallyOver) 0]
    let evs := tal ++ ovf ++ s.cairn.sums
    let t := { s with cairn := { s.cairn with tally := [], tallyOver := 0, sums := [] } }.setF Reg.CRN_STATUS_FROZEN 0
    let u := evs.foldl State.cairnPut t
    (if auto then u.setF Reg.CRN_EVENT_THAW_AUTO 1 else u).cairnRun
  else s

/-! ### Spill -/

/-- The spill positions of one device: 255 sectors of 16 blocks (R430). -/
def spillPerDev : Nat := 4080

/-- The spill position after `p`, running through slot A, then slot B, then wrapping (R430). -/
def nextSpill (p : Nat) : Nat := (p + 1) % (2 * spillPerDev)

/-- Erase the sector that holds position `p`. -/
def eraseSector (m : SMap (Option CairnBlock)) (p : Nat) : SMap (Option CairnBlock) :=
  (List.range 16).foldl (fun m i => setC none m (16 * (p / 16) + i) none) m

/-- Program a block at the spill position and advance; a position that enters a new sector has the sector after it erased. -/
def Cairn.program (c : Cairn) (b : CairnBlock) : Cairn :=
  let m := setC none c.spill c.spillPos (some b)
  let p := nextSpill c.spillPos
  { c with spill := if p % 16 = 0 then eraseSector m ((p + 16) % (2 * spillPerDev)) else m, spillPos := p }

/-- Program the oldest unspilled block. -/
def Cairn.programOldest (c : Cairn) : Cairn :=
  match c.unspilled with
  | [] => c
  | k :: r => { c.program (c.block k) with unspilled := r }

/-- Take up the spill at position `p`: where it is another than the one kept, its sector and the one after it are erased first (R430). -/
def Cairn.moveSpill (c : Cairn) (p : Nat) : Cairn :=
  if p = c.spillPos then c
  else { c with spillPos := p, spill := eraseSector (eraseSector c.spill p) ((p + 16) % (2 * spillPerDev)) }

/-- The 4 KiB that a spill position holds; an erased one reads as bytes 0xFF (log 197). -/
def Cairn.spillImage (c : Cairn) (p : Nat) : Bytes :=
  match getC none c.spill p with
  | some b => b.bytes
  | none => List.replicate 4096 0xFF

/-- Staging occupies the device of a slot: the stage state is OPEN or BUSY for that slot (R430, R431). -/
def State.stagingOn (s : State) (dev : Nat) : Bool :=
  s.bale.target == dev && (s.getF Reg.HIF_BALE_STATUS_STAGE == 1 || s.getF Reg.HIF_BALE_STATUS_STAGE == 2)

/-- The first spill position whose device is neither failed nor being staged: the position kept, or the start of the other
device (R430); none where both are barred. -/
def State.spillTarget (s : State) : Option Nat :=
  let ok (d : Nat) : Bool := !(getC false s.bale.deviceBad d) && !s.stagingOn d
  let p := s.cairn.spillPos
  let d := p / spillPerDev
  if ok d then some p
  else if ok (1 - d) then some (spillPerDev * (1 - d))
  else none

/-- The power-loss flush (R432): the windows close, the open block is closed, the oldest unspilled block and then the closed open block are
programmed, as far as `n` blocks and on a device that takes them, and the count of the others is kept for the next start. -/
def State.cairnFlush (s : State) (n : Nat) : State :=
  let s := (s.thaw true).closeWindows
  let s := ((s.cairnWrite 0 0x1001 (le 2 0 ++ le 2 0 ++ le 4 0)).getD s)
  let n := if s.spillTarget.isSome then n else 0
  let c := s.cairn.moveSpill (s.spillTarget.getD s.cairn.spillPos)
  let cur := { c.block c.head with closed := true }
  let old := min 1 c.unspilled.length
  let lost := c.unspilled.length + 1 - min n (old + 1)
  let c := if old = 1 && decide (1 ≤ n) then c.programOldest else c
  let c := if old + 1 ≤ n then c.program cur else c
  { s with cairn := { c with unspilled := [], head := 0, tail := 0, lost := lost, load := none, queue := []
                             ring := setC {} [] 0 { seq := c.nextSeq, pcc := c.pcc }, nextSeq := (c.nextSeq + 1) % 2 ^ 32 } }

end Sys2Proof.Machine
end

