-- ==== Sys2Proof/Machine/Cairn.lean ====
section
/-! DEFINITION. The commands and events of Cairn (spec/20). -/

namespace Sys2Proof.Machine

/-- What a step answers. -/
abbrev Res := Host.Outcome State Fault Refusal

/-- A unit posts an event (R425, R426). -/
def execCairnEventPost (code key : Nat) (payload : Bytes) (s : State) : Res :=
  .next (s.whenLive (fun s => s.postRaw code key payload))

/-- The timer of a rate window falls due (R427). -/
def execRateWindowClose (code key : Nat) (s : State) : Res :=
  .next (s.whenLive (fun s =>
    if s.isDue (.cairn code key) then
      match s.cairn.windows.find? (fun w => w.code == code && w.key == key) with
      | some w => s.closeWindow w
      | none => s
    else s))

/-- FREEZE; without effect while frozen (R428). -/
def State.freeze (s : State) : State :=
  if s.isSet Reg.CRN_STATUS_FROZEN then s
  else { s.setF Reg.CRN_STATUS_FROZEN 1 with cairn := { s.cairn with frozenAt := s.cairn.opTime } }

def execFreezeCmd (s : State) : Res := .next (s.whenHif State.freeze)

/-- THAW (R428, R429). -/
def execThawCmd (s : State) : Res := .next (s.whenHif (fun s => s.thaw false))

/-- The freeze has lasted 100 ms (R428). -/
def State.freezeTimeout (s : State) : State :=
  if s.isSet Reg.CRN_STATUS_FROZEN && decide (s.cairn.frozenAt + 100 ≤ s.cairn.opTime) then s.thaw true else s

def execFreezeTimeout (s : State) : Res := .next (s.whenLive State.freezeTimeout)

/-- LOAD_RING: the copy of the selected ring block begins (R431). -/
def State.loadRing (s : State) : State :=
  let t := s.setF Reg.CRN_STATUS_LOADING 1
  { t with cairn := { t.cairn with load := some (.ring (s.getF Reg.CRN_RD_SEL_BLOCK)) } }

def execLoadRing (s : State) : Res := .next (s.whenHif State.loadRing)

/-- The aperture takes the block; LOADING clears (R431). -/
def State.aperture (s : State) (b : Bytes) : State :=
  let t := s.setF Reg.CRN_STATUS_LOADING 0
  { t with cairn := { t.cairn with load := none, aperture := b } }

def State.loadRingDone (s : State) : State :=
  match s.cairn.load with
  | some (.ring b) => s.aperture (s.cairn.block b).bytes
  | _ => s

def execLoadRingComplete (s : State) : Res := .next (s.whenLive State.loadRingDone)

/-- LOAD_FLASH: refused while staging occupies the device, and for sector 255 (R431, R434, log 21). -/
def State.loadFlash (s : State) : State :=
  let dev := s.getF Reg.CRN_RD_SEL_DEVICE
  let sec := s.getF Reg.CRN_RD_SEL_SECTOR
  if sec = 255 then s.setF Reg.CRN_EVENT_CFG_REFUSED 1
  else if s.stagingOn dev then s.setF Reg.CRN_EVENT_LOAD_REFUSED 1
  else
    let t := s.setF Reg.CRN_STATUS_LOADING 1
    { t with cairn := { t.cairn with load := some (.flash (spillPerDev * dev + 16 * sec + s.getF Reg.CRN_RD_SEL_FBLOCK)) } }

def execLoadFlash (s : State) : Res := .next (s.whenHif State.loadFlash)

def State.loadFlashDone (s : State) : State :=
  match s.cairn.load with
  | some (.flash p) => s.aperture (s.cairn.spillImage p)
  | _ => s

def execLoadFlashComplete (s : State) : Res := .next (s.whenLive State.loadFlashDone)

/-- WALL: record 0x2010 with the two WALL registers, by steward software (R421, log 20). -/
def State.wall (s : State) : State :=
  s.postRaw 0x2010 0 (le 4 (s.getF Reg.CRN_WALL_LO_VALUE) ++ le 4 (s.getF Reg.CRN_WALL_HI_VALUE)) 8

def execWallCmd (s : State) : Res := .next (s.whenHif State.wall)

/-- Spill can program at its position: it has started, no freeze holds it, and its device takes a program (R428, R430). -/
def State.canSpill (s : State) : Bool :=
  s.isSet Reg.CRN_STATUS_SPILLING && !s.isSet Reg.CRN_STATUS_FROZEN

/-- A closed block is programmed (R430). -/
def State.spillOne (s : State) : State :=
  if s.canSpill then
    match s.spillTarget with
    | some p => { s with cairn := (s.cairn.moveSpill p).programOldest }.cairnRun
    | none => s
  else s

def execSpillBlockProgrammed (s : State) : Res := .next (s.whenLive State.spillOne)

end Sys2Proof.Machine
end

