-- ==== Sys2Proof/Machine/Crypto.lean ====
section
/-! DEFINITION. What cell firmware and the units compose from the standard algorithms (R274 to R290): block modes, MACs, key
derivations, the stored-key wrap. The algorithms themselves are the opaque ones of Config (log 5). -/

namespace Sys2Proof.Machine

/-! ### Blocks and block modes -/

/-- The block length of a cipher: 0 TDEA, 1 AES. -/
def bsize (alg : Nat) : Nat := if alg = 0 then 8 else 16

/-- One block enciphered. -/
def encB (alg : Nat) (key b : Bytes) : Bytes := fit (bsize alg) (Config.blockCipher alg true key b)

/-- One block deciphered. -/
def decB (alg : Nat) (key b : Bytes) : Bytes := fit (bsize alg) (Config.blockCipher alg false key b)

/-- A string cut into blocks of `n` bytes, the last one as long as what remains. -/
def chunks (n : Nat) (b : Bytes) : List Bytes := (List.range ((b.length + n - 1) / n)).map (fun i => slice b (n * i) n)

/-- ECB encryption and decryption (R276). -/
def ecbEnc (alg : Nat) (key b : Bytes) : Bytes := (chunks (bsize alg) b).flatMap (encB alg key)

def ecbDec (alg : Nat) (key b : Bytes) : Bytes := (chunks (bsize alg) b).flatMap (decB alg key)

/-- CBC encryption (R276). -/
def cbcEnc (alg : Nat) (key iv b : Bytes) : Bytes :=
  ((chunks (bsize alg) b).foldl (fun (st : Bytes × Bytes) x =>
    let c := encB alg key (xorB x st.1)
    (c, st.2 ++ c)) (iv, [])).2

/-- CBC decryption (R276). -/
def cbcDec (alg : Nat) (key iv b : Bytes) : Bytes :=
  ((chunks (bsize alg) b).foldl (fun (st : Bytes × Bytes) x => (x, st.2 ++ xorB (decB alg key x) st.1)) (iv, [])).2

/-- The chained MAC of whole blocks from an initial value of zeros. -/
def chain (alg : Nat) (key b : Bytes) : Bytes :=
  (chunks (bsize alg) b).foldl (fun c x => encB alg key (xorB c x)) (zeros (bsize alg))

/-- Padding method 1 or 2 to whole blocks of `n` bytes (R238). -/
def padMac (method n : Nat) (b : Bytes) : Bytes :=
  let b := if method = 2 then b ++ [0x80] else b
  if b.isEmpty then zeros n else b ++ zeros ((n - b.length % n) % n)

/-- ISO 9797-1 algorithm 1 (R238, R275). -/
def mac1 (alg method : Nat) (key msg : Bytes) : Bytes := chain alg key (padMac method (bsize alg) msg)

/-- ISO 9797-1 algorithm 3: single DES chained under the left half, then one TDEA block (R238, R275). -/
def mac3 (method : Nat) (key msg : Bytes) : Bytes :=
  let ka := key.take 8
  let kb := slice key 8 8
  encB 0 ka (decB 0 kb (chain 0 ka (padMac method 8 msg)))

/-- Doubling in the field of CMAC. -/
def dbl (b : Bytes) : Bytes :=
  let n := b.length
  let v := beNat b
  let w := 2 * v % 2 ^ (8 * n)
  be n (if v < 2 ^ (8 * n - 1) then w else w ^^^ (if n = 8 then 0x1B else 0x87))

/-- CMAC (SP 800-38B). -/
def cmac (alg : Nat) (key msg : Bytes) : Bytes :=
  let n := bsize alg
  let k1 := dbl (encB alg key (zeros n))
  let k2 := dbl k1
  let whole := msg.length ≠ 0 && msg.length % n = 0
  let cut := if whole then msg.length - n else msg.length / n * n
  let last := if whole then xorB (msg.drop cut) k1 else xorB (padMac 2 n (msg.drop cut)) k2
  chain alg key (msg.take cut ++ last)

/-- The next tweak of XTS: the product by x in its field, the first byte the least significant. -/
def xtsNext (t : Bytes) : Bytes :=
  let v := leNat t
  le 16 (if v < 2 ^ 127 then 2 * v else (2 * v) % 2 ^ 128 ^^^ 0x87)

/-- XTS-AES of whole blocks under a data key and a tweak key (R384). -/
def xtsEnc (k1 k2 tweak b : Bytes) : Bytes :=
  ((chunks 16 b).foldl (fun (st : Bytes × Bytes) x => (xtsNext st.1, st.2 ++ xorB (encB 1 k1 (xorB x st.1)) st.1)) (encB 1 k2 tweak, [])).2

/-! ### The counter stream (R277) -/

/-- The widths a counter may have: 32, 64 or 128 bits for AES, 32 or 64 for TDEA. -/
def ctrWidth (alg w : Nat) : Bool := w == 32 || w == 64 || (w == 128 && alg == 1)

/-- The counter of a starting block: its rightmost `w` bits as an unsigned number. -/
def LaneCtr.ofBlock (w : Nat) (block : Bytes) : LaneCtr := ⟨w, block, beNat block % 2 ^ w⟩

/-- The counter block of a value of the field: every other bit of the block is unchanged. -/
def LaneCtr.at (c : LaneCtr) (v : Nat) : Bytes := be c.block.length (beNat c.block / 2 ^ c.width * 2 ^ c.width + v % 2 ^ c.width)

/-- A job of `n` blocks would carry the field past its last value. -/
def LaneCtr.refuses (c : LaneCtr) (n : Nat) : Bool := n != 0 && decide (2 ^ c.width < c.value + n)

/-- A lane with a key loaded: the one it held before is gone. -/
def Lane.load (alg : Nat) (key : Bytes) : Lane := { alg, key }

/-- Name the counter of the next counter stream job. -/
def Lane.count (l : Lane) (w : Nat) (block : Bytes) : Lane := { l with ctr := some (LaneCtr.ofBlock w block) }

/-- A counter stream job of `n` blocks: the keystream and the lane after it, whose counter holds c0 + n; none where the job is refused, which
releases nothing. -/
def Lane.stream (l : Lane) (n : Nat) : Option (Bytes × Lane) :=
  match l.ctr with
  | some c =>
    if c.refuses n || !ctrWidth l.alg c.width then none
    else some ((List.range n).flatMap (fun i => encB l.alg l.key (c.at (c.value + i))), { l with ctr := some { c with value := c.value + n } })
  | none => none

/-- CTR encryption, which is its own inverse (R276): none where the counter would wrap. -/
def ctrCrypt (alg : Nat) (key : Bytes) (w : Nat) (block b : Bytes) : Option Bytes :=
  (((Lane.load alg key).count w block).stream ((b.length + bsize alg - 1) / bsize alg)).map (fun x => xorB b (x.1.take b.length))

/-! ### GMAC and GCM (R275, R276; SP 800-38D) -/

/-- The product in the field of GCM, over the bits of `x` from the first. -/
def gfMul (x y : Nat) : Nat :=
  ((List.range 128).foldl (fun (st : Nat × Nat) i =>
    (if x.testBit (127 - i) then st.1 ^^^ st.2 else st.1, if st.2 % 2 = 1 then (st.2 / 2) ^^^ (0xE1 * 2 ^ 120) else st.2 / 2)) (0, y)).1

/-- GHASH of whole blocks under the hash key `h`. -/
def ghash (h : Nat) (b : Bytes) : Nat := (chunks 16 b).foldl (fun v x => gfMul (v ^^^ beNat x) h) 0

/-- Zeros that fill a string up to whole blocks. -/
def fillBlock (b : Bytes) : Bytes := b ++ zeros ((16 - b.length % 16) % 16)

/-- The hash key of a GCM key. -/
def gcmH (key : Bytes) : Nat := beNat (encB 1 key (zeros 16))

/-- The first counter block of a nonce. -/
def gcmJ0 (key nonce : Bytes) : Bytes :=
  if nonce.length = 12 then nonce ++ be 4 1 else be 16 (ghash (gcmH key) (fillBlock nonce ++ be 16 (8 * nonce.length)))

/-- The tag of additional data and a ciphertext: GMAC where the ciphertext is empty. -/
def gcmTag (key nonce aad c : Bytes) : Bytes :=
  xorB (encB 1 key (gcmJ0 key nonce)) (be 16 (ghash (gcmH key) (fillBlock aad ++ fillBlock c ++ be 8 (8 * aad.length) ++ be 8 (8 * c.length))))

/-- GMAC (R275). -/
def gmac (key nonce msg : Bytes) : Bytes := gcmTag key nonce msg []

/-- The counter mode of GCM: a 32-bit counter whose data start one after the first counter block; none beyond 2^32 − 2 blocks of a message under a
12-byte nonce (R277). -/
def gcmCrypt (key nonce b : Bytes) : Option Bytes :=
  let j := gcmJ0 key nonce
  ctrCrypt 1 key 32 (be 16 (beNat j / 2 ^ 32 * 2 ^ 32 + (beNat j + 1) % 2 ^ 32)) b

/-- GCM sealing as firmware composes it: the ciphertext and its tag, or none where the counter would wrap (R276, R277). -/
def gcmTry (key nonce aad b : Bytes) : Option Bytes := (gcmCrypt key nonce b).map (fun c => c ++ gcmTag key nonce aad c)

/-- GCM sealing of a message its counter holds, always as long as the message and 16 bytes. -/
def gcmSeal (key nonce aad b : Bytes) : Bytes := fit (b.length + 16) ((gcmTry key nonce aad b).getD [])

/-- The plaintext of a ciphertext before its tag is judged. -/
def gcmPlain (key nonce c : Bytes) : Bytes := (gcmCrypt key nonce c).getD []

/-- GCM opening: the plaintext, or none where the tag does not verify. -/
def gcmOpen (key nonce aad b : Bytes) : Option Bytes :=
  let c := b.take (b.length - 16)
  if b.length < 16 || gcmTag key nonce aad c != b.drop (b.length - 16) then none else gcmCrypt key nonce c

/-! ### Key wrap (R276; RFC 3394, RFC 5649) -/

/-- One step of wrapping: the first block of the chain, and the register enciphered with it. -/
def wrapStep (key : Bytes) (st : Bytes × List Bytes) (t : Nat) : Bytes × List Bytes :=
  match st.2 with
  | r :: rest =>
    let x := encB 1 key (st.1 ++ r)
    (xorB (x.take 8) (be 8 t), rest ++ [x.drop 8])
  | [] => st

/-- One step of unwrapping, from the last block of the chain. -/
def unwrapStep (key : Bytes) (st : Bytes × List Bytes) (t : Nat) : Bytes × List Bytes :=
  match st.2.reverse with
  | r :: rest =>
    let x := decB 1 key (xorB st.1 (be 8 t) ++ r)
    (x.take 8, x.drop 8 :: rest.reverse)
  | [] => st

/-- Wrap whole 8-byte blocks under an initial value. -/
def wrapFrom (key iv b : Bytes) : Bytes :=
  let n := b.length / 8
  let st := (List.range (6 * n)).foldl (fun st i => wrapStep key st (i + 1)) (iv, chunks 8 b)
  st.1 ++ st.2.flatten

/-- Unwrap to the initial value and the blocks. -/
def unwrapTo (key b : Bytes) : Bytes × Bytes :=
  let n := b.length / 8 - 1
  let st := (List.range (6 * n)).reverse.foldl (fun st i => unwrapStep key st (i + 1)) (b.take 8, chunks 8 (b.drop 8))
  (st.1, st.2.flatten)

/-- AES key wrap. -/
def keyWrap (key b : Bytes) : Bytes := wrapFrom key (List.replicate 8 0xA6) b

/-- Its inverse: none where the initial value is wrong. -/
def keyUnwrap (key b : Bytes) : Option Bytes :=
  let r := unwrapTo key b
  if 24 ≤ b.length && b.length % 8 = 0 && r.1 == List.replicate 8 0xA6 then some r.2 else none

/-- The inverse of AES key wrap with padding: none where its initial value, its length or its padding is wrong. -/
def keyUnwrapPad (key b : Bytes) : Option Bytes :=
  let x := decB 1 key b
  let r := if b.length = 16 then (x.take 8, x.drop 8) else unwrapTo key b
  let n := beNat (slice r.1 4 4)
  if 16 ≤ b.length && b.length % 8 = 0 && r.1.take 4 == [0xA6, 0x59, 0x59, 0xA6] && decide (b.length < n + 16) && decide (n + 8 ≤ b.length) &&
      allZero (r.2.drop n) then some (r.2.take n)
  else none

/-! ### Digests and HMAC (R279) -/

/-- The output length of a digest code; `d` for SHAKE. -/
def digestLen (code d : Nat) : Nat :=
  if code = 1 || code = 0x10 then 32 else if code = 2 then 48 else if code = 3 || code = 0x11 then 64 else d

/-- A digest (R279). -/
def digest (code d : Nat) (b : Bytes) : Bytes :=
  if code = 1 then sha256 b else if code = 2 then sha384 b else fit (digestLen code d) (Config.digest code (digestLen code d) b)

/-- HMAC (R279). -/
def hmac (code : Nat) (key b : Bytes) : Bytes := fit (digestLen code 0) (Config.hmac code key b)

/-! ### The digest unit (R280 to R284) -/

/-- A job begins. -/
def DigestUnit.start (j : DigestJob) : DigestUnit := { job := some j }

/-- The stream offers bytes: none, a length mismatch, where they pass the declared length or follow the end mark (R282). -/
def DigestUnit.feed (u : DigestUnit) (b : Bytes) : Option DigestUnit :=
  match u.job with
  | some j => if (u.ended && !b.isEmpty) || decide (j.len < u.got.length + b.length) then none else some { u with got := u.got ++ b }
  | none => none

/-- The stream's end mark: under COUNTED every declared byte has come (R282). -/
def DigestUnit.endMark (u : DigestUnit) : Option DigestUnit :=
  match u.job with
  | some j => if j.pad == .counted && u.got.length != j.len then none else some { u with ended := true }
  | none => none

/-- Firmware writes the last word register with the final `v` bytes (R281): the bytes that came are whole 16-byte words and with `v` make the
declared length (R282). -/
def DigestUnit.lastWord (u : DigestUnit) (w : Bytes) (v : Nat) : Option DigestUnit :=
  match u.job with
  | some j =>
    if j.pad == .lastWord && decide (v ≤ 16) && u.got.length % 16 == 0 && u.got.length + v == j.len then
      some { u with got := u.got ++ w.take v, ended := true }
    else none
  | none => none

/-- The unit pads from its total and finishes (R281): the result. -/
def DigestUnit.result (u : DigestUnit) : Bytes :=
  match u.job with
  | some j => (match j.key with
    | some k => hmac j.code k u.got
    | none => digest j.code j.d u.got)
  | none => []

/-- A whole job over a stream from one source, cut into pieces, with the last word register's content under LAST_WORD: the result, or none where
the lengths disagree (R280 to R282). -/
def runDigest (j : DigestJob) (stream : List Bytes) (last : Bytes) : Option Bytes :=
  let fed := stream.foldl (fun (u : Option DigestUnit) b => u.bind (fun u => u.feed b)) (some (DigestUnit.start j))
  let ended := fed.bind DigestUnit.endMark
  (match j.pad with
    | .counted => ended
    | .lastWord => ended.bind (fun u => u.lastWord last last.length)).map DigestUnit.result

/-- HKDF-SHA-256 (RFC 5869), one output block. -/
def hkdf (salt ikm info : Bytes) : Bytes := hmac 1 (hmac 1 salt ikm) (info ++ [0x01])

/-- The one-step KDF of SP 800-56C with SHA-256 (R268), one output block. -/
def oneStep (z info : Bytes) : Bytes := sha256 (be 4 1 ++ z ++ info)

/-- The counter-mode KDF of SP 800-108 with AES-256-CMAC that makes KW (R306). -/
def storeKey (p : Bytes) (gen tier : Nat) : Bytes :=
  let label : Bytes := [0x45, 0x5A, 0x38, 0x20, 0x73, 0x74, 0x6F, 0x72, 0x65]
  (([1, 2] : List Nat).flatMap (fun i => cmac 1 p (be 4 i ++ label ++ [0x00] ++ le 2 gen ++ le 1 tier ++ be 4 256)))

/-- The counter-mode KDF of DIGEST_DERIVE (R290). -/
def digestKdf (code : Nat) (key label ctx : Bytes) (klen : Nat) : Bytes :=
  (hmac code key (be 4 1 ++ label ++ [0x00] ++ ctx ++ be 4 (8 * klen))).take klen

/-- A signature under a scheme that rejects no candidate, of the length it gives. -/
def signSure (alg n : Nat) (sk msg rnd : Bytes) : Bytes := fit n (Config.sigSure alg sk msg rnd)

/-- A signature of the length its scheme gives; none where every candidate is rejected. -/
def sign (alg n : Nat) (sk msg rnd : Bytes) : Option Bytes := (Config.sigSign alg sk msg rnd).map (fit n)

/-- The message of a pure signature of FIPS 204 or 205 with its context. -/
def pureMsg (ctx msg : Bytes) : Bytes := [0x00] ++ le 1 ctx.length ++ ctx ++ msg

/-- Verification of a pure ML-DSA or SLH-DSA signature (R255). -/
def verifyPure (set : Nat) (pk ctx msg sig : Bytes) : Bool := Config.sigVerify set pk (pureMsg ctx msg) sig

/-! ### Text -/

/-- The bytes of a short ASCII string. -/
def ascii (l : List Nat) : Bytes := l.map (BitVec.ofNat 8)

/-- A byte is an ASCII digit. -/
def isDigit (b : Byte) : Bool := decide (0x30 ≤ b.toNat) && decide (b.toNat ≤ 0x39)

/-- The digit an ASCII byte stands for. -/
def digitOf (b : Byte) : Nat := b.toNat - 0x30

/-- The ASCII byte of a digit. -/
def digitByte (d : Nat) : Byte := BitVec.ofNat 8 (0x30 + d)

/-- The hexadecimal nibbles of a string, most significant first. -/
def nibbles (b : Bytes) : List Nat := b.flatMap (fun x => [x.toNat / 16, x.toNat % 16])

/-- Nibbles packed two to a byte. -/
def pack : List Nat → Bytes
  | h :: l :: r => BitVec.ofNat 8 (16 * h + l) :: pack r
  | [h] => [BitVec.ofNat 8 (16 * h)]
  | [] => []

end Sys2Proof.Machine
end

