-- ==== Sys2Proof/Machine/HedgeOps.lean ====
section
/-! DEFINITION. Hedgerow's rule sets (R394 to R398): regions, the sets of a unit, and which set a cell needs. -/

namespace Sys2Proof.Machine

/-- A region's limit does not lie below its base (R396). -/
def Region.wf (r : Region) : Bool := decide (r.base ≤ r.limit)

/-- A region contains an address; the granule of its limit is included (R401). -/
def Region.has (r : Region) (addr : Nat) : Bool := decide (r.base / 64 ≤ addr / 64) && decide (addr / 64 ≤ r.limit / 64)

/-- Two regions share a granule. -/
def Region.meets (r q : Region) : Bool := decide (r.base / 64 ≤ q.limit / 64) && decide (q.base / 64 ≤ r.limit / 64)

/-- No two elements of a list are related. -/
def apart {α : Type} (f : α → α → Bool) : List α → Bool
  | [] => true
  | x :: l => l.all (fun y => !f x y) && apart f l

/-- A rule set passes its check: at most 16 regions, no limit below its base, no overlap (R394, R396, R398). -/
def setOk (l : List Region) : Bool := decide (l.length ≤ 16) && l.all Region.wf && apart Region.meets l

/-- Hedgerow units: cells 0 to 255, hub 256, Furrow 257 and 258 (R393). -/
def hubUnit : Nat := 256

/-- A Hedgerow unit of the variant (R393). -/
def State.hasUnit (s : State) (u : Nat) : Bool :=
  if u < 256 then s.hasCell u else u == hubUnit || ((u == 257 || u == 258) && s.lc.variant.hasFurrow)

def State.ruleSet (s : State) (u k : Nat) : List Region := getC [] s.hdg.sets (2 * u + k)
def State.setRuleSet (s : State) (u k : Nat) (l : List Region) : State := { s with hdg := { s.hdg with sets := setC [] s.hdg.sets (2 * u + k) l } }
def State.setTag (s : State) (u k : Nat) : Nat := getC 0 s.hdg.tags (2 * u + k)
def State.putTag (s : State) (u k t : Nat) : State := { s with hdg := { s.hdg with tags := setC 0 s.hdg.tags (2 * u + k) t } }

/-- The set in force at a unit, 0 or 1. -/
def State.activeSet (s : State) (u : Nat) : Nat := s.getF (Reg.HDG_U_STAT_ACTIVE_SET u)

/-- The tag of the set of a role in a world, 1 for steward (R396). -/
def hedgeTag (role world : Nat) : Nat := 1 + 2 * role + world

/-- A set of the bale: of a role and world, or of a unit from 256 up (R396). -/
def State.baleSet (s : State) (key : Nat) : List Region := ((s.bale.content.hedge.find? (fun x => x.1 == key)).map Prod.snd).getD []

/-- The set a tag stands for. -/
def State.taggedSet (s : State) (tag : Nat) : List Region := s.baleSet (tag - 1)

/-- Load a set of a cell unit for a role and world. -/
def State.loadSet (s : State) (u k tag : Nat) : State := (s.setRuleSet u k (s.taggedSet tag)).putTag u k tag

/-- A cell that takes a role has both sets loaded by the hub program, on the main path: the steward's active, the tenant's beside it
(R397, R398). -/
def State.hedgeRole (s : State) (c role : Nat) : State :=
  let s := ((s.loadSet c 0 (hedgeTag role 1)).loadSet c 1 (hedgeTag role 0)).setF (Reg.HDG_U_STAT_ACTIVE_SET c) 0
  (s.bump Reg.HDG_UPDATES_COUNT).post 0xA003 c 0 0

/-- Step 6: set 0 of every unit takes its set of the bale and the unit is enabled (R396). -/
def State.hedgeStart (s : State) (roles : Nat → Nat) : State :=
  let us := (List.range 259).filter s.hasUnit
  us.foldl (fun (s : State) u =>
    let s := if u < 256 then s.loadSet u 0 (hedgeTag (roles u) 1) else s.setRuleSet u 0 (s.baleSet (1000 + u))
    (s.setF (Reg.HDG_U_STAT_ACTIVE_SET u) 0).setF (Reg.HDG_U_STAT_ENABLED u) 1) s

/-- The fields of the rule dwords (R401): dword w of region r of set k of unit u. -/
def State.ruleDword (s : State) (u k r w : Nat) : Nat :=
  match (s.ruleSet u k)[r]? with
  | some g =>
    if w = 0 then g.base % 2 ^ 32 / 64 * 64
    else if w = 1 then g.base / 2 ^ 32 % 65536 + 65536 * (g.limit / 2 ^ 32 % 65536)
    else if w = 2 then g.limit % 2 ^ 32 / 64 * 64
    else 1 + 2 * (g.perm % 8) + 16 * (g.masters % 16) + 256 * (g.world % 4) + 1024 * (g.attr % 8)
  | none => 0

end Sys2Proof.Machine
end

