-- ==== Sys2Proof/Machine/GorseOps.lean ====
section
/-! DEFINITION. The Gorse ledger (R417, R418), Note-class trips, and the outputs that follow the alarm bits (R407, R408). -/

namespace Sys2Proof.Machine

/-! ### The ledger -/

/-- Test and Production, the states in which Gorse writes the ledger (R416); `LCS_STATUS.STATE` codes 1 and 2. -/
def State.ledgerState (s : State) : Bool := s.lc.st == 1 || s.lc.st == 2

/-- The record a new one chains to: the last programmed, or the module identity (R417). -/
def State.lastRecord (s : State) : Bytes := (s.gorse.ledger.getLast?).getD s.lc.uid

/-- The 16 bytes of a ledger record (R417), given its first 12. -/
def chainRecord (prev body : Bytes) : Bytes := fit 12 body ++ (sha256 (prev ++ fit 12 body)).take 4

/-- The first 12 bytes of a record that carries a monitor and a time. -/
def ledgerBody (type mon flags resp time count : Nat) : Bytes :=
  [BitVec.ofNat 8 type, BitVec.ofNat 8 mon, BitVec.ofNat 8 flags, BitVec.ofNat 8 resp] ++ le 6 time ++ le 2 count

/-- The ledger takes no further event: record 4,094 is written (R417). -/
def Gorse.full (g : Gorse) : Bool := decide (4095 ≤ g.ledger.length)

/-- Append the first 12 bytes of a record to the Peat buffer, or to the input latch while the buffer is full (R417, R419). -/
def Gorse.push (g : Gorse) (r : Bytes) : Gorse :=
  if g.full then g
  else if g.peat.length < 64 then { g with peat := g.peat ++ [fit 12 r] }
  else { g with latch := g.latch ++ [fit 12 r] }

/-- A ledger record that the ledger cannot take goes to Cairn only (R417, R416): under the code of its type (log 156). -/
def State.toCairn (s : State) (r : Bytes) : State :=
  let ty := byteAt r 0
  let code := if ty = 1 then 0xB001 else if ty = 2 then 0xB002 else if ty = 3 then 0xB003 else if ty = 4 then 0xB004 else 0xB007
  s.post code (byteAt r 1) (byteAt r 1) (byteAt r 3)

/-- Write a record from its first 12 bytes, whatever the life-cycle state. Past the ledger's end it goes to Cairn only (R417), where trips,
swales and Halts have their own records already. -/
def State.ledgerRaw (s : State) (body : Bytes) : State :=
  if s.gorse.full && decide (0x10 ≤ byteAt body 0) then s.toCairn body else { s with gorse := s.gorse.push body }

/-- Write a record with the present time, in Test and Production (R416, R417). -/
def State.ledgerRec (s : State) (type mon flags resp : Nat) : State :=
  if s.ledgerState then s.ledgerRaw (ledgerBody type mon flags resp s.cairn.opTime s.cairn.pcc) else s

/-- The record of a new attestation key (R100, R417). -/
def State.ledgerAtt (s : State) (pub : Bytes) : State :=
  if s.ledgerState then s.ledgerRaw ([0x12] ++ (sha256 pub).take 11) else s

/-! ### Alarm outputs and Hold -/

/-- The monitors, 0 to 25 (R402). -/
def monitors : List Nat := List.range 26

/-- The response of a monitor (R403). -/
def State.resp (s : State) (m : Nat) : Nat := s.getF (Reg.GOR_MON_CFG_RESP m)

/-- A monitor's bit in `GOR_ALARM`. -/
def State.alarmed (s : State) (m : Nat) : Bool := bit (s.getF Reg.GOR_ALARM_ALARM) m

/-- Some alarmed monitor has response HOLD (R407). -/
def State.holdNow (s : State) : Bool := monitors.any (fun m => s.alarmed m && s.resp m == 1) && s.lc.st != 3 && s.lc.st != 4

/-- Some alarmed monitor has a response of HOLD or more severe, or backup records stand (R40, R408). -/
def State.alarmNow (s : State) : Bool :=
  monitors.any (fun m => s.alarmed m && decide (1 ≤ s.resp m)) || s.isSet Reg.GOR_STATUS_PEAT_RECORDS || s.gorse.peatAlarm

/-- `SMB_ALERT_N` follows `ALARM_N` and `RESTART_ADVISED`, unless the module has answered the Alert Response Address for them
(R129). -/
def State.refreshAlert (s : State) : State :=
  let c := s.pins.alarmLow || s.isSet Reg.HIF_STATUS_RESTART_ADVISED
  let m := s.hif.alertMuted && c
  { s with hif := { s.hif with alertMuted := m }, pins := { s.pins with smbAlertLow := c && !m } }

/-- Bring Hold, `ALARM_N` and their status bits in line with the alarm bits (R407, R408). -/
def State.refreshAlarm (s : State) : State :=
  let s := (s.setF Reg.GOR_STATUS_ALARM_OUT (b2n s.alarmNow))
  let s := { s with pins := { s.pins with alarmLow := s.alarmNow } }.refreshAlert
  let h := s.holdNow
  if h = s.isSet Reg.GOR_STATUS_HOLD then s
  else
    let s := ((s.setF Reg.GOR_STATUS_HOLD (b2n h)).setF Reg.HIF_STATUS_HOLD (b2n h)).hifEvent Reg.HIF_EVENT_HOLD_CHANGE
    let s := if h then s.bump Reg.GOR_COUNTS_HOLDS else s
    s.post 0xB005 0 (b2n h) 0

/-! ### Trips -/

/-- Count a trip and record it in Cairn under 0xB001, with the monitor and response (R404, R420). -/
def State.countTrip (s : State) (m : Nat) (coincident : Bool) : State :=
  (s.bump (Reg.GOR_MON_STAT_TRIPS m)).postRaw 0xB001 m (le 2 m ++ le 2 m ++ le 4 (s.resp m)) (if coincident then 16 else 0)

/-- A trip of a monitor whose response is NOTE: recorded, and no action follows (R403, R404). -/
def State.noteTrip (s : State) (m : Nat) : State :=
  let t := s.countTrip m false
  if s.alarmed m then t else (t.setFBit Reg.GOR_ALARM_ALARM m true).bump Reg.GOR_COUNTS_NOTES

/-- A redundant-execution mismatch (monitor 22). -/
def State.noteMismatch (s : State) : State := s.noteTrip 22

/-- An access to a locked Stile region (monitor 23). -/
def State.noteStileLock (s : State) : State := s.noteTrip 23

/-- A cell broke the port rule (monitor 24). -/
def State.notePortHold (s : State) : State := s.noteTrip 24

end Sys2Proof.Machine
end

