-- ==== Sys2Proof/Machine/SkyOps.lean ====
section
/-! DEFINITION. Skylark's shared operations (spec/15): the health tests of a block, exclusion and supply, seeds, the expander
instances and the reads they serve. The bytes an expander gives are free values (log 4). -/

namespace Sys2Proof.Machine

/-! ### Sources (R322 to R325) -/

def State.src (s : State) (k : Nat) : NoiseSrc := getC {} s.sky.srcs k
def State.setSrc (s : State) (k : Nat) (x : NoiseSrc) : State := { s with sky := { s.sky with srcs := setC {} s.sky.srcs k x } }

/-- The die of a source: 0 east, 1 west, 2 hub (R322). -/
def srcDie (k : Nat) : Nat := k / 8

/-- A source whose blocks are used: its start-up run is complete and it is not excluded. -/
def NoiseSrc.inUse (x : NoiseSrc) : Bool := x.passed && !x.excl

/-- Sources of a die that are in use. -/
def State.srcsIn (s : State) (die : Nat) : Nat := ((List.range 8).filter (fun i => (s.src (8 * die + i)).inUse)).length

/-- A die supplies seeds (R325). -/
def State.supplies (s : State) (die : Nat) : Bool := decide (4 ≤ s.srcsIn die)

/-- The dies that supply, as `SKY_STATUS.SUPPLY` codes them. -/
def State.supplyBits (s : State) : Nat := b2n (s.supplies 0) + 2 * b2n (s.supplies 1) + 4 * b2n (s.supplies 2)

/-- The longest run of identical bits a block shows, counting the run it continues, and the run it ends with (R323). -/
def longestRun (last : Option Bool) (run : Nat) (bits : List Bool) : Nat × Nat × Option Bool :=
  bits.foldl (fun (st : Nat × Nat × Option Bool) b =>
    let r := if st.2.2 = some b then st.2.1 + 1 else 1
    (max st.1 r, r, some b)) (0, run, last)

/-- The adaptive proportion of a block: how often its first bit occurs in it (R323). -/
def proportion (bits : List Bool) : Nat :=
  match bits with
  | [] => 0
  | b :: _ => (bits.filter (fun x => x == b)).length

/-- Supply of seeds of each die against what it was before; events 0x7003 to 0x7005, 0x7004 where a source was `readmitted` (R325). -/
def State.refreshSupply (s : State) (readmitted : Bool) : State :=
  let was := s.getF Reg.SKY_STATUS_SUPPLY
  let now := s.supplyBits
  let s := s.setF Reg.SKY_STATUS_SUPPLY now
  let s := ([0, 1, 2] : List Nat).foldl (fun s d =>
    if bit was d && !bit now d then (s.setF Reg.SKY_EVENT_SUPPLY_STOPPED 1).post 0x7003 d 0 d
    else if readmitted && !bit was d && bit now d then s.post 0x7004 d 0 d
    else s) s
  if was ≠ 0 && now = 0 then ((s.setF Reg.SKY_STATUS_SEED_STOPPED 1).setF Reg.SKY_EVENT_SEED_STOPPED 1).post 0x7005 0 0 0
  else if now ≠ 0 then s.setF Reg.SKY_STATUS_SEED_STOPPED 0
  else s

/-- The end of a block: the source is excluded or readmitted by its count (R324). -/
def State.judgeSrc (s : State) (k : Nat) : State :=
  let x := s.src k
  if !x.excl && decide (s.getF Reg.SKY_FAIL_LIMIT_LIMIT < x.fails.length) then
    ((s.setSrc k { x with excl := true }).setF Reg.SKY_EVENT_EXCLUDED 1).post 0x7001 k 0 k
  else if x.excl && x.fails.isEmpty then
    ((s.setSrc k { x with excl := false }).setF Reg.SKY_EVENT_READMITTED 1).post 0x7002 k 0 k
  else s

/-! ### Seeds and instances (R326 to R328) -/

/-- The service pool's size. -/
def serviceCount : Nat := 8

/-- An instance serves no further request at this count (R327). -/
def drbgLimit : Nat := 1048576

/-- An instance falls due for reseed at this count (R327). -/
def drbgDue : Nat := 65536

/-- An instance that goes on serving past its due count and waits for a seed (R327). -/
def Drbg.stretched (x : Drbg) : Bool := decide (drbgDue ≤ x.count) && !x.reseeding

/-- The instances that stretch: 0 to 7 the service pool, 8 + c the instance of client c. -/
def State.stretchedAt (s : State) : List Nat :=
  (List.range s.sky.service.length).filter (fun i => (s.sky.service[i]?).any Drbg.stretched) ++
    ((List.range 11).filter (fun c => (getC none s.sky.clients c).any Drbg.stretched)).map (fun c => 8 + c)

/-- Give a seed to whoever waits: a client first, then the service pool, then an instance that stretches its interval, which reseeds as soon as
a seed arrives (R327, R328). The order among them is the model's (DESIGN CHOICE, log 234). -/
def State.giveSeed (s : State) : State :=
  match s.sky.want with
  | c :: rest =>
    { s with sky := { s.sky with seeds := s.sky.seeds - 1, want := rest, clients := setC none s.sky.clients c (some {}) } }
  | [] =>
    if s.sky.service.length < serviceCount then
      { s with sky := { s.sky with seeds := s.sky.seeds - 1, service := s.sky.service ++ [{}] } }
    else
      match s.stretchedAt with
      | i :: _ =>
        let mark (x : Drbg) : Drbg := { x with reseeding := true }
        { s with sky := { s.sky with
            seeds := s.sky.seeds - 1
            service := if i < 8 then s.sky.service.modify i mark else s.sky.service
            clients := if i < 8 then s.sky.clients else setC none s.sky.clients (i - 8) ((getC none s.sky.clients (i - 8)).map mark) } }
      | [] => s

/-- Instantiate or reseed what waits while seeds last, once step 7 has begun (R327, R328). -/
def State.instantiateAll : Nat → State → State
  | 0, s => s
  | n + 1, s =>
    if s.sky.step7 && decide (0 < s.sky.seeds) && (!s.sky.want.isEmpty || decide (s.sky.service.length < serviceCount) || !s.stretchedAt.isEmpty) then
      State.instantiateAll n s.giveSeed
    else s

/-- Status bits that follow the instances; the `SKY_DATA` buffer is empty while AT_LIMIT holds (R327, R331, R335). -/
def State.refreshDrbg (s : State) : State :=
  let sv := s.sky.service
  let full := !sv.isEmpty && sv.all (fun x => decide (drbgLimit ≤ x.count))
  let was := s.isSet Reg.SKY_STATUS_AT_LIMIT
  let s := (s.setF Reg.SKY_STATUS_STRETCHING (b2n (sv.any (fun x => decide (drbgDue < x.count))))).setF Reg.SKY_STATUS_AT_LIMIT (b2n full)
  let s : State := if full then { s with sky := { s.sky with buffer := 0 } } else s
  if full && !was then (s.setF Reg.SKY_EVENT_AT_LIMIT 1).post 0x7006 0 0 0 else s

/-- A seed from two passing blocks of supplying dies, from different ones while two or more supply (R326, R332). -/
def State.makeSeed (s : State) (die : Nat) : State :=
  let n := popCount 3 s.supplyBits
  let have_ (d : Nat) : Nat := getC 0 s.sky.spare d
  let mate := if 2 ≤ n then ([0, 1, 2] : List Nat).find? (fun d => d != die && s.supplies d && decide (0 < have_ d))
    else if 0 < have_ die then some die else none
  if 32 ≤ s.sky.seeds then s
  else
    match mate with
    | some d => { s with sky := { s.sky with seeds := s.sky.seeds + 1, spare := setC 0 s.sky.spare d (have_ d - 1) } }
    | none => { s with sky := { s.sky with spare := setC 0 s.sky.spare die (have_ die + 1) } }

/-- The clients the module has (R328): populated meadows, a fitted Furrow, the hub, Barrow. -/
def State.skyClients (s : State) : List Nat :=
  (List.range 8).filter s.hasMeadow ++ (if s.lc.variant.hasFurrow then [8] else []) ++ [9, 10]

/-- Clear every instance, the seed pool and the `SKY_DATA` buffer, and let the clients' own instances recover (R328, R332). -/
def State.skyRecover (s : State) : State :=
  { s with sky := { s.sky with
      seeds := 0, spare := [], service := [], clients := [], buffer := 0, next := 0
      want := s.skyClients, serving := s.skyClients } }.setF Reg.SKY_STATUS_CLIENT_INST 1

/-- Which clients their own instances serve, and the status bit that says so (R328, R335). -/
def State.setServing (s : State) (l : List Nat) : State :=
  { s with sky := { s.sky with serving := l } }.setF Reg.SKY_STATUS_CLIENT_INST (b2n (!l.isEmpty))

/-- A meadow's own instance serves it, through a self-test (R328). -/
def State.beginServe (s : State) (m : Nat) : State :=
  if (getC none s.sky.clients m).isSome then s.setServing (m :: s.sky.serving.filter (fun c => c != m)) else s

/-- The service pool serves the meadow again. -/
def State.endServe (s : State) (m : Nat) : State := s.setServing (s.sky.serving.filter (fun c => c != m))

/-- A meadow's instance is instantiated from a fresh seed (R328). -/
def State.freshClient (s : State) (m : Nat) : State :=
  { s with sky := { s.sky with seeds := s.sky.seeds - 1, clients := setC none s.sky.clients m (some {}) } }.beginServe m

/-- One request to the service pool: the next instance in round-robin order that can serve (R327). None where none can. -/
def Skylark.request (k : Skylark) : Option Skylark :=
  let n := k.service.length
  match ((List.range n).map (fun i => (k.next + i) % n)).find? (fun i => match k.service[i]? with
    | some x => !x.reseeding && decide (x.count < drbgLimit)
    | none => false) with
  | none => none
  | some i =>
    let x := (k.service[i]?).getD {}
    let c := x.count + 1
    let due := decide (drbgDue ≤ c) && decide (0 < k.seeds)
    some { k with
      service := k.service.set i { count := c, reseeding := due }, next := (i + 1) % n
      seeds := if due then k.seeds - 1 else k.seeds }

/-- Requests in sequence. -/
def Skylark.requests : Nat → Skylark → Option Skylark
  | 0, k => some k
  | n + 1, k => (k.request).bind (Skylark.requests n)

/-- One request to a client instance (R328). -/
def Skylark.ask (k : Skylark) (c n : Nat) : Option Skylark :=
  match getC none k.clients c with
  | some x =>
    if x.reseeding || decide (drbgLimit < x.count + n) then none
    else
      let due := decide (drbgDue ≤ x.count + n) && decide (0 < k.seeds)
      some { k with clients := setC none k.clients c (some { count := x.count + n, reseeding := due }), seeds := if due then k.seeds - 1 else k.seeds }
  | none => none

/-- Draw `n` bytes for a client: from its own instance while that serves it, otherwise from the service pool. None where the read
stalls, as every read does until step 7 has ended (R78, R328, R330). -/
def State.draw (s : State) (client n : Nat) : Option (Bytes × State) :=
  let r := (n + 63) / 64
  (if !s.isSet Reg.HIF_STATUS_ENTROPY_READY then none
    else if s.sky.serving.contains client then s.sky.ask client r else Skylark.requests r s.sky).map (fun k =>
    { s with sky := k }.refreshDrbg.freeBytes n)

/-- A read that cannot be served stalls from this tick (R330). -/
def State.stall (s : State) (r : Reader) : State :=
  if s.sky.stalls.any (fun x => x.1 == r) then s else { s with sky := { s.sky with stalls := s.sky.stalls ++ [(r, s.drv.tick)] } }

/-- A stalled read has been served or given up. -/
def State.unstall (s : State) (r : Reader) : State :=
  { s with sky := { s.sky with stalls := s.sky.stalls.filter (fun x => x.1 != r) } }

/-- A read of this reader has stalled for 50 ms (R330). -/
def State.stalledOut (s : State) (r : Reader) : Bool := s.sky.stalls.any (fun x => x.1 == r && decide (x.2 + 50000 ≤ s.drv.tick))

end Sys2Proof.Machine
end

