-- ==== Sys2Proof/Machine/HifOps.lean ====
section
/-! DEFINITION. What HIF writes to the host: completions in their rings (R116, R219), the output before them (R20), the dirty-page
log (R149, R150), MSI-X messages with coalescing (R121, R139), and queue errors (R119). -/

namespace Sys2Proof.Machine

/-! ### Status codes (R221) -/

namespace St
def done : Nat := 0x0000
def doneInf : Nat := 0x0001
def badDescriptor : Nat := 0x0101
def badLength : Nat := 0x0102
def lengthMismatch : Nat := 0x0103
def badOperand : Nat := 0x0104
def policyRefused : Nat := 0x0105
def keyAbsent : Nat := 0x0201
def keyOrphaned : Nat := 0x0202
def keyUseDenied : Nat := 0x0203
def keyAttrMismatch : Nat := 0x0204
def verifyFailed : Nat := 0x0301
def pointRejected : Nat := 0x0302
def compareUnequal : Nat := 0x0303
def counterExhausted : Nat := 0x0401
def writeCounterEnd : Nat := 0x0402
def entropyUnavailable : Nat := 0x0501
def unitAbsent : Nat := 0x0601
def aborted : Nat := 0x0701
def quiesced : Nat := 0x0702
def deadlinePassed : Nat := 0x0703
def roundsExhausted : Nat := 0x0704
def faultDetected : Nat := 0x0801
def memoryError : Nat := 0x0802
def quorumRequired : Nat := 0x0901
def quorumRejected : Nat := 0x0902
def approvalDuplicate : Nat := 0x0903
def requestUnknown : Nat := 0x0904
def accessDenied : Nat := 0x0A01
def hostAccessFault : Nat := 0x0A02
def busy : Nat := 0x0B01
def stateConflict : Nat := 0x0B02
end St

/-! ### Queues -/

/-- The number of steward queue 0; tenant queue q of allotment a is 8 × a + q (R113). -/
def stewardQ : Nat := 16384

/-- A queue belongs to steward software. -/
def isSteward (qid : Nat) : Bool := decide (stewardQ ≤ qid)

/-- The allotment of a queue; 2,048 for the steward (R117, R144). -/
def allotOf (qid : Nat) : Nat := if isSteward qid then 2048 else qid / 8

/-- The queues of an allotment. -/
def queuesOf (a : Nat) : List Nat := (List.range 8).map (fun q => 8 * a + q)

/-- The ring depth N (R113). -/
def Queue.depth (q : Queue) : Nat := 2 ^ q.depthLog2

/-- The distance from `h` to `t` in a ring of `n` entries (R115). -/
def ringDist (n h t : Nat) : Nat := (t + n - h % n) % n

/-- The doorbell page of the queue serves: the queue is ENABLED or DRAINING (R114, R141). -/
def Queue.open (q : Queue) : Bool := q.st == .enabled || q.st == .draining

/-- Descriptors fetched whose completions the tenant has not released (R116). -/
def Queue.outstanding (q : Queue) : Nat := q.fetched + ringDist q.depth q.cqHead q.cqTail

/-- A queue error (R119). DESIGN CHOICE (log 210): a second one of a queue already in ERROR, which a failed read of a descriptor in the air can
bring, overwrites ERR_KIND and is posted again. -/
def State.queueError (s : State) (qid kind : Nat) : State :=
  let q := s.queue qid
  let s := s.setQueue qid { q with st := .error, errKind := kind }
  let s := if s.isSet Reg.HIF_QERR_INFO_VALID then s
    else ((((s.setF Reg.HIF_QERR_INFO_ALLOTMENT (if isSteward qid then 0 else allotOf qid)).setF Reg.HIF_QERR_INFO_QUEUE (qid % 8)).setF
      Reg.HIF_QERR_INFO_STEWARD (b2n (isSteward qid))).setF Reg.HIF_QERR_INFO_KIND kind).setF Reg.HIF_QERR_INFO_VALID 1
  (s.hifEvent Reg.HIF_EVENT_QUEUE_ERROR).post 0x2001 (allotOf qid) kind (qid % 8)

/-! ### Requests to host memory (R108, R117, R127) -/

/-- The 4 KiB pages that `n` bytes from `addr` touch. -/
def pageNos (addr n : Nat) : List Nat :=
  if n = 0 then [] else (List.range ((addr + n - 1) / 4096 + 1 - addr / 4096)).map (fun i => addr / 4096 + i)

/-- The PASID the requests of an allotment carry; the steward's carry its own only while that is enabled (R108, R144). -/
def State.dmaPasid (s : State) (a : Nat) : Option Nat :=
  let x := s.allot a
  if a = 2048 && !x.pasidEn then none else some x.pasid

/-- The attributes of a read of descriptors or of an input buffer: Relaxed Ordering is set (R108). -/
def State.readAttr (s : State) (a : Nat) : DmaAttr := { pasid := s.dmaPasid a, ro := true }

/-- The attributes of a write: none of the ordering ones is set (R108). -/
def State.writeAttr (s : State) (a : Nat) : DmaAttr := { pasid := s.dmaPasid a }

/-- An IDE stream that carries DMA is Insecure and drops its traffic (R127, log 40). -/
def State.ideDrops (s : State) : Bool := s.hif.ide.any (fun x => x.2.insecure && x.2.carriesDma)

/-- Send a request to host memory, which an Insecure stream drops (R127). -/
def State.dma (s : State) (o : Out) : State := if s.ideDrops then s else s.emit o

/-- The host denies the translation of a page of `n` bytes at `addr` to the requests of an allotment (R119, R120, log 223). -/
def State.denies (s : State) (a addr n : Nat) : Bool :=
  s.hif.atsEn && (pageNos addr n).any (fun p => s.hif.atsDenied.contains (s.dmaPasid a, p))

/-- With ATS enabled, ask for the translation of every page of a buffer before the first request to it (R108). -/
def State.translate (s : State) (a addr n : Nat) : State :=
  if s.hif.atsEn then (pageNos addr n).foldl (fun s p => s.dma (.translate (s.dmaPasid a) p)) s else s

/-- Read an input buffer, its pages translated first (R108). -/
def State.readInput (s : State) (qid addr n : Nat) : State :=
  if n = 0 then s else (s.translate (allotOf qid) addr n).dma (.inputRead qid addr n (s.readAttr (allotOf qid)))

/-! ### The dirty-page log -/

/-- The pages of `n` bytes from `addr`, as (window, page in window) pairs (R149). -/
def pagesOf (addr n : Nat) : List (Nat × Nat) := (pageNos addr n).map (fun p => (p / 256 * 0x100000, p % 256))

/-- The depth of the log ring. -/
def DirtyLog.depth (l : DirtyLog) : Nat := 2 ^ l.depthLog2

/-- The log ring holds all the unreleased records it can (R150). -/
def DirtyLog.ringFull (l : DirtyLog) : Bool := ringDist l.depth l.head l.tail == l.depth - 1

/-- The 64 bytes of a dirty-log record (R149). -/
def dirtyRecord (phase : Bool) (seq : Nat) (r : LogRec) : Bytes :=
  let bits := r.pages.foldl (fun b p => setBit b p) 0
  le 8 (r.window + b2n phase) ++ le 32 bits ++ le 8 seq ++ zeros 16

/-- The log with the record it opened first written to its ring. A ring that fills is counted and sets FULL (R150, R152). -/
def DirtyLog.pop (l : DirtyLog) : DirtyLog :=
  let l' := { l with
    cache := l.cache.drop 1, seq := l.seq + 1, tail := (l.tail + 1) % l.depth
    phase := if (l.tail + 1) % l.depth = 0 then !l.phase else l.phase }
  if l'.ringFull then { l' with full := true, stalls := min 65535 (l.stalls + 1) } else l'

/-- Write the record that was opened first to the log ring of allotment `a`, in steward memory (R149, R150). -/
def State.flushOne (s : State) (a : Nat) : State :=
  let x := s.allot a
  let l := x.log
  match l.cache with
  | [] => s
  | r :: _ =>
    (s.setAllot a { x with log := l.pop }).dma (.logRecord a (l.base + 64 * l.tail) (dirtyRecord l.phase (l.seq + 1) r) (s.writeAttr 2048))

/-- Write cached records while the ring has room. -/
def State.flushLog : Nat → State → Nat → State
  | 0, s, _ => s
  | n + 1, s, a =>
    let l := (s.allot a).log
    if l.cache.isEmpty || l.ringFull then s else State.flushLog n (s.flushOne a) a

/-- Write every cached record of allotment `a` that the ring takes. -/
def State.flushAll (s : State) (a : Nat) : State := s.flushLog (s.allot a).log.cache.length a

/-- Records cached by HIF, over all allotments (R150). -/
def State.cached (s : State) : Nat := (s.allots.map (fun x => x.2.log.cache.length)).sum

/-- A page is covered by an open record. -/
def DirtyLog.covers (l : DirtyLog) (w : Nat) : Bool := l.cache.any (fun r => r.window == w)

/-- Mark a page in the record of its window. -/
def DirtyLog.mark (l : DirtyLog) (tick : Nat) (p : Nat × Nat) : DirtyLog :=
  if l.covers p.1 then
    { l with cache := l.cache.map (fun r =>
        if r.window = p.1 && !r.pages.contains p.2 then { r with pages := r.pages ++ [p.2] } else r) }
  else { l with cache := l.cache ++ [⟨p.1, [p.2], tick⟩] }

/-- Records a write would open. -/
def DirtyLog.newRecords (l : DirtyLog) (ps : List (Nat × Nat)) : Nat :=
  ((ps.map Prod.fst).dedup.filter (fun w => !l.covers w)).length

/-- The records HIF caches at most (R150). -/
def cacheRoom : Nat := 1024

/-- The records of a log its ring has room for. -/
def DirtyLog.writable (l : DirtyLog) : Nat := min l.cache.length (l.depth - 1 - ringDist l.depth l.head l.tail)

/-- A write of an allotment needs new records, and its ring is full or HIF's cache has no place for them and can give none up (R150). -/
def State.mustHold (s : State) (a : Nat) (ps : List (Nat × Nat)) : Bool :=
  let l := (s.allot a).log
  l.en && decide (0 < l.newRecords ps) &&
    (l.ringFull || decide (cacheRoom + (s.allots.map (fun x => x.2.log.writable)).sum < s.cached + l.newRecords ps))

/-- The allotment whose cached record was opened first, among those whose ring has room. -/
def State.oldestLog (s : State) : Option Nat :=
  (s.allots.foldl (fun (b : Option (Nat × Nat)) x =>
    match x.2.log.cache with
    | r :: _ =>
      if x.2.log.ringFull then b
      else match b with
        | some y => if r.opened < y.2 then some (x.1, r.opened) else b
        | none => some (x.1, r.opened)
    | [] => b) none).map Prod.fst

/-- Give up `n` cached records, the one opened first before the others (R150). -/
def State.evict : Nat → State → State
  | 0, s => s
  | n + 1, s => match s.oldestLog with
    | some a => State.evict n (s.flushOne a)
    | none => s

/-- Log the pages of a write; where the cache needs room for its records, older ones are written first (R149, R150). -/
def State.logWrite (s : State) (a : Nat) (ps : List (Nat × Nat)) : State :=
  let x := s.allot a
  if x.log.en then
    let s := s.evict (s.cached + x.log.newRecords ps - cacheRoom)
    let x := s.allot a
    s.setAllot a { x with log := ps.foldl (fun l p => l.mark s.drv.tick p) x.log }
  else s

/-! ### Completions -/

/-- The 32 bytes of a completion (R219), without SQ_HEAD and P. -/
structure Cpl where
  tag : Nat
  status : Nat
  cell : Option (Nat × Nat) := none
  outLen : Nat := 0
  time : Nat
  info : Nat := 0
deriving DecidableEq, Repr

def Cpl.bytes (c : Cpl) (sqHead : Nat) (phase : Bool) : Bytes :=
  le 8 c.tag ++ le 2 c.status ++
    le 2 (match c.cell with
      | some (cell, node) => cell % 256 + 256 * (node % 16) + 0x8000
      | none => 0) ++
    le 4 c.outLen ++ le 8 c.time ++ le 2 sqHead ++ [BitVec.ofNat 8 c.info] ++ zeros 4 ++ le 1 (if phase then 0x80 else 0)

/-- Send the queue's message after a completion, or count it toward the next one (R121, R138, R139). -/
def State.signal (s : State) (qid : Nat) : State :=
  let q := s.queue qid
  if q.vector = 0 then s
  else if q.coalCount = 0 && q.coalUs = 0 then s.sendMsix q.vector
  else
    let n := q.unsig + 1
    if q.coalCount ≠ 0 && q.coalCount ≤ n then (s.setQueue qid { q with unsig := 0 }).sendMsix q.vector
    else s.setQueue qid { q with unsig := n, unsigAt := if q.unsig = 0 then s.drv.tick else q.unsigAt }

/-- The queue still has a completion ring to write: it was not torn down (R119, R142). -/
def Queue.writable (q : Queue) : Bool := q.st != .disabled && q.errKind != 5

/-- Write the output and then the completion (R20, R116); a queue torn down discards both. Every page of the output buffer, `buf` bytes, is
translated before the first byte is written: where the host denies one, the command ends with HOST_ACCESS_FAULT and no output (R120). A
completion whose own page is denied is discarded, with CQ_WRITE_FAULT (R119). -/
def State.writeNow (s : State) (qid outAddr buf : Nat) (out : Bytes) (c : Cpl) : State :=
  let q := s.queue qid
  let a := allotOf qid
  let q1 := { q with fetched := q.fetched - 1 }
  let at_ := q.cqBase + 32 * q.cqTail
  if !q.writable then s.setQueue qid q1
  else
    let bad := !out.isEmpty && s.denies a outAddr buf
    let s := if out.isEmpty then s else s.translate a outAddr buf
    let s := if out.isEmpty || bad then s else s.dma (.output qid outAddr out (s.writeAttr a))
    let c := if bad then { c with status := St.hostAccessFault, outLen := 0 } else c
    let s := s.translate a at_ 32
    let ps := if bad then [] else pagesOf outAddr out.length
    if s.denies a at_ 32 then ((s.setQueue qid q1).logWrite a ps).queueError qid 5
    else
      let next := (q.cqTail + 1) % q.depth
      let s := s.dma (.completion qid q.cqTail (c.bytes q.sqHead q.phase) (s.writeAttr a))
      let s := s.setQueue qid { q1 with cqTail := next, phase := if next = 0 then !q.phase else q.phase }
      (s.logWrite a (ps ++ pagesOf at_ 32)).signal qid

/-- The pages a completion and its output write (R149). -/
def State.pagesOfWrite (s : State) (qid outAddr : Nat) (out : Bytes) : List (Nat × Nat) :=
  let q := s.queue qid
  pagesOf outAddr out.length ++ pagesOf (q.cqBase + 32 * q.cqTail) 32

/-- Write the output and completion of a command, or hold them while the dirty log has no place (R20, R150). -/
def State.complete (s : State) (qid outAddr buf : Nat) (out : Bytes) (c : Cpl) : State :=
  let a := allotOf qid
  let x := s.allot a
  if (s.queue qid).writable && s.mustHold a (s.pagesOfWrite qid outAddr out) then
    s.setAllot a { x with log := { x.log with held := x.log.held ++ [⟨qid, outAddr, buf, out, c.bytes 0 false⟩] } }
  else s.writeNow qid outAddr buf out c

/-- The completion that held bytes stand for. -/
def cplOfBytes (b : Bytes) : Cpl :=
  let cw := leAt b 10 2
  { tag := leAt b 0 8, status := leAt b 8 2
    cell := if 0x8000 ≤ cw then some (cw % 256, cw / 256 % 16) else none
    outLen := leAt b 12 4, time := leAt b 16 8, info := byteAt b 26 }

/-- Issue up to `n` held writes of an allotment in order while the log has a place for them (R150). -/
def State.releaseHeld : Nat → State → Nat → State
  | 0, s, _ => s
  | n + 1, s, a =>
    let x := s.allot a
    match x.log.held with
    | [] => s
    | h :: rest =>
      if s.mustHold a (s.pagesOfWrite h.qid h.outAddr h.out) then s
      else
        State.releaseHeld n ((s.setAllot a { x with log := { x.log with held := rest } }).writeNow h.qid h.outAddr h.buf h.out (cplOfBytes h.cpl)) a

/-- Complete a descriptor that started no graph (R206, R217): no output, CELL_VALID 0. INFO names no priority a graph ran at, so
its three bits are a free value (log 4). -/
def State.refuse (s : State) (qid : Nat) (tag status : Nat) : State :=
  let (v, s) := s.free
  s.complete qid 0 0 [] { tag, status, time := s.drv.tick, info := v % 8 }

/-- The statuses with which a node lets its successors run (R213). -/
def okStatus (x : Nat) : Bool := x == St.done || x == St.doneInf

end Sys2Proof.Machine
end

