-- ==== Sys2Proof/Machine/Library.lean ====
section
/-! DEFINITION. The opcodes of the transaction model: their ranges (R210), the handle positions each uses (R203), and Akuth's reference graph
template library (R458, with R211, R222, R253, R258, R292, R320 and R334). -/

namespace Sys2Proof.Machine

/-- The upper byte of an opcode names a range that holds commands (R210). -/
def opcodeInRange (opcode : Nat) : Bool := ([0x01, 0x02, 0x03, 0x04, 0x05, 0x06, 0x07, 0x08, 0x09, 0x0A, 0x0B, 0x0C, 0x0F] : List Nat).contains (opcode / 256)

/-- The commands that use two handle positions, KEY0 and KEY1 (R227, R319). -/
def twoKeyOps : List Nat := [0x0103, 0x0201, 0x0202, 0x0203, 0x0204, 0x0205, 0x0303, 0x0501, 0x0504, 0x0602]

/-- The commands that use KEY0 alone (R227, R269, R270, R290, R319, R379). -/
def oneKeyOps : List Nat :=
  [0x0102, 0x0105, 0x0106, 0x0107, 0x0108, 0x0109, 0x010A, 0x010B, 0x0301, 0x0302, 0x0401, 0x0402, 0x0410, 0x0411, 0x0502, 0x0503, 0x0601,
   0x0702, 0x0711, 0x0713, 0x0721, 0x0803, 0x0811, 0x0A02, 0x0A03, 0x0A05, 0x0B01, 0x0B04, 0x0B11, 0x0B31]

/-- The handle positions a command uses, position k as bit k (R203). -/
def handleMask (opcode : Nat) : Nat := if twoKeyOps.contains opcode then 3 else if oneKeyOps.contains opcode then 1 else 0

/-- A payment command (R222). -/
def isPayment (opcode : Nat) : Bool := decide (2 ≤ opcode / 256) && decide (opcode / 256 ≤ 6)

/-! ### The reference library (R458) -/

/-- Nodes in a chain: each one's predecessor is the node before it. -/
def chainOf (roles : List Nat) (short furrow pqc : Bool) : List TNode :=
  (List.range roles.length).map (fun i =>
    { role := (roles[i]?).getD 0, preds := if i = 0 then 0 else 2 ^ (i - 1), short := short && i == 0, furrow, pqc })

/-- Which worlds a row of the table permits. -/
inductive RefWorlds | both | steward
deriving DecidableEq, Repr

/-- A row of the reference library: the template of an opcode, its default, with the opcode as identifier. Templates of 0x0Bxx mark Furrow; those
of 0x08xx, and of 0x0Cxx but CMN_EVIDENCE, the post-quantum microcode. -/
def refRow (opcode : Nat) (roles : List Nat) (deadline : Nat) (worlds : RefWorlds) (quorum : Option Nat) (inMin inMax outMin : Nat)
    (short : Bool := false) : Template :=
  let hi := opcode / 256
  { id := opcode, opcode, deadline, quorum, inMin, inMax, outMin
    nodes := chainOf roles short (hi == 0x0B) (hi == 0x08 || (hi == 0x0C && opcode != 0x0C02))
    maxPrio := if hi = 0x07 || hi = 0x08 then 6 else 7
    tenant := worlds == .both
    outMax := if roles.isEmpty then 0 else 16777215 }

/-- The longest IN_LEN a descriptor can carry (R202). -/
def maxInLen : Nat := 16777215

/-- PIN, MAC and check values, card, EMV, DUKPT and key block commands: nodes and deadlines of R253, lengths of their layouts. -/
def refPayment : List Template :=
  [refRow 0x0201 [1, 1, 1] 1000 .both none 40 40 16, refRow 0x0202 [1, 1] 1000 .both none 76 76 0,
   refRow 0x0203 [1, 1, 1] 1000 .both none 64 64 12, refRow 0x0204 [1, 1] 1000 .both none 44 44 0,
   refRow 0x0205 [1, 1, 1] 1000 .both none 40 40 4, refRow 0x0301 [1, 1] 50000 .both none 4 4194308 4,
   refRow 0x0302 [1, 1] 50000 .both none 20 4194324 0, refRow 0x0303 [1, 1, 1] 50000 .both none 20 4194324 4,
   refRow 0x0401 [1, 1] 1000 .both none 28 28 3, refRow 0x0402 [1, 1] 1000 .both none 32 32 0,
   refRow 0x0410 [1, 1, 1] 1000 .both none 52 1076 0, refRow 0x0411 [1, 1, 1, 1] 1000 .both none 52 1076 4,
   refRow 0x0501 [1, 1, 1] 1000 .both none 52 52 16, refRow 0x0502 [1, 1, 1] 50000 .both none 32 4194336 0,
   refRow 0x0503 [1, 1, 1] 50000 .both none 32 4194336 0, refRow 0x0504 [1, 1, 1] 1000 .both none 16 16 256,
   refRow 0x0601 [1, 1, 1] 2000 .both none 20 9996 16, refRow 0x0602 [1, 1, 1] 2000 .both none 8 520 1024]

/-- Classical public-key and post-quantum commands: lengths of R269 and R270, deadlines and SHORT marks of R258; an opcode that serves several
sets takes the largest deadline, and is short where each of them is (log 227). -/
def refPublicKey : List Template :=
  [refRow 0x0701 [2, 2] 16000000 .both none 8 8 40, refRow 0x0702 [2, 2] 50000 .both none 36 68 256,
   refRow 0x0703 [2, 2] 5000 .both none 548 1092 0 true, refRow 0x0711 [2, 2] 5000 .both none 36 68 64,
   refRow 0x0712 [2, 2] 5000 .both none 133 261 0, refRow 0x0713 [2, 2] 5000 .both none 44 173 8,
   refRow 0x0714 [2, 2] 5000 .both none 69 149 65, refRow 0x0721 [2, 2] 5000 .both none 4 65536 64,
   refRow 0x0722 [2, 2] 5000 .both none 100 65636 0, refRow 0x0801 [3, 3] 5000 .both none 8 8 1192,
   refRow 0x0802 [3, 3] 2000 .both none 1196 1644 1096 true, refRow 0x0803 [3, 3] 2000 .both none 1100 1644 8 true,
   refRow 0x0811 [3, 3] 10000 .both none 4 65795 3309, refRow 0x0812 [3, 3] 5000 .both none 5265 71056 0,
   refRow 0x0821 [3, 3] 50000 .both none 7892 82915 0]

/-- Key management, random, digest and custodian commands, life cycle, NOP and ABORT. -/
def refAdmin : List Template :=
  [refRow 0x0101 [5, 5] 2000 .both none 16 16 8, refRow 0x0102 [5, 5] 2000 .both none 0 0 112,
   refRow 0x0103 [5, 5] 2000 .both none 0 0 112, refRow 0x0104 [5, 5] 2000 .both none 112 4192 8,
   refRow 0x0105 [5, 5] 2000 .both none 112 4192 8, refRow 0x0106 [5, 5] 2000 .both none 0 0 0,
   refRow 0x0107 [5, 5] 2000 .both none 12 12 0, refRow 0x0108 [5, 5] 2000 .both none 0 0 42,
   refRow 0x0109 [5, 5] 2000 .both none 0 0 32, refRow 0x010A [5, 5] 2000 .both none 4 4 2,
   refRow 0x010B [5, 5] 2000 .both none 20 68 32, refRow 0x0120 [5, 5, 5] 10000 .steward (some 0) 4 4 16,
   refRow 0x0121 [5, 5, 5] 10000 .steward (some 0) 4 4 16, refRow 0x0122 [5, 5] 2000 .steward none 4 4 16,
   refRow 0x0180 [5, 5] 200000 .steward (some 2) 36 36 0, refRow 0x0181 [5, 5] 100000 .steward (some 3) 7904 7904 0,
   refRow 0x0182 [5, 5] 100000 .steward (some 2) 4 4 0, refRow 0x01F0 [] 1000 .both none 0 0 0, refRow 0x01F1 [] 1000 .both none 16 16 0,
   refRow 0x0901 [5, 5] 60000 .both none 4 4 1, refRow 0x0902 [5, 5] 60000 .both none 4 4 1,
   refRow 0x0A01 [5, 5] 50000 .both none 4 maxInLen 1, refRow 0x0A02 [5, 5] 50000 .both none 4 maxInLen 16,
   refRow 0x0A03 [5, 5] 50000 .both none 68 maxInLen 0, refRow 0x0A04 [5, 5] 50000 .both none 68 maxInLen 0,
   refRow 0x0A05 [5, 5, 5] 2000 .both none 12 140 8, refRow 0x0F01 [5, 5] 20000 .steward none 3349 7896 0,
   refRow 0x0F02 [5, 5] 2000 .steward none 32 32 0, refRow 0x0F03 [5, 5] 100000 .steward (some 5) 36 1956 0,
   refRow 0x0F04 [5, 5] 100000 .steward (some 5) 4 4 0, refRow 0x0F05 [5, 5] 100000 .steward (some 5) 8 8 0,
   refRow 0x0F06 [5, 5] 2000 .steward none 4 4 4]

/-- Link and Commons commands. -/
def refLink : List Template :=
  [refRow 0x0B01 [4, 4] 2000 .steward none 48 48 8, refRow 0x0B02 [4, 4] 2000 .steward none 4 4 0,
   refRow 0x0B03 [4, 4] 2000 .steward none 4 4 32, refRow 0x0B04 [4, 4] 100000 .steward (some 0) 48 48 8,
   refRow 0x0B05 [4, 4] 100000 .steward (some 0) 4 4 0, refRow 0x0B11 [4, 4] 2000 .steward none 28 28 0,
   refRow 0x0B12 [4, 4] 2000 .steward none 56 72 0, refRow 0x0B13 [4, 4] 2000 .steward none 4 4 0,
   refRow 0x0B14 [4, 4] 2000 .steward none 12 12 0, refRow 0x0B20 [4, 4] 2000 .steward none 12 12 0,
   refRow 0x0B31 [4, 4, 4] 100000 .steward (some 0) 20 9996 8, refRow 0x0C01 [5, 5] 100000 .steward (some 1) 0 0 16,
   refRow 0x0C02 [5, 5] 50000 .steward none 32 32 17280, refRow 0x0C03 [5, 5] 200000 .steward (some 1) 17284 17284 34560,
   refRow 0x0C04 [5, 3, 5, 5] 2000000 .steward (some 1) 34560 34560 0, refRow 0x0C06 [5, 5] 100000 .steward (some 1) 0 0 0,
   refRow 0x0C07 [5, 5] 100000 .steward (some 1) 4 4 0, refRow 0x0C08 [5, 5] 10000 .steward none 0 0 524336,
   refRow 0x0C09 [5, 5] 10000 .steward none 524336 524336 0, refRow 0x0C10 [5, 3, 5] 500000 .steward none 4 4 0,
   refRow 0x0C11 [5, 3, 5] 10000 .steward none 49 8240 0, refRow 0x0C12 [5, 5] 10000 .steward none 4 4 0,
   refRow 0x0C20 [5, 5] 100000 .steward (some 0) 8 8 0, refRow 0x0C21 [5, 5] 10000 .steward none 12 12 2,
   refRow 0x0C22 [5, 5] 10000 .steward none 8 8 0, refRow 0x0C23 [5, 5] 10000 .steward none 14 140 0]

/-- Akuth's reference library: one template for each opcode the manual defines, and no other. -/
def refLibrary : List Template := refAdmin ++ refPayment ++ refPublicKey ++ refLink

/-! ### The limits of a template (R208, R211, R222) -/

/-- NOP and ABORT, which Drover completes itself, have no nodes, both worlds, no quorum, and the lengths of R211. -/
def selfTemplateOk (t : Template) : Bool :=
  t.nodes.isEmpty && t.tenant && t.steward && t.quorum.isNone && t.outMin == 0 && t.outMax == 0 &&
    (if t.opcode = 0x01F0 then t.inMin == 0 && t.inMax == 0 else t.inMin == 16 && t.inMax == 16)

/-- A payment template names the PAY role alone, marks no unit and keeps the lengths of the command's layouts (R222). -/
def payTemplateOk (t : Template) : Bool :=
  t.nodes.all (fun x => x.role == 1 && !x.furrow && !x.pqc) &&
    refPayment.any (fun r => r.opcode == t.opcode && r.inMin == t.inMin && r.inMax == t.inMax && r.outMin == t.outMin && r.outMax == t.outMax)

/-- A node names earlier nodes alone as predecessors, and one that is not the last is the predecessor of some node (R208). -/
def nodeOk (t : Template) (i : Nat) (x : TNode) : Bool :=
  decide (1 ≤ x.role) && decide (x.role ≤ 6) && decide (x.preds < 2 ^ i) &&
    (t.nodes.any (fun y => y.preds / 2 ^ i % 2 == 1) == decide (i + 1 < t.nodes.length))

/-- A template keeps the limits of R208, and what R211 and R222 fix of some opcodes. -/
def templateOk (t : Template) : Bool :=
  decide (1 ≤ t.id) && decide (t.id ≤ 0xFFFF) && decide (t.nodes.length ≤ 16) &&
    (if t.opcode = 0x01F0 || t.opcode = 0x01F1 then selfTemplateOk t else !t.nodes.isEmpty) &&
    (!isPayment t.opcode || payTemplateOk t) && (List.range t.nodes.length).all (fun i => (t.nodes[i]?).any (nodeOk t i)) &&
    decide (1 ≤ t.deadline) && decide (t.deadline ≤ 16777215) && decide (t.maxPrio ≤ 7) && (t.tenant || t.steward) &&
    t.quorum.all (fun c => decide (c < 6)) && decide (t.inMin ≤ t.inMax) && decide (t.outMin ≤ t.outMax)

/-- The template of an opcode in a library: the default one, or the one of a given number (R202, R209). -/
def findTemplate (lib : List Template) (opcode tid : Nat) : Option Template :=
  lib.find? (fun t => t.opcode == opcode && (if tid = 0 then t.isDefault else t.id == tid))

end Sys2Proof.Machine
end

