-- ==== Sys2Proof/Machine/DroverOps.lean ====
section
/-! DEFINITION. Drover's shared operations: cells and meadows (R171 to R199), ready lists and work slots (R178 to R181), the end of
a graph (R213 to R220), template banks (R84, R208) and the clump memory port (R186 to R190). -/

namespace Sys2Proof.Machine

/-! ### Cells and meadows -/

def State.cellState (s : State) (c : Nat) : Nat := s.getF (Reg.SWD_CELL_STAT_STATE c)
def State.cellRole (s : State) (c : Nat) : Nat := s.getF (Reg.SWD_CELL_STAT_ROLE c)
def State.roleEpoch (s : State) (c : Nat) : Nat := s.getF (Reg.SWD_CELL_STAT_EPOCH c)
def State.nextRole (s : State) (c : Nat) : Nat := s.getF (Reg.SWD_CELL_CTL_NEXT_ROLE c)
def State.mdwState (s : State) (m : Nat) : Nat := s.getF (Reg.DRV_MDW_STAT_STATE m)
def State.sleepState (s : State) (m : Nat) : Nat := s.getF (Reg.PWR_MDW_STAT_STATE m)
def State.setCell (s : State) (c st : Nat) : State := s.setF (Reg.SWD_CELL_STAT_STATE c) st
def State.setMdw (s : State) (m st : Nat) : State := s.setF (Reg.DRV_MDW_STAT_STATE m) st
def State.setCause (s : State) (c x : Nat) : State := s.setF (Reg.SWD_CELL_STAT_FALLOW_CAUSE c) x
def State.setRole (s : State) (c r : Nat) : State := s.setF (Reg.SWD_CELL_STAT_ROLE c) r

/-- The bale epoch a cell serves. -/
def State.cellEpoch (s : State) (c : Nat) : Nat := getC 0 s.drv.cellEpoch c

/-- Count a rejected message; Cairn records it at most once per cell per second (R175). -/
def State.staleNote (s : State) (cell : Nat) : State :=
  let last := getC 0 s.drv.staleAt cell
  let s := s.bump Reg.DRV_STALE_EPOCH_COUNT
  if last = 0 || last + 1000000 ≤ s.drv.tick + 1 then
    { s with drv := { s.drv with staleAt := setC 0 s.drv.staleAt cell (s.drv.tick + 1) } }.post 0x4001 cell 0 0
  else s

/-- A message carries the epochs its cell has now (R175). -/
def State.current (s : State) (x : OpMsg) : Bool := x.roleEpoch == s.roleEpoch x.cell && x.baleEpoch == s.cellEpoch x.cell

/-- The messages a cell has not answered that carry an earlier role epoch reach it and are rejected: its epoch does not advance again
before that (R176). -/
def State.answerStale (s : State) (c : Nat) : State :=
  let stale (x : OpMsg) : Bool := x.cell == c && x.roleEpoch != s.roleEpoch c
  (s.drv.msgs.filter stale).foldl (fun (s : State) _ => s.staleNote c)
    { s with drv := { s.drv with msgs := s.drv.msgs.filter (fun x => !stale x) } }

/-- Raise a role epoch by one, after every message of its previous epoch is answered; it wraps from 255 to 0 (R174, R176). -/
def State.raiseEpoch (s : State) (c : Nat) : State :=
  let s := s.answerStale c
  s.setF (Reg.SWD_CELL_STAT_EPOCH c) (s.roleEpoch c + 1)

/-- A cell clears its operand RAM (R174, R177). -/
def State.clearOram (s : State) (c : Nat) : State := { s with drv := { s.drv with oram := setC [] s.drv.oram c [] } }

/-- The populated cells (R1). -/
def State.cells (s : State) : List Nat := (List.range 256).filter s.hasCell

/-- A role of a cell is one the variant fits: PQC is absent on EZ8-H1700 (R6, R173). -/
def State.roleFits (s : State) (r : Nat) : Bool := r != 3 || s.lc.variant.hasPqc

/-- A fault-Fallow cell (R171, R198). -/
def State.faultFallow (s : State) (c : Nat) : Bool :=
  s.cellState c == 3 && (let k := s.getF (Reg.SWD_CELL_STAT_FALLOW_CAUSE c); k == 1 || k == 2 || k == 3)

/-- Fault-Fallow cells of a meadow. -/
def State.faultCount (s : State) (m : Nat) : Nat := ((cellsOf m).filter s.faultFallow).length

/-- The two work slots of a cell, slot 2 × cell + j. -/
def State.slotOf (s : State) (c j : Nat) : Option SlotEnt := s.slot (2 * c + j)

def State.slotsEmpty (s : State) (c : Nat) : Bool := (s.slotOf c 0).isNone && (s.slotOf c 1).isNone

/-- The slot of a cell whose node runs (R180). -/
def State.runningSlot (s : State) (c : Nat) : Option Nat :=
  [2 * c, 2 * c + 1].find? (fun k => match s.slot k with
    | some e => e.mode == .running
    | none => false)

/-- The other slot of a cell. -/
def otherSlot (k : Nat) : Nat := if k % 2 = 0 then k + 1 else k - 1

/-! ### Template banks -/

/-- A cell in service of the role serves the epoch (R84). -/
def State.roleServed (s : State) (epoch r : Nat) : Bool :=
  s.cells.any (fun c => s.cellState c == 0 && s.cellRole c == r && s.cellEpoch c == epoch)

/-- The entries of the ready list of a die and role that wait for room in it (R178, log 215). -/
def State.overflow (s : State) (k : Nat) : List (Ready × Bool) := getC [] s.drv.excess k

/-- A restart of a meadow waits for the graphs that need the last cells of a role in an epoch (R84): it is due though the meadow
is still ACTIVE. -/
def State.restartWaits (s : State) (m : Nat) : Bool := s.mdwState m == 0 && getC .none s.drv.mdwGoal m == .restart

/-- The roles that only meadow `m` serves in an epoch. -/
def State.lastRoles (s : State) (m epoch : Nat) : List Nat :=
  ((List.range 7).drop 1).filter (fun r =>
    (cellsOf m).any (fun c => s.cellState c == 0 && s.cellRole c == r && s.cellEpoch c == epoch) &&
    !(s.cells.any (fun c => meadowOf c != m && s.cellState c == 0 && s.cellRole c == r && s.cellEpoch c == epoch)))

/-- No new graph of the epoch may need the role, because a restart waits for its last cells (R84). -/
def State.roleBarred (s : State) (epoch r : Nat) : Bool :=
  (List.range 8).any (fun m => s.restartWaits m && (s.lastRoles m epoch).contains r)

/-- The epoch of a bank can take a new graph of the template (R84). -/
def State.epochTakes (s : State) (epoch : Nat) (t : Template) : Bool :=
  t.nodes.all (fun n => s.roleServed epoch n.role && !s.roleBarred epoch n.role)

/-- The epoch and template a new graph takes: the adopted epoch's where it can, otherwise the older one's, otherwise the newest
library that holds the opcode (R84, R21). -/
def State.chooseBank (s : State) (opcode tid : Nat) : Option (Nat × Template) :=
  let c := s.drv.banks.filterMap (fun b => (findTemplate b.2 opcode tid).map (fun t => (b.1, t)))
  match c.find? (fun x => s.epochTakes x.1 x.2) with
  | some x => some x
  | none => c.head?

/-! ### Back-pressure -/

def State.graphCount (s : State) : Nat := s.drv.graphs.length

/-- Bytes in the operand store of a die (R177). -/
def State.storeUsed (s : State) (die : Nat) : Nat := ((s.drv.copies.filter (fun c => c.die == die)).map (fun c => c.data.length)).sum

def readyKey (die role : Nat) : Nat := 8 * die + role

/-- The entries a ready list has room for (R178). -/
def listRoom : Nat := 2048

/-- The causes of back-pressure: graph storage, a ready list, an operand store (R185). -/
def State.bp (s : State) : Bool × Bool × Bool :=
  (decide (4096 ≤ s.graphCount),
   (List.range 16).any (fun k => decide (listRoom ≤ (s.readyList k).length)),
   decide (0x200000 ≤ s.storeUsed 0) || decide (0x200000 ≤ s.storeUsed 1))

def State.backPressure (s : State) : Bool := s.bp.1 || s.bp.2.1 || s.bp.2.2

/-- Report the causes; Cairn records the beginning (R185). -/
def State.refreshBp (s : State) : State :=
  let was := s.isSet Reg.DRV_STATUS_BP_GRAPHS || s.isSet Reg.DRV_STATUS_BP_LISTS || s.isSet Reg.DRV_STATUS_BP_OPERAND
  let b := s.bp
  let t := (((s.setF Reg.DRV_STATUS_GRAPHS s.graphCount).setF Reg.DRV_STATUS_BP_GRAPHS (b2n b.1)).setF
    Reg.DRV_STATUS_BP_LISTS (b2n b.2.1)).setF Reg.DRV_STATUS_BP_OPERAND (b2n b.2.2)
  if !was && s.backPressure then t.post 0x4003 0 0 0 else t

/-! ### Ready lists -/

/-- Append at the tail of the entry's level, or put it at the head of the level (R178, R175). Within a list, entries of one
level stand in order. -/
def State.listPut (s : State) (k : Nat) (e : Ready) (head : Bool) : State :=
  s.setReady k (if head then e :: s.readyList k else s.readyList k ++ [e])

/-- Put an entry on the ready list of a die and role; where the list is full it waits for room, in order (R178, log 215). -/
def State.enqueue (s : State) (die role : Nat) (e : Ready) (head : Bool) : State :=
  let k := readyKey die role
  if (s.readyList k).length < listRoom then s.listPut k e head
  else { s with drv := { s.drv with excess := setC [] s.drv.excess k (s.overflow k ++ [(e, head)]) } }

/-- Entries that waited for room in a ready list enter it (log 215). -/
def State.relist (s : State) (k : Nat) : State :=
  let n := listRoom - (s.readyList k).length
  let l := s.overflow k
  (l.take n).foldl (fun (s : State) x => s.listPut k x.1 x.2) { s with drv := { s.drv with excess := setC [] s.drv.excess k (l.drop n) } }

/-- The die R19 chooses: the shorter ready list of the role; on a tie the die of the graph's previous node, otherwise the east
die. -/
def State.chooseDie (s : State) (role : Nat) (last : Option Nat) : Nat :=
  let e := (s.readyList (readyKey 0 role)).length
  let w := (s.readyList (readyKey 1 role)).length
  if e < w then 0 else if w < e then 1 else last.getD 0

/-- Operations that never yield: RSA verification, the ML-KEM operations, and ML-DSA key pairs and verification (R258, R259). -/
def neverYields (opcode : Nat) : Bool := ([0x0703, 0x0801, 0x0802, 0x0803, 0x0812] : List Nat).contains opcode

/-- Set a node of a graph. -/
def Graph.setNode (gr : Graph) (n : Nat) (x : GNode) : Graph := { gr with nodes := gr.nodes.set n x }

def Graph.node (gr : Graph) (n : Nat) : GNode := (gr.nodes[n]?).getD {}

/-- What the template says of a node; the nodes after the template's are the ML-DSA-65 verifications of a flagged command, of PQC role and
without predecessors (R162, R458). -/
def Graph.tnode (gr : Graph) (n : Nat) : TNode := (gr.tpl.nodes[n]?).getD { role := 3 }

/-- The sink: the last node of the template (R208). -/
def Graph.sink (gr : Graph) : Nat := gr.tpl.nodes.length - 1

/-- Put a node on a ready list (R178, R19). -/
def State.makeReady (s : State) (g n : Nat) (head : Bool) : State :=
  match s.graph g with
  | some gr =>
    let r := (gr.tnode n).role
    let d := s.chooseDie r gr.lastDie
    let s := s.setGraph g (some (gr.setNode n { gr.node n with phase := .ready d, verdict := none, status := none }))
    (s.enqueue d r ⟨gr.prio, .node g n, gr.epoch, s.drv.tick⟩ head).refreshBp
  | none => s

/-- Add an ML-DSA-65 verification to a graph: a further node, of role PQC, that waits on its ready list at the graph's priority (R162,
R458). -/
def State.addVerify (s : State) (g : Nat) : State :=
  match s.graph g with
  | some gr => (s.setGraph g (some { gr with nodes := gr.nodes ++ [{}] })).makeReady g gr.nodes.length false
  | none => s

/-- The slot in which the last verification of a graph runs. -/
def State.verifySlot (s : State) (g : Nat) : Option Nat :=
  match s.graph g with
  | some gr =>
    if gr.tpl.nodes.length < gr.nodes.length then
      (match (gr.node (gr.nodes.length - 1)).phase with
        | .placed k => if (s.slot k).any (fun e => e.mode == .running) then some k else none
        | _ => none)
    else none
  | none => none

/-- Every verification of a graph has completed. -/
def Graph.verified (gr : Graph) : Bool :=
  decide (gr.tpl.nodes.length < gr.nodes.length) && (gr.nodes.drop gr.tpl.nodes.length).all (fun x => x.phase == .done)

/-! ### The end of a graph -/

/-- Take work off every ready list. -/
def State.dropReady (s : State) (p : Work → Bool) : State :=
  (List.range 16).foldl State.relist { s with drv := { s.drv with
    ready := (s.drv.ready.map (fun x => (x.1, x.2.filter (fun e => !p e.work)))).filter (fun x => !x.2.isEmpty)
    excess := (s.drv.excess.map (fun x => (x.1, x.2.filter (fun e => !p e.1.work)))).filter (fun x => !x.2.isEmpty) } }

/-- No cell of a meadow holds work. -/
def State.noWork (s : State) (m : Nat) : Bool := (cellsOf m).all s.slotsEmpty

/-- The idle timer of a meadow starts once its cells hold no work (R64, R182); without a free timer the meadow does not enter S2 by itself
this time (log 216). -/
def State.armIdle (s : State) (m : Nat) : State :=
  let us := s.getF Reg.PWR_SLEEP_CFG_S2_IDLE_US
  if us = 0 || s.sleepState m != 0 || !s.hasMeadow m || !s.noWork m || s.drv.timers.any (fun t => t.owner == .sleep m) then s
  else (s.timer 6 (s.drv.tick + us) (.sleep m)).2

/-- When one slot of a cell empties, its other slot's node runs: a yielded operation resumes, the context of both units restored, a prefetched
node starts (R180, R181, R287). The first node of a graph to start asks for its input. -/
def State.wakeSlot (s : State) (k : Nat) : State :=
  match s.slot k with
  | some e =>
    let s := s.setSlot k (some { e with mode := .running, ctx := {} })
    let s : State := if e.mode == .yielded then { s with drv := { s.drv with units := setC {} s.drv.units (k / 2) e.ctx } } else s
    match e.work with
    | .node g n =>
      match s.graph g with
      | some gr =>
        let s := if gr.input.isNone && gr.lastCell.isNone then s.readInput gr.qid gr.desc.inAddr gr.desc.inLen else s
        s.setGraph g (some { gr.setNode n { gr.node n with ran := some (k / 2) } with
          lastDie := some (dieOf (k / 2)), lastCell := some (k / 2, e.roleEpoch) })
      | none => s
    | _ => s
  | none => s

/-- Empty a slot. -/
def State.freeSlot (s : State) (k : Nat) : State :=
  let wasRunning : Bool := match s.slot k with
    | some e => e.mode == .running
    | none => false
  let s := s.setSlot k none
  (if wasRunning then s.wakeSlot (otherSlot k) else s).armIdle (meadowOf (k / 2))

/-- A node of a graph that ends early is stopped in its slot: unless it had not started, its cell clears its operand RAM and the state of its
units before the slot is released (R217, R286). -/
def State.stopSlot (s : State) (k : Nat) : State :=
  match s.slot k with
  | some e =>
    if e.mode == .prefetched then s.freeSlot k
    else { s.clearOram (k / 2) with drv := { (s.clearOram (k / 2)).drv with
      stopped := setC 0 s.drv.stopped (k / 2) (s.drv.tick + 1), units := setC {} s.drv.units (k / 2) {} } }.freeSlot k
  | none => s

/-- The slots that hold work of a graph. -/
def State.slotsOfGraph (s : State) (g : Nat) : List Nat :=
  s.drv.slots.filterMap (fun x => match x.2 with
    | some e => (match e.work with
      | .node g' _ => if g' = g then some x.1 else none
      | _ => none)
    | none => none)

/-- The mode of the slot a node of a graph stands in. -/
def State.nodeMode (s : State) (g : Nat) (x : GNode) : Option SlotMode :=
  match x.phase with
  | .placed k => (s.slot k).bind (fun e => match e.work with
    | .node g' _ => if g' = g then some e.mode else none
    | _ => none)
  | _ => none

/-- The cell and node a completion names: of the last node on success, of the failing node, or of the node that was running (R220). Where
none runs, the node that yielded, else the last that had started, is named (log 217). -/
def State.endCell (s : State) (g : Nat) (gr : Graph) (n : Option Nat) : Option (Nat × Nat) :=
  let pick (f : GNode → Bool) : Option (Nat × Nat) :=
    ((List.range gr.nodes.length).reverse.find? (fun k => f (gr.node k))).map (fun k => (((gr.node k).ran.getD (gr.node k).cell), k))
  match n with
  | some k => some ((gr.node k).cell, k)
  | none =>
    (pick (fun x => s.nodeMode g x == some .running)).orElse (fun _ =>
      (pick (fun x => s.nodeMode g x == some .yielded)).orElse (fun _ => pick (fun x => x.ran.isSome)))

/-- Free a pending entry and its timer (R159). -/
def State.freePend (s : State) (e : Nat) : State := (s.setPend e {}).dropTimer (.pend e)

/-- A pending entry expires (R159). -/
def State.lapsePend (s : State) (e : Nat) : State :=
  ((s.freePend e).setF Reg.CUS_EVENT_EXPIRED 1).post 0xD005 e (s.pendE e).opcode 0

/-- A resubmission whose verification ends without its quorum leaves its entry PENDING, verified marks kept, or REJECTED where it was rejected
meanwhile; an entry that would return to PENDING past its life expires (R163, R168). -/
def State.unverify (s : State) (e : Nat) : State :=
  let p := s.pendE e
  if p.st = 2 then
    if p.rejecting then s.setPend e { p with st := 3, graph := none, sig := none, rejecting := false, aborting := false }
    else if p.expiry < s.cairn.opTime then s.lapsePend e
    else s.setPend e { p with st := 1, graph := none, sig := none, aborting := false }
  else s

/-- A graph bound for its end leaves the ready lists, the slots, the operand store and its storage, and its timers are cancelled (R217). Its
operand transfers that a cell of a later epoch has still to reject are on their way (R176). -/
def State.clearGraph (s : State) (g : Nat) : State :=
  let s := match (s.graph g).bind (fun gr => gr.pend) with
    | some e => s.unverify e
    | none => s
  let s := s.dropReady (fun w => match w with
    | .node g' _ => g' == g
    | _ => false)
  let s := ((s.slotsOfGraph g).foldl State.stopSlot s).unstall (.node g)
  let s := { s with drv := { s.drv with
    copies := s.drv.copies.filter (fun c => c.g != g)
    msgs := s.drv.msgs.filter (fun x => !(x.g == g && s.current x))
    timers := s.drv.timers.filter (fun t => match t.owner with
      | .firmware g' _ => g' != g
      | _ => true) } }
  (s.setGraph g none).refreshBp

/-- The graph of a life-cycle command whose fuse write goes on (R96, R103): its completion waits. -/
def State.fuseFor (s : State) (g : Nat) : Bool :=
  s.lc.check == some (3, some g) || (match s.lc.job with
    | some (.row _ _ _ (some g')) => g' == g
    | some (.revoke _ (some g')) => g' == g
    | _ => false)

/-- A completion waits for something outside its graph: an invalidation (R22) or a fuse write. -/
def State.withheld (s : State) (g : Nat) : Bool := s.bar.inval.any (fun i => i.g == some g) || s.fuseFor g

/-- A transition to Production in its check phase ends with its graph; the pending attestation key is discarded (R96, R99). -/
def State.dropCheck (s : State) (g : Nat) : State :=
  if s.lc.check == some (2, some g) then { s with lc := { s.lc with check := none, attPending := none } }.setF Reg.LCS_STATUS_PHASE 0 else s

/-- End a graph with a status and write its completion (R213, R217, R219, R220). Output is written only with a status of
success (R20). -/
def State.finishGraph (s : State) (g : Nat) (status : Nat) (n : Option Nat) : State :=
  match s.graph g with
  | some gr =>
    let cell := s.endCell g gr n
    let out := if okStatus status then gr.out else []
    let old := b2n (decide (gr.epoch < s.eAdopt))
    let s := (s.dropCheck g).clearGraph g
    s.complete gr.qid gr.desc.outAddr gr.desc.outLen out
      { tag := gr.desc.tag, status, cell, outLen := out.length, time := s.drv.tick, info := gr.prio + 8 * old }
  | none => s

/-- End a graph whose completion is discarded (R26). -/
def State.dropGraph (s : State) (g : Nat) : State :=
  match s.graph g with
  | some gr =>
    let q := s.queue gr.qid
    (s.clearGraph g).setQueue gr.qid { q with fetched := q.fetched - 1 }
  | none => s

/-- Graph numbers in use. -/
def State.graphIds (s : State) : List Nat := s.drv.graphs.map Prod.fst

/-- The allotment's graphs in flight (R143). -/
def State.inFlight (s : State) (a : Nat) : Nat :=
  (s.drv.graphs.filter (fun x => match x.2 with
    | some gr => allotOf gr.qid == a
    | none => false)).length

/-- Take a graph instance and its deadline timer; no node is placed yet (R163, R214). -/
def State.newGraph (s : State) (qid : Nat) (d : Descriptor) (t : Template) (epoch : Nat) (input : Option Bytes)
    (pend : Option Nat) : State :=
  let g := s.drv.seqNo
  let tAcc := s.drv.tick
  let gr : Graph := {
    qid, desc := d, tpl := t, prio := min d.prio t.maxPrio, tAcc
    deadline := tAcc + (if d.deadline = 0 then t.deadline else d.deadline)
    epoch, nodes := t.nodes.map (fun _ => {}), input := if d.inLen = 0 then some [] else input, pend, order := g }
  let s := s.setGraph g (some gr)
  { s with drv := { s.drv with seqNo := g + 1 } }.refreshBp

/-- Place the template's nodes in a graph instance: those without predecessors become ready (R213). -/
def State.placeNodes (s : State) (g : Nat) : State :=
  match s.graph g with
  | some gr =>
    let s := s.setGraph g (some { gr with pend := none })
    ((List.range gr.tpl.nodes.length).filter (fun n => (gr.tnode n).preds == 0)).foldl (fun s n => s.makeReady g n false) s
  | none => s

/-- Instantiate a graph (R213, R214). -/
def State.instantiate (s : State) (qid : Nat) (d : Descriptor) (t : Template) (epoch : Nat) (input : Option Bytes) : State :=
  (s.newGraph qid d t epoch input none).placeNodes s.drv.seqNo

/-! ### Cells leaving service -/

/-- The operand transfers to a node that is taken back reach its cell, and are of no use there (R175). -/
def State.retire (s : State) (g n : Nat) : State :=
  { s with drv := { s.drv with msgs := s.drv.msgs.filter (fun x => !(x.g == g && x.dst == n && s.current x)) } }

/-- Take the work of a slot back and make it ready again (R21, R175, R180). A graph past its commit point has nothing left to run
and completes with its own status (R216). -/
def State.takeBack (s : State) (k : Nat) : State :=
  match s.slot k with
  | some e =>
    match e.work with
    | .node g n =>
      match s.graph g with
      | some gr =>
        if gr.committed && s.withheld g then s
        else if gr.committed then (s.finishGraph g ((gr.node gr.sink).verdict.getD St.done) (some gr.sink))
        else if !s.roleFits (gr.tnode n).role then s.finishGraph g St.unitAbsent (some n)
        else ((s.retire g n).freeSlot k).makeReady g n true
      | none => s.freeSlot k
    | w =>
      let d := dieOf (k / 2)
      ((s.freeSlot k).enqueue d 4 ⟨e.prio, w, e.baleEpoch, s.drv.tick⟩ true).refreshBp
  | none => s

/-- Move a node under R21. -/
def State.requeue (s : State) (k : Nat) : State :=
  if (s.slot k).isSome then (s.takeBack k).bump Reg.DRV_REQUEUE_COUNT else s

/-- Take back a prefetched node that has not started (R180). -/
def State.reclaim (s : State) (k : Nat) : State :=
  match s.slot k with
  | some e => if e.mode == .prefetched then (s.takeBack k).bump Reg.DRV_RECLAIM_COUNT else s
  | none => s

/-- Begin to drain a cell toward a goal (R193, R194, R180). -/
def State.drainCell (s : State) (c : Nat) (goal : Goal) : State :=
  let s := s.setCell c 1
  let s := { s with drv := { s.drv with
    cellGoal := setC .none s.drv.cellGoal c goal
    cellDrain := setC 0 s.drv.cellDrain c (s.drv.tick + s.getF Reg.DRV_DRAIN_DRAIN_US)
    prior := setC 0 s.drv.prior c (1 + s.cellRole c) } }
  (s.reclaim (2 * c)).reclaim (2 * c + 1)

/-- The mismatch window of a cell closes (R257). -/
def State.closeMismatch (s : State) (c : Nat) : State :=
  { s with drv := { s.drv with winOpen := setC 0 s.drv.winOpen c 0 } }.setF (Reg.SWD_CELL_FAULT_MISMATCH_1S c) 0

/-- A cell takes FALLOW after its drain: operand RAM cleared, epoch raised, role FALLOW (R174); its mismatch window closes (R257). -/
def State.takeFallow (s : State) (c cause : Nat) : State :=
  (((((s.clearOram c).raiseEpoch c).setRole c 0).setCell c 3).setCause c cause).closeMismatch c

/-- What role a cell is to take when it is back in service: 1 + role, 0 where it stays Fallow. -/
def State.setPrior (s : State) (c x : Nat) : State := { s with drv := { s.drv with prior := setC 0 s.drv.prior c x } }

/-- Leave a goal behind. -/
def State.clearGoal (s : State) (c : Nat) : State :=
  { s with drv := { s.drv with cellGoal := setC .none s.drv.cellGoal c .none, cellDrain := setC 0 s.drv.cellDrain c 0 } }

/-- Begin a meadow restart, or a drain toward FALLOW (R192, R193). -/
def State.drainMeadow (s : State) (m : Nat) (goal : Goal) : State :=
  let s := s.setMdw m 1
  let s := { s with drv := { s.drv with
    mdwGoal := setC .none s.drv.mdwGoal m goal
    mdwDrain := setC 0 s.drv.mdwDrain m (s.drv.tick + s.getF Reg.DRV_DRAIN_DRAIN_US) } }
  let live := (cellsOf m).filter (fun c => s.cellState c == 0 || s.cellState c == 1 || s.cellState c == 2)
  live.foldl (fun s c =>
    let p := if s.cellState c = 0 then 1 + s.cellRole c else getC 0 s.drv.prior c
    let s := (s.drainCell c .none).clearGoal c
    { s with drv := { s.drv with prior := setC 0 s.drv.prior c p } }) s

/-- Graphs in flight, their deadlines not passed, that need a role of which the meadow holds an epoch's last cells (R84). -/
def State.mustWait (s : State) (m : Nat) : Bool :=
  s.drv.graphs.any (fun x => match x.2 with
    | some gr => (gr.committed || decide (s.drv.tick ≤ gr.deadline)) &&
        (List.range gr.nodes.length).any (fun n => (s.lastRoles m gr.epoch).contains (gr.tnode n).role)
    | none => false)

/-- A restart begins: it is counted, and Cairn records it (R193, R200). -/
def State.noteRestart (s : State) (m : Nat) : State := (s.bump (Reg.DRV_MDW_STAT_RESTARTS m)).post 0x5002 m 0 m

def State.mdwGoal (s : State) (m : Nat) : Goal := getC .none s.drv.mdwGoal m
def State.setMdwGoal (s : State) (m : Nat) (g : Goal) : State :=
  { s with drv := { s.drv with mdwGoal := setC .none s.drv.mdwGoal m g } }

/-- Power up a meadow in S2 for a restart: its cells take FALLOW and it reloads (R192). -/
def State.restartAsleep (s : State) (m : Nat) : State :=
  let s := ((s.setMdw m 3).setF (Reg.PWR_MDW_STAT_STATE m) 5).setMdwGoal m .restart
  let s := { s with pwr := { s.pwr with deep := setC false s.pwr.deep m true } }
  let live := (cellsOf m).filter (fun c => s.cellState c != 3)
  let s := live.foldl (fun s c => ((if s.cellState c = 0 then s.setPrior c (1 + s.cellRole c) else s).takeFallow c 0).clearGoal c) s
  s.noteRestart m

/-- Step 1 of R193, or the power-up of a meadow in S2 that stands for steps 1 to 4 (R192). -/
def State.beginRestart (s : State) (m : Nat) : State :=
  if s.sleepState m = 2 then s.restartAsleep m else (s.drainMeadow m .restart).noteRestart m

/-- A restart that during an overlap waits for the last cells of a role (R84), or begins at once. -/
def State.restart (s : State) (m : Nat) : State :=
  if s.isSet Reg.HIF_BALE_STATUS_OVERLAP && s.mustWait m then s.setMdwGoal m .restart
  else s.beginRestart m

/-- The bank and template a descriptor takes at its acceptance (R84). -/
def State.bankFor (s : State) (w : Waiting) : Nat × Template :=
  (s.chooseBank w.desc.opcode w.desc.template).getD (s.bale.adoptedEpoch, w.tpl)

/-- Complete a descriptor Drover completes itself: no output, no cell (R211, R219). -/
def State.completeSelf (s : State) (qid : Nat) (w : Waiting) (status : Nat) : State :=
  let bt := s.bankFor w
  s.complete qid 0 0 [] { tag := w.desc.tag, status, time := s.drv.tick
                          info := min w.desc.prio bt.2.maxPrio + 8 * b2n (decide (bt.1 < s.eAdopt)) }

/-- Every descriptor an ABORT aborted has its completion written: none is verified to the end of its signature, none is held for want of log
space (R211, R218). -/
def State.abortOver (s : State) (a : AbortWait) : Bool :=
  !(s.pends.any (fun x => x.2.aborting && (x.2.graph.bind s.graph).any (fun gr => gr.qid == a.target && gr.desc.tag == a.tag))) &&
    !((s.allot (allotOf a.target)).log.held.any (fun h => h.qid == a.target && leAt h.cpl 0 8 == a.tag))

/-- ABORTs whose wait is over complete with DONE (R211). -/
def State.pollAborts (s : State) : State :=
  s.hif.aborts.foldl (fun (s : State) a =>
    if s.abortOver a then ({ s with hif := { s.hif with aborts := s.hif.aborts.erase a } }.completeSelf a.qid a.w St.done) else s) s

/-- A swale ends the ABORTs in progress with ABORTED (R218). -/
def State.endAborts (s : State) : State :=
  s.hif.aborts.foldl (fun (s : State) a => s.completeSelf a.qid a.w St.aborted) { s with hif := { s.hif with aborts := [] } }

/-- What waits for graphs to end goes on: ABORTs (R211), and restarts (R84). -/
def State.pollRestarts (s : State) : State :=
  (List.range 8).foldl (fun s m => if s.restartWaits m && !s.mustWait m then s.beginRestart m else s) s.pollAborts

/-- An automatic restart, one at a time (R198). -/
def State.autoRestart (s : State) (m : Nat) : State :=
  if s.drv.mdwAuto.isNone && decide (4 < s.faultCount m) && s.mdwState m == 0 && !s.isSet (Reg.DRV_MDW_STAT_AUTO_HELD m) &&
      !s.restartWaits m then
    ({ s with drv := { s.drv with mdwAuto := some m } }.setF Reg.DRV_EVENT_AUTO_RESTART 1).restart m
  else s

/-- Start whatever automatic restart is due (R198). -/
def State.autoRestarts (s : State) : State := (List.range 8).foldl State.autoRestart s

/-- A cell becomes fault-Fallow at once (R196): its role epoch rises and its role becomes FALLOW. -/
def State.cellDown (s : State) (c cause : Nat) : State :=
  ((if s.cellRole c = 0 then s else s.setPrior c (1 + s.cellRole c)).takeFallow c cause).clearGoal c

/-- The nodes in the slots of a cell that became fault-Fallow move, and the fault is reported; a fifth one of the meadow restarts it (R196,
R198). -/
def State.cellGone (s : State) (c cause : Nat) : State :=
  let s := (s.requeue (2 * c)).requeue (2 * c + 1)
  ((s.setF Reg.DRV_EVENT_FAULT_FALLOW 1).post 0x5001 c cause 0).autoRestart (meadowOf c)

def State.cellFault (s : State) (c cause : Nat) : State := (s.cellDown c cause).cellGone c cause

/-- A cell takes a role and serves (R193, R194); PQC on a variant without it leaves the cell FALLOW (R173). At step 12 only the
tenant set is left to load (R396, R397). -/
def State.takeRole (s : State) (c r : Nat) : State :=
  if r = 0 then (s.setCell c 3).setCause c 0
  else if !s.roleFits r then (((s.setCell c 3).setCause c 4).setRole c 0).post 0x5006 c 0 0
  else
    let s := if s.service then s.hedgeRole c r else s.loadSet c 1 (hedgeTag r 0)
    let s := (((s.raiseEpoch c).setRole c r).setCell c 0).setCause c 0
    { s with drv := { s.drv with cellEpoch := setC 0 s.drv.cellEpoch c (getC 0 s.bale.mdwEpoch (meadowOf c)) } }

/-- When every populated meadow serves the adopted epoch the overlap ends (R84). -/
def State.overlapCheck (s : State) : State :=
  let ms := (List.range 8).filter s.hasMeadow
  let adopted := ms.foldl (fun v m => if getC 0 s.bale.mdwEpoch m = s.bale.adoptedEpoch then setBit v m else v) 0
  let s := s.setF Reg.HIF_BALE_STATUS_MDW_ADOPTED adopted
  if s.isSet Reg.HIF_BALE_STATUS_OVERLAP && ms.all (fun m => getC 0 s.bale.mdwEpoch m == s.bale.adoptedEpoch) then
    let s := (s.setF Reg.HIF_BALE_STATUS_OVERLAP 0).post 0xE002 0 0 0
    { s.setF Reg.DRV_STATUS_TWO_BANKS 0 with drv := { s.drv with banks := s.drv.banks.take 1 } }
  else s

/-- The result of a meadow or cell command that ends at once (R200). -/
def State.drvResult (s : State) (status : Nat) : State :=
  { (s.setF Reg.DRV_RESULT_STATUS status).setF Reg.DRV_RESULT_IN_PROGRESS 0 with
    drv := { ((s.setF Reg.DRV_RESULT_STATUS status).setF Reg.DRV_RESULT_IN_PROGRESS 0).drv with cmdOf := none } }

/-- A refused write reports its status; a command in progress goes on (R200). -/
def State.drvRefused (s : State) (status : Nat) : State := s.setF Reg.DRV_RESULT_STATUS status

/-- A command that has begun and will report later. -/
def State.drvBusy (s : State) (u : DrvUnit) : State :=
  { s.setF Reg.DRV_RESULT_IN_PROGRESS 1 with drv := { (s.setF Reg.DRV_RESULT_IN_PROGRESS 1).drv with cmdOf := some u } }

/-- What a meadow or cell was doing ends with a status: the last command reports it where it was written to this unit and is in progress
(R200). -/
def State.drvEnd (s : State) (u : DrvUnit) (status : Nat) : State := if s.drv.cmdOf = some u then s.drvResult status else s

/-- A command that has ended reports DONE. -/
def State.drvDone (s : State) (u : DrvUnit) : State := s.drvEnd u St.done

/-! ### Dispatch -/

/-- A cell of a die that holds the role in the epoch and is in service with an empty slot (R178). -/
def State.canTake (s : State) (die role epoch : Nat) (c : Nat) : Bool :=
  dieOf c == die && s.hasCell c && s.cellState c == 0 && s.cellRole c == role && s.cellEpoch c == epoch &&
  ((s.slotOf c 0).isNone || (s.slotOf c 1).isNone) && s.mdwState (meadowOf c) == 0

/-- The cell is in a meadow that is awake: not in S2, nor powered off in S3 (R66). -/
def State.awake (s : State) (c : Nat) : Bool := s.sleepState (meadowOf c) != 2 && s.sleepState (meadowOf c) != 4

/-- Drover places nodes on the cells of a meadow that is ACTIVE or on its way there from S2, not while it enters a sleep state (R64, R66). -/
def State.placeable (s : State) (c : Nat) : Bool :=
  let m := meadowOf c
  s.sleepState m == 0 || (s.sleepState m == 5 && !getC false s.pwr.deep m)

/-- The cells of a die in round-robin order from the pointer of its role (R178). -/
def State.rrOrder (s : State) (die role : Nat) : List Nat :=
  let p := getC 0 s.drv.rr (readyKey die role)
  (List.range 128).map (fun i => 128 * die + (p + i) % 128)

/-- The cell of a die a node goes to: the graph's previous cell, else one with both slots empty, else one with a slot empty (R178). -/
def State.cellOn (s : State) (die role epoch : Nat) (last : Option (Nat × Nat)) : Option Nat :=
  let up := (s.rrOrder die role).filter (fun c => s.canTake die role epoch c && s.placeable c)
  let prev := last.bind (fun x => if up.contains x.1 && s.roleEpoch x.1 == x.2 then some x.1 else none)
  (prev.orElse (fun _ => up.find? s.slotsEmpty)).orElse (fun _ => up.head?)

/-- The cell of the lowest-numbered meadow of a die in S2 that can take a node (R66). -/
def State.sleeperOn (s : State) (die role epoch : Nat) : Option Nat :=
  ((List.range 128).map (fun i => 128 * die + i)).find? (fun c => s.canTake die role epoch c && s.sleepState (meadowOf c) == 2)

/-- The ready list of a role on a die is long enough for Drover to wake a meadow there (R66). -/
def State.wakesFor (s : State) (die role : Nat) : Bool :=
  let wake := s.getF Reg.PWR_SLEEP_CFG_WAKE_DEPTH
  wake != 0 && decide (wake ≤ (s.readyList (readyKey die role)).length)

/-- An awake cell of a die serves the role in the epoch. -/
def State.servedOn (s : State) (die role epoch : Nat) : Bool :=
  s.cells.any (fun c => dieOf c == die && s.cellState c == 0 && s.cellRole c == role && s.cellEpoch c == epoch && s.awake c)

/-- The cell a node on the list of a die goes to. A sleeping meadow is woken only where R66 allows it; a node whose die serves its role no
more crosses to the other (R21, R195). -/
def State.chooseCell (s : State) (die role epoch : Nat) (last : Option (Nat × Nat)) : Option Nat :=
  match s.cellOn die role epoch last with
  | some c => some c
  | none =>
    if !s.cells.any (fun c => s.cellState c == 0 && s.cellRole c == role && s.awake c) then
      (s.sleeperOn die role epoch).orElse (fun _ => s.sleeperOn (1 - die) role epoch)
    else
      (if s.wakesFor die role then s.sleeperOn die role epoch else none).orElse (fun _ =>
        if s.servedOn die role epoch then none
        else (s.cellOn (1 - die) role epoch last).orElse (fun _ =>
          if s.wakesFor (1 - die) role then s.sleeperOn (1 - die) role epoch else none))

/-- The entry a die's agent places next for a role: the first of the highest level that a cell can take (R178). -/
def State.nextEntry (s : State) (die role : Nat) : Option (Ready × Nat) :=
  let l := s.readyList (readyKey die role)
  let cellFor (e : Ready) : Option Nat :=
    s.chooseCell die role e.epoch (match e.work with
      | .node g _ => (s.graph g).bind (fun gr => gr.lastCell)
      | _ => none)
  ((List.range 8).reverse.flatMap (fun p => l.filter (fun e => e.prio == p))).findSome? (fun e => (cellFor e).map (fun c => (e, c)))

/-- Wake a clump from S1 (R66). -/
def State.s1Wake (s : State) (clump : Nat) : State := { s with pwr := { s.pwr with s1 := setC false s.pwr.s1 clump false } }

/-- Begin the wake of a meadow in S2 (R66). -/
def State.s2Wake (s : State) (m : Nat) : State :=
  if s.sleepState m = 2 then s.setF (Reg.PWR_MDW_STAT_STATE m) 5 else s

/-- A write to the control window of a cell: absent on a variant without it, discarded in S3, and waking its clump or meadow first
(R3, R66, R201). -/
def State.cellWindow (s : State) (c : Nat) (f : State → State) : State :=
  if 256 ≤ c then s
  else if !s.hasCell c then s.absentHit
  else if s.sleepState (meadowOf c) = 4 then s.bump Reg.PWR_S3_HITS_HITS
  else f ((s.s1Wake (clumpOf c)).s2Wake (meadowOf c))

/-- Put work into an empty slot of a cell; it runs at once where the cell runs nothing and its meadow is ACTIVE (R178, R180). The operands
the node needs are on their way to it, each with the epochs of now (R175). -/
def State.place (s : State) (c : Nat) (e : Ready) : State :=
  let k := if (s.slotOf c 0).isNone then 2 * c else 2 * c + 1
  let runs := (s.slot (otherSlot k)).isNone && s.sleepState (meadowOf c) == 0
  let short := match e.work with
    | .node g n => ((s.graph g).map (fun gr => (gr.tnode n).short)).getD false
    | _ => false
  let s := (s.setSlot k (some { work := e.work, mode := .prefetched, prio := e.prio, short, roleEpoch := s.roleEpoch c, baleEpoch := e.epoch })).dropTimer (.sleep (meadowOf c))
  let s := match e.work with
    | .node g n =>
      match s.graph g with
      | some gr =>
        let ms := ((List.range gr.nodes.length).filter (fun j => bit (gr.tnode n).preds j)).map (fun j =>
          OpMsg.mk g j n c (s.roleEpoch c) e.epoch)
        let s := s.setGraph g (some (gr.setNode n { gr.node n with phase := .placed k, cell := c }))
        { s with drv := { s.drv with msgs := s.drv.msgs ++ ms } }
      | none => s
    | _ => s
  if runs then s.wakeSlot k else s

/-- A prefetched node of another cell of the role and epoch moves to a cell whose slots are both empty (R180), unless the meadow of that
cell is not ACTIVE (R64). -/
def State.reclaimTo (s : State) (c : Nat) : State :=
  if s.slotsEmpty c && s.cellState c == 0 && s.sleepState (meadowOf c) == 0 && s.mdwState (meadowOf c) == 0 then
    match s.drv.slots.find? (fun x => match x.2 with
      | some e => e.mode == .prefetched && dieOf (x.1 / 2) == dieOf c && s.cellState (x.1 / 2) == 0 &&
          s.cellRole (x.1 / 2) == s.cellRole c && e.baleEpoch == s.cellEpoch c
      | none => false) with
    | some (k, some e) =>
      let s := match e.work with
        | .node g n => s.retire g n
        | _ => s
      ((s.freeSlot k).bump Reg.DRV_RECLAIM_COUNT).place c ⟨e.prio, e.work, e.baleEpoch, s.drv.tick⟩
    | _ => s
  else s

/-- Empty a slot whose work has ended; the cell it leaves empty takes a prefetched node of another (R180). -/
def State.endSlot (s : State) (k : Nat) : State := (s.freeSlot k).reclaimTo (k / 2)

/-- End a graph; the cells it leaves empty take prefetched nodes of others (R180, R217). -/
def State.endGraph (s : State) (g status : Nat) (n : Option Nat) : State :=
  (s.slotsOfGraph g).foldl (fun t k => t.reclaimTo (k / 2)) (s.finishGraph g status n)

/-- One decision of a dispatch agent for a role (R178). -/
def State.dispatch (s : State) (die role : Nat) : State :=
  match s.nextEntry die role with
  | some (e, c) =>
    let k := readyKey die role
    let prev := match e.work with
      | .node g _ => ((s.graph g).bind (fun gr => gr.lastCell)) == some (c, s.roleEpoch c)
      | _ => false
    let s := (s.setReady k ((s.readyList k).erase e)).relist k
    let s := if prev then s else { s with drv := { s.drv with rr := setC 0 s.drv.rr (readyKey (dieOf c) role) ((c % 128 + 1) % 128) } }
    (((s.s1Wake (clumpOf c)).place c e).s2Wake (meadowOf c)).refreshBp
  | none => s

/-! ### The clump memory port -/

def State.port (s : State) (k : Nat) : Port := getC {} s.drv.ports k
def State.setPort (s : State) (k : Nat) (p : Port) : State := { s with drv := { s.drv with ports := setC {} s.drv.ports k p } }

/-- The priority field of requester `r` of clump `k` (R187). -/
def arbPrio (k r : Nat) : Fld :=
  if r < 8 then Reg.SWD_ARB_PRIO (8 * k + r) else if r = 8 then Reg.SWD_ARB_REF_PRIO k else Reg.SWD_ARB_STL_PRIO k

def arbLimit (k r : Nat) : Fld :=
  if r < 8 then Reg.SWD_ARB_LIMIT (8 * k + r) else if r = 8 then Reg.SWD_ARB_REF_LIMIT k else Reg.SWD_ARB_STL_LIMIT k

def arbWait (k r : Nat) : Fld :=
  if r < 8 then Reg.SWD_ARB_WAIT (8 * k + r) else if r = 8 then Reg.SWD_ARB_REF_WAIT k else Reg.SWD_ARB_STL_WAIT k

/-- The requester of highest priority, ties going to the first after the previous winner (R188). -/
def State.byPriority (s : State) (k : Nat) (req : List Nat) (prev : Nat) : Option Nat :=
  let order := ((List.range 10).map (fun i => (prev + 1 + i) % 10)).filter req.contains
  order.foldl (fun b r => match b with
    | none => some r
    | some x => if s.getF (arbPrio k x) < s.getF (arbPrio k r) then some r else some x) none

/-- The winner of a decision (R188). -/
def State.winner (s : State) (k : Nat) (p : Port) : Option Nat :=
  if p.req.contains 8 then some 8
  else if p.req.contains 9 then some 9
  else match p.preempted.filter p.req.contains with
    | some r => some r
    | none =>
      match p.limited.find? p.req.contains with
      | some r => some r
      | none => s.byPriority k p.req p.prev

/-- One decision: the winner takes the grant, and every loser's wait counter rises by one; those that reach their limits at it stand
in ascending number (R187, R188). -/
def State.arbitrate (s : State) (k : Nat) : State :=
  let p := s.port k
  match s.winner k p with
  | some w =>
    let s := (p.req.filter (fun r => r != w)).foldl (fun s r => s.bump (arbWait k r)) s
    let s := (s.setF (arbWait k w) 0).setF (Reg.SWD_ARB_STAT_OWNER k) w
    let hit := (List.range 10).filter (fun r =>
      p.req.contains r && r != w && decide (s.getF (arbLimit k r) ≤ s.getF (arbWait k r)) && !p.limited.contains r)
    s.setPort k { p with
      limited := p.limited.filter (fun r => r != w) ++ hit, prev := w
      preempted := if p.preempted = some w then none else p.preempted }
  | none => s.setF (Reg.SWD_ARB_STAT_OWNER k) 15

/-- A requester drops its request; an owner that drops it frees the port, and a decision follows (R187, R188). -/
def State.portDrop (s : State) (k r : Nat) : State :=
  let p := s.port k
  if s.getF (Reg.SWD_ARB_STAT_OWNER k) = r then
    (s.setPort k { p with req := p.req.filter (fun x => x != r) }).arbitrate k
  else
    (s.setF (arbWait k r) 0).setPort k { p with
      req := p.req.filter (fun x => x != r), limited := p.limited.filter (fun x => x != r)
      preempted := if p.preempted = some r then none else p.preempted }

end Sys2Proof.Machine
end

