-- ==== Sys2Proof/Machine/ThaOps.lean ====
section
/-! DEFINITION. Thatch's engines (R381 to R390): lines and where their metadata lies, counters and the tree, keys, writing a line,
poisoning one. -/

namespace Sys2Proof.Machine

/-! ### Layout (R381, R382) -/

/-- Data lines of a stack. -/
def dataLines : Nat := 234881024

/-- The engine and line of a Thatch address; none outside the two ranges (R382). -/
def thaLine (addr : Nat) : Option (Nat × Nat) :=
  let e := addr / 0x400000000
  let n := addr % 0x400000000 / 64
  if e < 2 && n < dataLines then some (e, n) else none

/-- The Thatch address of a line, divided by 64 (R384). -/
def thaIndex (e n : Nat) : Nat := e * 0x10000000 + n

/-- The stack-internal line of a line's MAC line (R381). -/
def macLine (n : Nat) : Nat := 0x380000000 / 64 + n / 8

/-- How many nodes a level holds, the counter blocks being level 0 (R386). -/
def levelNodes (l : Nat) : Nat := [1835008, 229376, 28672, 3584, 448, 56, 7, 1].getD l 0

/-- Where a level begins in an upper range, in lines (R386). -/
def levelBase (l : Nat) : Nat := (((List.range l).drop 1).map levelNodes).sum

/-- The node of a level above a line: its counter block at level 0 (R385, R386). -/
def nodeOf (n l : Nat) : Nat := n / 128 / 8 ^ l

/-- The stack-internal line of a copy of a node (R381, R386). -/
def nodeLine (n l : Nat) (copyB : Bool) : Nat :=
  if l = 0 then (if copyB then 0x3F8000000 else 0x3F0000000) / 64 + nodeOf n 0
  else (if copyB then 0x3FF000000 else 0x3F7000000) / 64 + levelBase l + nodeOf n l

/-! ### Engines -/

def State.engine (s : State) (e : Nat) : Engine := getC {} s.tha.engines e
def State.setEngine (s : State) (e : Nat) (x : Engine) : State := { s with tha := { s.tha with engines := setC {} s.tha.engines e x } }

/-- An engine is keyed and initialised. -/
def State.thaReady (s : State) (e : Nat) : Bool := s.isSet (if e = 0 then Reg.THA_STATUS_E_READY else Reg.THA_STATUS_W_READY)

def State.setThaReady (s : State) (e : Nat) (b : Bool) : State :=
  s.setF (if e = 0 then Reg.THA_STATUS_E_READY else Reg.THA_STATUS_W_READY) (b2n b)

/-- A counter block, once its bit is set (R386). -/
def Engine.block (x : Engine) (b : Nat) : Option CtrBlock := getC none x.blocks b

/-- The 56-bit counter of a line (R385). -/
def Engine.counter (x : Engine) (n : Nat) : Nat :=
  match x.block (n / 128) with
  | some c => c.major * 8 + (c.minors[n % 128]?).getD 0
  | none => 0

/-- The counter of a node in its parent; of level 7 the root register (R386). -/
def Engine.treeCtr (x : Engine) (l i : Nat) : Nat := getC 0 x.tree (l * 0x1000000 + i)

/-- A write of a counter block raises its counter in its parent, and so on to the root (R386). The cache writes nodes through (log 50). -/
def Engine.bumpTree (x : Engine) (n : Nat) : Engine :=
  { x with tree := (List.range 8).foldl (fun m l =>
      setC 0 m (l * 0x1000000 + nodeOf n l) (getC 0 m (l * 0x1000000 + nodeOf n l) + 1)) x.tree }

/-- A line's bytes; zero where its block was never written (R386). -/
def Engine.line (x : Engine) (n : Nat) : Bytes :=
  match x.block (n / 128) with
  | some _ => fit 64 (getC [] x.data n)
  | none => zeros 64

/-- Store a line's bytes; a line of zeros is not listed. -/
def Engine.putLine (x : Engine) (n : Nat) (b : Bytes) : Engine :=
  { x with data := setC [] x.data n (if allZero b then [] else fit 64 b) }

def Engine.isPoison (x : Engine) (n : Nat) : Bool := getC false x.poison n
def Engine.isFrozen (x : Engine) (n : Nat) : Bool := getC false x.frozen n

/-- An access must wait: the engine initialises, or the line's block is rewritten (R386, R391). -/
def State.thaBusy (s : State) (e n : Nat) : Bool := !s.thaReady e || (s.engine e).rewriting.contains (n / 128)

/-! ### What lies in the arrays (R384, R385) -/

/-- The tweak of a line: counter in bits 127 to 72, address in bits 34 to 0 (R384). -/
def lineTweak (e n ctr : Nat) : Nat := ctr * 2 ^ 72 + thaIndex e n

/-- The ciphertext of a line under its counter (R384): AES-XTS-256. -/
def Engine.cipher (x : Engine) (e n : Nat) : Bytes :=
  let k := x.keys.getD []
  xtsEnc (k.take 32) (slice k 32 32) (le 16 (lineTweak e n (x.counter n))) (x.line n)

/-- AES-256-CMAC under the engine's MAC key, leftmost 64 bits (R384, R385). -/
def Engine.cmac64 (x : Engine) (b : Bytes) : Bytes := (cmac 1 ((x.keys.getD []).drop 64) b).take 8

/-- The MAC of a line (R384), its address and counter most significant byte first (log 236). -/
def Engine.mac (x : Engine) (e n : Nat) : Bytes := x.cmac64 (be 8 (64 * thaIndex e n) ++ be 7 (x.counter n) ++ x.cipher e n)

/-- The 437 bits of a counter block before its MAC: the major counter, then the minor counters of its lines (R385, log 236). -/
def CtrBlock.bits (c : CtrBlock) : Nat := c.major + 2 ^ 53 * c.minors.foldr (fun m v => m % 8 + 8 * v) 0

/-- The 64 bytes of a counter block: its bits, its MAC over its address, its counter in its parent and those bits, and zero (R385). Both copies hold
the same bytes, under the address of copy A (log 236). -/
def Engine.blockBytes (x : Engine) (b : Nat) (c : CtrBlock) : Bytes :=
  le 64 (c.bits + 2 ^ 437 * leNat (x.cmac64 (be 8 (64 * nodeLine (128 * b) 0 false) ++ be 7 (x.treeCtr 0 b) ++ le 55 c.bits)))

/-- The 64 bytes of an upper node: the counters of its eight children and its MAC (R386). -/
def Engine.nodeBytes (x : Engine) (l i : Nat) : Bytes :=
  let c := (List.range 8).flatMap (fun j => le 7 (x.treeCtr (l - 1) (8 * i + j)))
  c ++ x.cmac64 (be 8 (64 * nodeLine (128 * 8 ^ l * i) l false) ++ be 7 (x.treeCtr l i) ++ c)

/-- The level and index of the node a stack-internal line holds, in either copy (R381, R386). -/
def nodeAt (p : Nat) : Option (Nat × Nat) :=
  let q := p % (0x8000000 / 64)
  if p < 0x3F0000000 / 64 || 0x400000000 / 64 ≤ p then none
  else if q < levelNodes 0 then some (0, q)
  else
    let r := q - levelNodes 0
    (([1, 2, 3, 4, 5, 6, 7] : List Nat).find? (fun l => decide (levelBase l ≤ r) && decide (r < levelBase l + levelNodes l))).map
      (fun l => (l, r - levelBase l))

/-- A data line the content of a stack-internal line belongs to: itself, the first of its MAC line, the first below its node. -/
def scrubData (p : Nat) : Nat :=
  if p < dataLines then p
  else if p < 0x3F0000000 / 64 then 8 * (p - 0x380000000 / 64)
  else ((nodeAt p).map (fun x => 128 * 8 ^ x.1 * x.2)).getD 0

/-- What lies in a line of the array of stack `e` (R381): none where nothing was written under the present keys. -/
def Engine.arrayLine (x : Engine) (e p : Nat) : Option Bytes :=
  let b := scrubData p / 128
  if p < 0x3F0000000 / 64 then
    (x.block b).map (fun _ => if p < dataLines then x.cipher e p else (List.range 8).flatMap (fun j => x.mac e (scrubData p + j)))
  else
    match nodeAt p with
    | some (0, _) => (x.block b).map (x.blockBytes b)
    | some (l, i) => x.keys.map (fun _ => x.nodeBytes l i)
    | none => none

/-! ### Keys (R383, R386) -/

/-- Both engines lose their keys, and with them every line (R383, R405). -/
def State.thaClear (s : State) : State :=
  [0, 1].foldl (fun (s : State) e =>
    (((s.setEngine e { held := (s.engine e).held }).setThaReady e false).setF (Reg.THA_POISONED_LINES e) 0).setF
      (Reg.THA_FROZEN_LINES e) 0) (s.setF Reg.THA_STATUS_FROZEN_ANY 0)

/-- An engine draws its three keys from Barrow's instance and begins to write its tree (R383, R386); without random numbers it
waits. -/
def State.thaKey (s : State) (e : Nat) : State :=
  match s.draw 10 96 with
  | some (k, t) => t.setEngine e { t.engine e with keys := some k }
  | none => s

/-! ### Findings on a line (R388, R389) -/

/-- The last error: line and kind (R400). -/
def State.thaErr (s : State) (e line kind : Nat) : State :=
  ((s.setF (Reg.THA_LAST_ERR_LINE e) line).setF (Reg.THA_LAST_ERR_KIND e) kind).setF (Reg.THA_LAST_ERR_VALID e) 1

/-- A correctable error (R388). -/
def State.thaCe (s : State) (e line kind : Nat) : State :=
  (((s.bump (Reg.THA_CE_CNT_COUNT e)).setF Reg.THA_EVENT_CE 1).thaErr e line kind).post 0x9001 e kind (line % 2 ^ 32)

/-- Poison a line (R388, R389); a line already poisoned counts nothing more. -/
def State.poisonLine (s : State) (e n : Nat) : State :=
  let x := s.engine e
  if x.isPoison n then s
  else ((s.setEngine e { x with poison := setC false x.poison n true }).setF (Reg.THA_POISONED_LINES e)
    (s.getF (Reg.THA_POISONED_LINES e) + 1)).setF Reg.THA_EVENT_POISON 1

/-- An uncorrectable error in a line: counted, recorded, the line poisoned (R388). -/
def State.thaUe (s : State) (e n line kind : Nat) : State :=
  if (s.engine e).isPoison n then s
  else (((s.poisonLine e n).bump (Reg.THA_UE_CNT_COUNT e)).thaErr e line kind).post 0x9002 e kind (line % 2 ^ 32)

/-! ### Writing (R385, R387, R389) -/

/-- A line freezes at the end of its counter (R387). -/
def State.freezeLine (s : State) (e n : Nat) : State :=
  let x := s.engine e
  let s := (s.setEngine e { x with frozen := setC false x.frozen n true }).setF (Reg.THA_FROZEN_LINES e) (s.getF (Reg.THA_FROZEN_LINES e) + 1)
  let s := ((s.setF Reg.THA_STATUS_FROZEN_ANY 1).post 0x9005 e 0 (n % 2 ^ 32)).setF Reg.THA_EVENT_COUNTER_END 1
  if s.isSet Reg.HIF_STATUS_RESTART_ADVISED then s
  else ((s.setF Reg.HIF_STATUS_RESTART_ADVISED 1).hifEvent Reg.HIF_EVENT_RESTART_ADVISED).refreshAlert

/-- The counter a block gives line j at its next write, and whether the major counter steps; none at the end (R385). -/
def CtrBlock.next (c : CtrBlock) (j : Nat) : Option (CtrBlock × Bool) :=
  let m := (c.minors[j]?).getD 0
  if m < 7 then some ({ c with minors := c.minors.set j (m + 1) }, false)
  else if c.major < 2 ^ 53 - 1 then some ({ major := c.major + 1, minors := List.replicate 128 0 }, true)
  else none

/-- A write of bytes at an offset of a line: its status, and the line under its next counter (R385, R387, R389). -/
def State.thaWrite (s : State) (e n off : Nat) (b : Bytes) : Nat × State :=
  let x := s.engine e
  let full := off == 0 && decide (64 ≤ b.length)
  if x.isFrozen n then (St.writeCounterEnd, s)
  else if x.isPoison n && !full then (St.memoryError, s)
  else
    match ((x.block (n / 128)).getD {}).next (n % 128) with
    | some (c, step) =>
      let old := x.line n
      let x := { x with
        blocks := setC none x.blocks (n / 128) (some c)
        poison := setC false x.poison n false
        rewriting := if step then x.rewriting ++ [n / 128] else x.rewriting }
      let x := (x.bumpTree n).putLine n (old.take off ++ b.take (64 - off) ++ old.drop (off + b.length))
      let gone := (s.engine e).isPoison n
      let s := s.setEngine e x
      (St.done, if gone then s.setF (Reg.THA_POISONED_LINES e) (s.getF (Reg.THA_POISONED_LINES e) - 1) else s)
    | none => (St.writeCounterEnd, s.freezeLine e n)

/-! ### Fixed regions (R382) -/

/-- The slot of the Barrow key cache a line holds. -/
def lineSlot (e n : Nat) : Option Nat := if n < 0x80000 then some (2 * n + e) else none

/-- The line of a statistics record. -/
def statLine (r : Nat) : Nat := 0x80000 + r

/-- A statistics record's line is poisoned (R355, R377). -/
def State.statBad (s : State) (g r : Nat) : Bool := (s.engine g).isPoison (statLine r)

/-- A statistics record's line is frozen (R387). -/
def State.statFrozen (s : State) (g r : Nat) : Bool := (s.engine g).isFrozen (statLine r)

end Sys2Proof.Machine
end

