-- ==== Sys2Proof/Machine/BarOps.lean ====
section
/-! DEFINITION. Barrow's shared operations: handles and their resolution (R296 to R302), slots (R294, R314), attribute records
(R301), invalidation (R312, R313), the policy tables (R229). -/

namespace Sys2Proof.Machine

/-! ### Handles (R212, R296) -/

/-- The fields of a key handle. -/
structure Handle where
  allot : Nat
  slot : Nat
  era : Nat
  use : Nat
  tier : Nat
  ktype : Nat
deriving DecidableEq, Repr

def Handle.ofNat (h : Nat) : Handle :=
  ⟨h / 2 ^ 53 % 2048, h / 2 ^ 29 % 2 ^ 24, h / 2 ^ 21 % 256, h / 2 ^ 13 % 256, h / 256 % 32, h % 256⟩

def Handle.toNat (h : Handle) : Nat :=
  h.allot * 2 ^ 53 + h.slot * 2 ^ 29 + (256 * h.era + h.use) * 2 ^ 13 + h.tier * 256 + h.ktype

/-- The slots of the DRAM key cache (R294). -/
def slotCount : Nat := 1048576

/-- Key types Barrow knows (R297). -/
def knownType (t : Nat) : Bool :=
  (decide (1 ≤ t) && decide (t ≤ 5)) || t == 8 || t == 0x20 || t == 0x21 || t == 0x22 || t == 0x23 || t == 0x24 || t == 0x30 || t == 0x31 ||
    t == 0x32 || t == 0x50 || (decide (0x40 ≤ t) && decide (t ≤ 0x4F))

/-- A tier of the tenant world. -/
def tenantTier (t : Nat) : Bool := t == 0x01 || t == 0x02

/-- A tier of a key-encryption key. -/
def kekTier (t : Nat) : Bool := t == 0x02 || t == 0x06

/-- The tier of a made key: key-encryption for usage K0 and K1, else working (R248). -/
def tierFor (steward kek : Bool) : Nat := if steward then (if kek then 0x06 else 0x05) else (if kek then 0x02 else 0x01)

/-! ### Attribute records (R301) -/

def attrUsage (a : Bytes) : Bytes := a.take 2
def attrAlg (a : Bytes) : Nat := byteAt a 2
def attrMode (a : Bytes) : Nat := byteAt a 3
def attrExport (a : Bytes) : Nat := byteAt a 4
def attrKvn (a : Bytes) : Bytes := slice a 5 2
def attrPaths (a : Bytes) : Nat := byteAt a 12

/-- ASCII letters the records use. -/
def letter (c : Char) : Nat := c.toNat

/-- Two ASCII characters. -/
def usage2 (a b : Char) : Bytes := [BitVec.ofNat 8 a.toNat, BitVec.ofNat 8 b.toNat]

/-- A key-encryption usage. -/
def isKek (u : Bytes) : Bool := u == usage2 'K' '0' || u == usage2 'K' '1'

/-- The bit of the present life-cycle state in LC (R301). -/
def State.lcBit (s : State) : Nat := if s.lc.st = 1 then 1 else if s.lc.st = 2 then 2 else 0

/-- The record of a key that Barrow makes (R301). -/
def State.mkAttr (s : State) (steward : Bool) (use : Bytes) (alg mode export_ : Nat) (kvn : Bytes) (ktype kbits valid : Nat) : Bytes :=
  use ++ le 1 alg ++ le 1 mode ++ le 1 export_ ++ kvn ++ le 1 ktype ++ le 2 kbits ++ le 1 0xFF ++ le 1 0x3E ++ le 1 0 ++
    le 1 (b2n steward) ++ le 1 s.lcBit ++ le 1 0 ++ le 4 valid ++ zeros 12

/-- The version number of a key that has none (R249). -/
def kvnNone : Bytes := [0x30, 0x30]

/-- The key type of a symmetric key from its algorithm letter and length; none where they do not agree (R268, R297). -/
def symType (alg klen : Nat) : Option Nat :=
  if alg = letter 'T' then (if klen = 16 then some 1 else if klen = 24 then some 2 else none)
  else if alg = letter 'A' then (if klen = 16 then some 3 else if klen = 24 then some 4 else if klen = 32 then some 5 else none)
  else if alg = letter 'H' then (if klen = 16 || klen = 24 || klen = 32 then some 8 else none)
  else none

/-- Whether the algorithm and mode suit a usage whose combinations the spec itself names (R227, R267, R289, R306); none for another usage. -/
def namedUse (use : Bytes) (alg mode : Nat) : Option Bool :=
  let m (l : List Char) : Bool := l.any (fun c => c.toNat == mode)
  let a (l : List Char) : Bool := l.any (fun c => c.toNat == alg)
  let u (x y : Char) : Bool := use == usage2 x y
  if u 'P' '0' || u 'K' '0' || u 'K' '1' then some (m ['B', 'D', 'E'] && a ['T', 'A'])
  else if u 'V' '1' || u 'V' '2' || u 'C' '0' || u 'M' '1' || u 'M' '3' then some (m ['C', 'G', 'V'] && a ['T'])
  else if u 'M' '6' then some (m ['C', 'G', 'V'] && a ['T', 'A'])
  else if u 'E' '0' || u 'B' '0' || u 'B' '1' then some (m ['X'] && a ['T', 'A'])
  else if u 'M' '7' then some (m ['C', 'G', 'V', 'X'] && a ['H'])
  else if u 'S' '0' then some (m ['S'] && (a ['R', 'E'] || alg == 0))
  else if u 'K' '3' then some (m ['X'] && (a ['E'] || alg == 0))
  else none

/-- A combination of usage, algorithm and mode: as the spec names it, and for a usage no rule names as the TR-31 tables allow (R247, R268,
log 30). -/
def tr31Ok (use : Bytes) (alg mode : Nat) : Bool := (namedUse use alg mode).getD (Config.tr31Allows use alg mode)

/-- A key type suits the algorithm R227 asks for under a usage: TDEA-2 for V1, V2, C0 and M3, and no TDEA-3 for E0 and B0 (R227, R243). -/
def typeSuits (use : Bytes) (t : Nat) : Bool :=
  let u (x y : Char) : Bool := use == usage2 x y
  if u 'V' '1' || u 'V' '2' || u 'C' '0' || u 'M' '3' then t == 1 else !(u 'E' '0' || u 'B' '0') || t != 2

/-- A derived-key block judged (R268): the key's type and length, or none. -/
def derivedBlock (b : Bytes) : Option (Nat × Nat) :=
  let use := b.take 2
  let alg := byteAt b 2
  let ex := byteAt b 4
  let klen := byteAt b 5
  if leAt b 6 2 = 0 && use != usage2 'K' '3' && use != usage2 'S' '0' && (ex = letter 'E' || ex = letter 'S' || ex = letter 'N') &&
      tr31Ok use alg (byteAt b 3) then (symType alg klen).map (fun t => (t, klen))
  else none

/-- The record of a key made from a derived-key block (R268, R301). -/
def State.derivedAttr (s : State) (steward : Bool) (b : Bytes) (ktype klen valid : Nat) : Bytes :=
  s.mkAttr steward (b.take 2) (byteAt b 2) (byteAt b 3) (byteAt b 4) kvnNone ktype (8 * klen) valid

/-! ### Resolution (R299, R302) -/

/-- A slot's chain is of an older generation, or its key-encryption key is gone or orphaned (R299, R312, R313). -/
def State.chainBroken (s : State) (p : Parent) : Bool :=
  match p with
  | .none => false
  | .master e gen => (s.master e).gen != gen
  | .kek k use =>
    let x := s.kslot k
    x.use != use || x.st == .free || x.st == .orphaned || (match x.parent with
      | .master e gen => (s.master e).gen != gen
      | _ => false)

/-- The handle has the form of R296, stands for the slot's present key and, from a tenant, is the tenant's own (R298, R299
outcome 1). -/
def State.handlePresent (s : State) (qid h : Nat) : Bool :=
  let f := Handle.ofNat h
  let x := s.kslot f.slot
  decide (h < 2 ^ 64) && decide (f.slot < slotCount) && (tenantTier f.tier || f.tier == 0x05 || f.tier == 0x06 || f.tier == 0x0A) &&
    knownType f.ktype && (tenantTier f.tier || f.allot == 0) && x.st != .free && f.era == s.root.era && f.use == x.use &&
    f.allot == x.allot && f.tier == x.tier && f.ktype == x.ktype && (isSteward qid || (f.allot == allotOf qid && tenantTier f.tier))

/-- The key in a slot, as a node takes it. -/
def KSlot.snap (x : KSlot) (slot : Nat) : KeySnap := ⟨slot, x.tier, x.ktype, x.key, x.attr, x.opt⟩

/-- The outcome of a resolution by a node of role `role` (R299, R302). KEY_RELEASE and KEY_INFO pass what R299 and R303 let pass. -/
def State.judgeHandle (s : State) (qid role opcode h : Nat) : KeyOut :=
  let f := Handle.ofNat h
  let x := s.kslot f.slot
  let a := x.attr
  let release := opcode == 0x0106
  if !s.handlePresent qid h then .fail St.keyAbsent
  else if !release && (x.st == .orphaned || s.chainBroken x.parent) then .fail St.keyOrphaned
  else if !release && x.st == .poisoned then .fail St.memoryError
  else if isSteward qid && tenantTier f.tier then .fail St.keyUseDenied
  else if release then .key (x.snap f.slot)
  else if !bit (byteAt a 10) (qid % 8) || !bit (byteAt a 11) role || byteAt a 13 != b2n (isSteward qid) ||
      (byteAt a 14 &&& s.lcBit) == 0 then .fail St.keyUseDenied
  else if x.st == .expired && opcode != 0x0108 then .fail St.keyUseDenied
  else .key (x.snap f.slot)

/-- The handle in a position of a descriptor. -/
def Descriptor.handle (d : Descriptor) (pos : Nat) : Nat := if pos = 0 then d.key0 else if pos = 1 then d.key1 else d.key2

/-- The key of a position as it was resolved. -/
def Graph.keyAt (gr : Graph) (pos : Nat) : Option KeyOut := (gr.keys[pos]?).getD none

/-- A position whose handle has no outcome yet. -/
def Graph.unresolved (gr : Graph) (pos : Nat) : Bool := gr.desc.handle pos != 0 && (gr.keyAt pos).isNone

/-- Count a resolution by the hot cache of a die or from DRAM, and keep the slot as the most recently used (R294, R300). -/
def State.hotTouch (s : State) (die slot : Nat) : State :=
  let l := if die = 0 then s.bar.hotE else s.bar.hotW
  let l' := (slot :: l.filter (fun k => k != slot)).take 8192
  let s := s.bump (if l.contains slot then Reg.BAR_HOT_HITS_COUNT else Reg.BAR_HOT_MISSES_COUNT)
  if die = 0 then { s with bar := { s.bar with hotE := l' } } else { s with bar := { s.bar with hotW := l' } }

/-- The units of a cell. -/
def State.units (s : State) (c : Nat) : CellUnits := getC {} s.drv.units c

def State.setUnits (s : State) (c : Nat) (u : CellUnits) : State := { s with drv := { s.drv with units := setC {} s.drv.units c u } }

/-- A cell that takes a symmetric key loads it into its lane, which holds one key at a time (R274, log 231). -/
def State.loadLane (s : State) (c : Nat) (k : KeySnap) : State :=
  if 1 ≤ k.ktype && k.ktype ≤ 5 then s.setUnits c { s.units c with lane := Lane.load (if k.ktype ≤ 2 then 0 else 1) k.key } else s

/-- Resolve one position for node `n` of a graph. -/
def State.resolvePos (s : State) (gr : Graph) (n pos : Nat) : Graph × State :=
  if gr.unresolved pos then
    let o := s.judgeHandle gr.qid (gr.tnode n).role gr.desc.opcode (gr.desc.handle pos)
    let s := match o with
      | .key k => (s.hotTouch (dieOf (gr.node n).cell) k.slot).loadLane (gr.node n).cell k
      | .fail _ => s
    ({ gr with keys := gr.keys.set pos (some o) }, s)
  else (gr, s)

/-- Resolve the handles of a descriptor together (R300). -/
def State.resolveAll (s : State) (gr : Graph) (n : Nat) : Graph × State :=
  let (gr, s) := s.resolvePos gr n 0
  let (gr, s) := s.resolvePos gr n 1
  s.resolvePos gr n 2

/-- A key a node took by position: its status, where it has no key there. -/
def Graph.key (gr : Graph) (pos : Nat) : KeyOut := (gr.keyAt pos).getD (.fail St.keyAbsent)

/-- Opcodes that make, load or save keys, or need a module key; with them, nodes wait for the recovery of R310. -/
def keyOpcode (x : Nat) : Bool :=
  (decide (0x0101 ≤ x) && decide (x ≤ 0x010B)) || (decide (0x0120 ≤ x) && decide (x ≤ 0x0122)) || x == 0x0180 || x == 0x0504 || x == 0x0601 ||
    x == 0x0701 || x == 0x0713 || (decide (0x0801 ≤ x) && decide (x ≤ 0x0803)) || x == 0x0A05 || (decide (0x0B00 ≤ x) && decide (x ≤ 0x0BFF)) ||
    (decide (0x0C00 ≤ x) && decide (x ≤ 0x0CFF)) || (decide (0x0F00 ≤ x) && decide (x ≤ 0x0FFF))

/-- Opcodes that meet a chain beyond the handles they present: they wait while an invalidation runs (R315). -/
def chainOpcode (x : Nat) : Bool := x == 0x0102 || x == 0x0103 || x == 0x0104 || x == 0x0105 || x == 0x0121

/-- A position's slot lies in a counter block that is rewritten, and the die of the graph's running node holds no copy of it (R294, R385). -/
def State.slotBusy (s : State) (gr : Graph) (pos : Nat) : Bool :=
  let k := (Handle.ofNat (gr.desc.handle pos)).slot
  gr.unresolved pos && (s.engine (k % 2)).rewriting.contains (k / 2 / 128) &&
    !(if gr.lastDie.getD 0 = 0 then s.bar.hotE else s.bar.hotW).contains k

/-- A node of the graph must wait: for the recovery of the root store (R310), for the engines that hold the DRAM key cache or a rewrite in them
(R385, R386), or for the end of an invalidation (R22). -/
def State.keyWait (s : State) (gr : Graph) : Bool :=
  let open_ := gr.unresolved 0 || gr.unresolved 1 || gr.unresolved 2
  s.slotBusy gr 0 || s.slotBusy gr 1 || s.slotBusy gr 2 ||
  ((open_ || keyOpcode gr.desc.opcode) &&
    !(s.isSet Reg.BAR_STATUS_ROOT_OPEN && s.isSet Reg.THA_STATUS_E_READY && s.isSet Reg.THA_STATUS_W_READY)) ||
    ((open_ || chainOpcode gr.desc.opcode) && s.isSet Reg.BAR_STATUS_INVALIDATING)

/-! ### Slots (R294, R314) -/

/-- A free slot: the first at or after a free value, since the spec names none (log 31). -/
def State.freeSlotAt (s : State) (v : Nat) : Option Nat :=
  ((List.range (s.bar.slots.length + 1)).map (fun i => (v + i) % slotCount)).find? (fun k => (s.kslot k).st == .free)

/-- The orphan that has waited longest. -/
def State.oldestOrphan (s : State) : Option Nat :=
  (s.bar.slots.foldl (fun (b : Option (Nat × Nat)) x =>
    if x.2.st == .orphaned then
      match b with
      | some (_, n) => if x.2.orphanNo < n then some (x.1, x.2.orphanNo) else b
      | none => some (x.1, x.2.orphanNo)
    else b) none).map Prod.fst

/-- The state of a slot as its line holds it. -/
def SlotSt.code : SlotSt → Nat
  | .free => 0
  | .live => 1
  | .expired => 2
  | .orphaned => 3
  | .poisoned => 4

/-- The 64 bytes a slot's line holds, whose layout the spec does not give (log 237). -/
def KSlot.bytes (x : KSlot) : Bytes := fit 64 (Config.derive 62 [le 1 x.st.code, le 1 x.use, x.attr, x.opt, x.key])

/-- Write a slot into its line of the DRAM key cache, in stack E for an even slot and W for an odd one (R294, R382): the line takes its next
counter, and a poisoned one is clean again (R385, R389). -/
def State.storeSlot (s : State) (k : Nat) (x : KSlot) : State := ((s.setKslot k x).thaWrite (k % 2) (k / 2) 0 x.bytes).2

/-- Free a slot: its use count rises by one, its validity timer goes and no hot cache keeps its copy (R294, R298, R303). -/
def State.freeKey (s : State) (k : Nat) : State :=
  let t := (s.storeSlot k { use := ((s.kslot k).use + 1) % 256 }).dropTimer (.keyExpiry k)
  { t with bar := { t.bar with hotE := t.bar.hotE.filter (fun x => x != k), hotW := t.bar.hotW.filter (fun x => x != k) } }

/-- Allocate a slot, reclaiming the orphan that has waited longest where none is free (R294, R314). None where there is neither. -/
def State.allocSlot (s : State) : Option (Nat × State) :=
  let (v, s) := s.free
  match s.freeSlotAt v with
  | some k => some (k, s)
  | none =>
    match s.oldestOrphan with
    | some k => some (k, ((s.freeKey k).setF Reg.BAR_EVENT_RECLAIM 1).bump Reg.BAR_RECLAIMS_COUNT)
    | none => none

/-- Record that a command met no free slot (R294). -/
def State.slotsFull (s : State) : State := (s.setF Reg.BAR_EVENT_SLOTS_FULL 1).post 0x6004 0 0 0

/-- Seconds of validity as a record gives them. -/
def attrValid (a : Bytes) : Nat := leAt a 16 4

/-- Make a key in a slot (R294, R301, R303, R307): its handle and the new state, or none where no slot or no timer is free, with
what that leaves. -/
def State.makeKey (s : State) (qid tier ktype : Nat) (attr key opt : Bytes) (parent : Parent) : Option Nat × State :=
  match s.allocSlot with
  | none => (none, s.slotsFull)
  | some (k, s) =>
    let a := if tenantTier tier then allotOf qid else 0
    let valid := attrValid attr
    let x : KSlot := {
      st := .live, use := (s.kslot k).use, allot := a, tier, ktype, attr, key, opt, parent
      expiry := if valid = 0 then 0 else s.cairn.opTime + 1000 * valid }
    let h := (Handle.mk a k s.root.era x.use tier ktype).toNat
    if valid = 0 then (some h, s.storeSlot k x)
    else
      match s.timer 1 (s.drv.tick + 1000000 * valid) (.keyExpiry k) with
      | (some t, _) => (some h, t.storeSlot k x)
      | (none, t) => (none, t)

/-- The parent of a key made in a world: its master (R293). -/
def State.worldParent (s : State) (qid : Nat) : Parent := .master (allotOf qid) (s.master (allotOf qid)).gen

/-- A slot whose DRAM line failed becomes POISONED (R318). -/
def State.poisonSlot (s : State) (k : Nat) : State :=
  let x := s.kslot k
  if x.st == .free || x.st == .poisoned then s
  else ((s.setKslot k { x with st := .poisoned }).setF Reg.BAR_EVENT_POISON 1).post 0x6003 0 0 k

/-! ### Invalidation (R312, R313) -/

/-- Orphan a slot: its key bytes are zeroed (R312). -/
def State.orphan (s : State) (k : Nat) : State :=
  let x := s.kslot k
  if x.st == .free || x.st == .orphaned then s
  else
    let s := { s with bar := { s.bar with orphanSeq := s.bar.orphanSeq + 1 } }
    (s.storeSlot k { x with st := .orphaned, key := [], orphanNo := s.bar.orphanSeq }).dropTimer (.keyExpiry k)

/-- Orphan every slot whose parent passes a test. -/
def State.orphanWhere (s : State) (p : Parent → Bool) : State :=
  (s.bar.slots.filterMap (fun x => if p x.2.parent then some x.1 else none)).foldl State.orphan s

/-- Begin an invalidation (R312). -/
def State.invalidate (s : State) (i : Inval) : State :=
  { s.setF Reg.BAR_STATUS_INVALIDATING 1 with bar := { s.bar with inval := s.bar.inval ++ [i] } }

/-- Raise the generation of a master entry by one, modulo 2^16. -/
def State.raiseGen (s : State) (e : Nat) : State := s.setMaster e { s.master e with gen := ((s.master e).gen + 1) % 65536 }

/-- Both hot caches drop every orphaned entry (R312). -/
def State.hotDrop (s : State) : State :=
  let keep (k : Nat) : Bool := (s.kslot k).st == .live
  { s with bar := { s.bar with hotE := s.bar.hotE.filter keep, hotW := s.bar.hotW.filter keep } }

/-- Give an allotment's slots back and clear its master entry, at the end of its removal (R147, R312). -/
def State.removeKeys (s : State) (a : Nat) : State :=
  let ks := s.bar.slots.filterMap (fun x => if x.2.st != .free && tenantTier x.2.tier && x.2.allot == a then some x.1 else none)
  let s := ks.foldl State.freeKey s
  s.setMaster a { gen := (s.master a).gen }

/-- One step of an invalidation: the passes over the DRAM key cache, then the hot caches (R312, R313). -/
def State.invalStep (s : State) : State :=
  match s.bar.inval with
  | [] => s
  | i :: rest =>
    let next (s : State) : State := { s with bar := { s.bar with inval := { i with pass := i.pass + 1 } :: rest } }
    let done (s : State) : State :=
      let s := s.hotDrop
      let s := { s with bar := { s.bar with inval := rest } }
      let s := match i.removing with
        | some a => s.removeKeys a
        | none => s
      s.setF Reg.BAR_STATUS_INVALIDATING (b2n (!rest.isEmpty))
    match i.root with
    | .master e =>
      if i.pass = 0 then
        next (s.orphanWhere (fun p => match p with
          | .master e' _ => e' == e
          | _ => false))
      else if i.pass = 1 then
        next (s.orphanWhere (fun p => match p with
          | .kek k u => (s.kslot k).st == .orphaned && (s.kslot k).use == u
          | _ => false))
      else done s
    | .kek k u =>
      if i.pass = 0 then next (s.orphanWhere (fun p => p == .kek k u)) else done s

/-! ### Module keys and the root (R296, R309) -/

/-- The SPDM ECDSA P-384 key, derived from the device root (R123, R296). -/
def State.spdmKey (s : State) : Bytes := fit 48 (Config.derive 1 [s.root.root.getD []])

/-- The slot of a module key of a type. -/
def State.moduleSlot (s : State) (ktype : Nat) : Option Nat :=
  (s.bar.slots.find? (fun x => x.2.tier == 0x0A && x.2.ktype == ktype && x.2.st == .live)).map Prod.fst

/-- Make a module key (R296). -/
def State.makeModule (s : State) (ktype : Nat) (attr key : Bytes) : State :=
  (s.makeKey stewardQ 0x0A ktype attr key [] .none).2

/-- Make the SPDM key, and the link master where the root store keeps one (R296, R373). -/
def State.makeModuleKeys (s : State) : State :=
  let s := s.makeModule 0x22 (s.mkAttr true (usage2 'S' '0') (letter 'E') (letter 'S') (letter 'N') kvnNone 0x22 384 0) s.spdmKey
  match s.root.linkMaster with
  | some k => s.makeModule 0x44 (s.mkAttr true (usage2 'K' '1') (letter 'A') (letter 'D') (letter 'N') kvnNone 0x44 256 0) k
  | none => s

/-- The DRAM key cache made anew: every slot freed, every use count 0 (R298). -/
def State.clearKeys (s : State) : State :=
  { s with
    bar := { s.bar with slots := [], hotE := [], hotW := [], inval := [] }
    drv := { s.drv with timers := s.drv.timers.filter (fun t => match t.owner with
      | .keyExpiry _ => false
      | _ => true) } }.setF Reg.BAR_STATUS_INVALIDATING 0

/-- The era rises by one (R298). -/
def State.raiseEra (s : State) : State := { s with root := { s.root with era := (s.root.era + 1) % 256 } }

/-- Draw a device root and with it an era, other than the one that was in force at a Swale-R (R298, R309, R310). -/
def State.drawRoot (s : State) : State :=
  let (k, s) := s.freeBytes 32
  let (v, s) := s.free
  let era := match s.bar.lastEra with
    | some e => (e + 1 + v % 255) % 256
    | none => v % 256
  { s with root := { s.root with root := some k, era }, bar := { s.bar with lastEra := none } }.post 0x6006 0 0 0

/-- Seed the custodian slots and the class table from the bale's section (R154). -/
def State.seedCustodians (s : State) : State :=
  let skip (e : Nat × Nat × Bytes) : Bool := e.2.1 == 2 && !s.lc.variant.hasPqc
  let cs := s.bale.content.custodians
  let gone := (cs.filter skip).map Prod.fst
  let s := (cs.filter (fun e => !skip e)).foldl (fun s e => s.setCus e.1 ⟨1, e.2.1, e.2.2⟩) s
  let s := s.bale.content.classes.foldl (fun s c => s.setCls c.1 ⟨gone.foldl clrBit c.2.1, c.2.2⟩) s
  gone.foldl (fun s k => s.post 0xD009 k 0 k) ({ s with root := { s.root with seeded := true } }.setF Reg.CUS_STATUS_SEEDED 1)

/-- The public key of an attestation key (R96, SLH-DSA-SHA2-128f). -/
def attPublic (sk : Bytes) : Bytes := fit 32 (Config.publicOf 0x51 sk)

/-- A new attestation key pair, a test pair outside Production: reported and recorded in the ledger (R100). -/
def State.newAttKey (s : State) : State :=
  let (k, s) := s.freeBytes 64
  let s := { s with root := { s.root with attKey := some k, attTest := s.lc.st != 2 } }
  (s.setF Reg.LCS_STATUS_ATT_NEW 1).ledgerAtt (attPublic k)

/-! ### Policy tables (R229) -/

/-- The narrowings in force for an allotment. -/
def State.narrows (s : State) (a : Nat) : List Narrow :=
  (s.bale.content.policy.filter (fun p => p.allot.isNone || p.allot == some a)).map Policy.what

/-- The tables narrow something for an allotment. -/
def State.narrowed (s : State) (a : Nat) (x : Narrow) : Bool := (s.narrows a).contains x

end Sys2Proof.Machine
end

