-- ==== Sys2Proof/Machine/Run.lean ====
section
/-! DEFINITION. How a command of the transaction model does its work in a node of its graph (R213, R216): what every opcode row
shares. The work of a command is one function of the graph's input, keys and the state; its persistent effects, its output and its
random draws come about at the commit point, in the sink. -/

namespace Sys2Proof.Machine

/-- What the work of a command gives: a status, an output, the state with its persistent effects, and whether the node came as far
as its key handles (step 2 of R226). With `stall` set the node has no status yet: its read of random numbers stalls (R330). With `wait` set the sink
has none either: it waits for something outside its graph and its work is done again later; with `verify` it waits for an ML-DSA-65 signature,
whose verification is a further node (R162). `drew` holds the random bytes it drew, with the state right after the draw (R261). -/
structure OpRes where
  status : Nat
  out : Bytes := []
  st : State
  keyed : Bool := true
  stall : Bool := false
  wait : Bool := false
  verify : Bool := false
  drew : Option (Bytes × State) := none

/-- The work of a command on its graph, whose handles are resolved. -/
abbrev OpWork := Graph → State → OpRes

def OpRes.ok (s : State) (out : Bytes := []) : OpRes := { status := St.done, out, st := s }

/-- A refusal: the status, with what state the refusal itself leaves (a count, a record). -/
def OpRes.fail (s : State) (x : Nat) : OpRes := { status := x, st := s }

/-- A failure of the form of the input, before any handle is resolved (step 1 of R226). -/
def OpRes.form (s : State) (x : Nat) : OpRes := { status := x, st := s, keyed := false }

/-- The node of its template that runs in a graph and whose work has no outcome yet. -/
def State.openNode (s : State) (g : Nat) : Option Nat :=
  match s.graph g with
  | some gr =>
    (List.range gr.tpl.nodes.length).find? (fun n =>
      (gr.node n).verdict.isNone && (match (gr.node n).phase with
        | .placed k => (match s.slot k with
          | some e => e.mode == .running && e.work == .node g n
          | none => false)
        | _ => false))
  | none => none

/-- Do the work of a command in the node that runs. Past its deadline an uncommitted graph does none: its timer has acted (R184). The node waits
where its keys do (R22, R310). A node before the sink keeps no effect but the keys it resolved (R228) and the random bytes it drew, which the
graph holds for every later run (R261); the sink commits the effects (R216). A success whose output exceeds the descriptor's OUT_LEN ends with
BAD_LENGTH (R231). -/
def State.runOp (s : State) (opcode g : Nat) (work : OpWork) : State :=
  match s.graph g, s.openNode g with
  | some gr0, some n =>
    if gr0.desc.opcode = opcode && !gr0.committed && gr0.input.isSome && decide (s.drv.tick ≤ gr0.deadline) && !s.keyWait gr0 then
      let (gr, s1) := s.resolveAll gr0 n
      let r := work gr s1
      let x := if okStatus r.status && decide (gr.desc.outLen < r.out.length) then St.badLength else r.status
      let (kept, s2) := match r.drew with
        | some (b, t) => ({ gr with drawn := b }, t)
        | none => (gr, s1)
      let put (t : State) (gr : Graph) : State := t.setGraph g (some (gr.setNode n { gr.node n with verdict := some x }))
      if r.stall then (s1.setGraph g (some gr)).stall (.node g)
      else if r.wait && n == gr.sink then
        let t := r.st.setGraph g (some kept)
        if r.verify && gr.nodes.length = gr.tpl.nodes.length then t.addVerify g else t
      else if okStatus x then
        if n = gr.sink then put (r.st.unstall (.node g)) { gr with committed := true, out := r.out } else put (s2.unstall (.node g)) kept
      else if !r.keyed then put s gr0
      else put (if okStatus r.status then s1 else r.st) gr
    else s
  | _, _ => s

/-- Wait for something outside the graph (R437, R439, R441). -/
def OpRes.waiting (s : State) : OpRes := { status := St.done, st := s, wait := true }

/-- Wait for the verification of an ML-DSA-65 signature in a node of the graph (R162). -/
def OpRes.verifying (s : State) : OpRes := { status := St.done, st := s, wait := true, verify := true }

/-- The input of a graph, once it has arrived. -/
def Graph.inp (gr : Graph) : Bytes := gr.input.getD []

/-- The client of Skylark a graph's running node stands for: the meadow of its cell (R328). -/
def State.clientOf (s : State) (gr : Graph) : Nat :=
  match s.openNode gr.order with
  | some n => meadowOf (gr.node n).cell
  | none => 9

/-- Go on with the key of a position, or end with the status its resolution had (step 2 of R226). -/
def Graph.withKey (gr : Graph) (s : State) (pos : Nat) (f : KeySnap → OpRes) : OpRes :=
  match gr.key pos with
  | .fail x => .fail s x
  | .key k => f k

/-- Go on where a key has the mode, then the usage and the algorithm a command requires (R227). -/
def KeySnap.require (k : KeySnap) (s : State) (modes : List Char) (uses : List Bytes) (types : List Nat) (f : OpRes) : OpRes :=
  if !modes.any (fun c => c.toNat == attrMode k.attr) then .fail s St.keyUseDenied
  else if !uses.contains (attrUsage k.attr) || !types.contains k.ktype then .fail s St.keyAttrMismatch
  else f

/-- Go on with `n` random bytes: those the node drew before (R261), or fresh ones; without them the node stalls (R330). -/
def Graph.withDraw (gr : Graph) (s : State) (n : Nat) (f : Bytes → State → OpRes) : OpRes :=
  if n ≤ gr.drawn.length then f (gr.drawn.take n) s
  else
    match s.draw (s.clientOf gr) n with
    | some (b, t) => { f b t with drew := some (b, t) }
    | none => { status := St.entropyUnavailable, st := s, stall := true }

/-- End with additional data and a message sealed behind them by AES-GCM, or with COUNTER_EXHAUSTED where the counter stream refuses its job
(R276, R277). -/
def OpRes.sealed (s : State) (key nonce head b : Bytes) : OpRes :=
  match gcmTry key nonce head b with
  | some c => .ok s (head ++ c)
  | none => .fail s St.counterExhausted

/-- Make a key and go on with its handle, or end with BUSY (R294, R303). -/
def State.withKeyMade (s : State) (gr : Graph) (tier ktype : Nat) (attr key : Bytes) (opt : Bytes) (parent : Parent)
    (f : Bytes → State → OpRes) : OpRes :=
  match s.makeKey gr.qid tier ktype attr key opt parent with
  | (some h, t) => f (le 8 h) t
  | (none, t) => .fail t St.busy

end Sys2Proof.Machine
end

