-- ==== Sys2Proof/Machine/Barrow.lean ====
section
/-! DEFINITION. Barrow's commands and events (spec/14). -/

namespace Sys2Proof.Machine

/-! ### Resolution and events -/

/-- Barrow completes the resolution of one handle for the node that runs (R299); it waits where R22 and R310 make it wait. -/
def State.keyResolve (s : State) (g pos : Nat) : State :=
  match s.graph g, s.openNode g with
  | some gr, some n =>
    if s.keyWait gr || gr.committed then s
    else
      let (gr, s) := s.resolvePos gr n pos
      s.setGraph g (some gr)
  | _, _ => s

def execKeyResolve (g pos : Nat) (s : State) : Res := .next (s.whenLive (fun s => s.keyResolve g pos))

/-- A pass over the DRAM key cache completes (R312). -/
def execInvalidationPass (s : State) : Res := .next (s.whenLive State.invalStep)

/-- The validity timer of a slot falls due (R303). -/
def State.keyExpire (s : State) (k : Nat) : State :=
  if s.isDue (.keyExpiry k) then
    let s := s.dropTimer (.keyExpiry k)
    let x := s.kslot k
    if x.st == .live then s.storeSlot k { x with st := .expired } else s
  else s

def execKeyValidityExpire (slot : Nat) (s : State) : Res := .next (s.whenLive (fun s => s.keyExpire slot))

/-- The recovery of the root store after a Swale-R with VIN present (R310). It draws from Barrow's recovery instance (R328). -/
def State.rootRecovered (s : State) : State :=
  if s.bar.recovering then
    match s.draw 10 48 with
    | none => s
    | some (_, t) =>
      let t := t.drawRoot.setF Reg.BAR_EVENT_ERA_CHANGE 1
      let t := { t with root := { t.root with wcntA := getC 0 t.bale.flashCnt 0, wcntB := getC 0 t.bale.flashCnt 1 } }
      let t := (t.seedCustodians.newAttKey).makeModuleKeys
      ({ t with bar := { t.bar with recovering := false } }.setF Reg.BAR_STATUS_ROOT_OPEN 1).setF Reg.BAR_STATUS_ROOT_NEW 1
  else s

def execRootRecoveryComplete (s : State) : Res := .next (s.whenLive State.rootRecovered)

/-! ### Making keys -/

/-- KEY_GENERATE (R319). -/
def keyGenerate : OpWork := fun gr s =>
  let b := gr.inp
  let tier := byteAt b 1
  let st := isSteward gr.qid
  if b.length ≠ 16 then .form s St.badLength
  else if leAt b 2 2 ≠ 0 then .form s St.badOperand
  else
    match derivedBlock (slice b 4 8) with
    | none => .form s St.badOperand
    | some (t, klen) =>
      if t ≠ byteAt b 0 then .form s St.badOperand
      else if !(tier == 0x01 || tier == 0x02 || tier == 0x05 || tier == 0x06) || kekTier tier != isKek (slice b 4 2) then .form s St.badOperand
      else if tenantTier tier == st then .form s St.keyUseDenied
      else gr.withDraw s klen (fun k s =>
        s.withKeyMade gr tier t (s.derivedAttr st (slice b 4 8) t klen (leAt b 12 4)) k [] (s.worldParent gr.qid) (fun h s => .ok s h))

def execKeyGenerate (g : Nat) (s : State) : Res := .next (s.whenLive (fun s => s.runOp 0x0101 g keyGenerate))

/-! ### Stored key blocks (R305 to R307) -/

/-- A stored key block up to its wrapped key (R305). -/
def storedHead (k : KeySnap) (id : Bytes) (gen parent : Nat) (pid iv : Bytes) : Bytes :=
  magic 0x45 0x5A 0x4B 0x42 ++ le 2 1 ++ le 2 (0x60 + k.opt.length + k.key.length) ++ fit 8 id ++ le 2 gen ++ le 1 k.tier ++ le 1 parent ++
    fit 8 pid ++ zeros 4 ++ fit 32 k.attr ++ fit 12 iv ++ le 2 k.opt.length ++ le 2 k.key.length ++ k.opt

/-- The length of the block of a key. -/
def storedLen (k : KeySnap) : Nat := 0x60 + k.opt.length + k.key.length

/-- Save a key under a parent key (R306): refused where its chain was invalidated meanwhile (R315), or its world holds no master
(log 32). -/
def saveUnder (gr : Graph) (s : State) (k : KeySnap) (parent : Nat) (pid pk : Bytes) : OpRes :=
  let e := allotOf gr.qid
  let m := s.master e
  let x := s.kslot k.slot
  if gr.desc.outLen < storedLen k then .fail s St.badLength
  else if x.st == .orphaned || s.chainBroken x.parent || !m.present then .fail s St.keyOrphaned
  else gr.withDraw s 12 (fun iv s =>
    let head := storedHead k m.id m.gen parent pid iv
    OpRes.sealed s (storeKey pk m.gen k.tier) iv head k.key)

/-- KEY_SAVE (R305, R306): module keys cannot be saved. -/
def keySave : OpWork := fun gr s =>
  gr.withKey s 0 (fun k =>
    if k.tier = 0x0A then .fail s St.keyUseDenied
    else saveUnder gr s k 0 (zeros 8) (s.master (allotOf gr.qid)).key)

def execKeySave (g : Nat) (s : State) : Res := .next (s.whenLive (fun s => s.runOp 0x0102 g keySave))

/-- The CMAC check value of a key (R316). -/
def cmacCheck (k : KeySnap) : Bytes :=
  let alg := if k.ktype ≤ 2 then 0 else 1
  cmac alg k.key (zeros (bsize alg))

/-- KEY_SAVE_UNDER (R306): KEY0 a working key, KEY1 an AES-256 key of usage K0 and mode E or B. -/
def keySaveUnder : OpWork := fun gr s =>
  if gr.desc.key0 = gr.desc.key1 then .form s St.badOperand
  else gr.withKey s 0 (fun k =>
    if k.tier = 0x0A then .fail s St.keyUseDenied
    else if kekTier k.tier then .fail s St.keyAttrMismatch
    else gr.withKey s 1 (fun p =>
      p.require s ['E', 'B'] [usage2 'K' '0'] [5] (saveUnder gr s k 1 ((cmacCheck p).take 8) p.key)))

def execKeySaveUnder (g : Nat) (s : State) : Res := .next (s.whenLive (fun s => s.runOp 0x0103 g keySaveUnder))

/-- The form of a stored key block (R307 step 1): none where it is sound, else the status. -/
def storedForm (b : Bytes) (parent : Nat) : Option Nat :=
  let tier := byteAt b 0x12
  let optLen := leAt b 0x4C 2
  let keyLen := leAt b 0x4E 2
  if b.length < 0x60 then some St.badOperand
  else if b.take 4 ≠ magic 0x45 0x5A 0x4B 0x42 || leAt b 4 2 ≠ 1 || byteAt b 0x13 ≠ parent || leAt b 0x1C 4 ≠ 0 || 64 < optLen || keyLen < 16 ||
      4032 < keyLen || !(tier == 0x01 || tier == 0x02 || tier == 0x05 || tier == 0x06) || leAt b 6 2 ≠ 0x60 + optLen + keyLen ||
      (parent = 0 && !allZero (slice b 0x14 8)) || (parent = 1 && kekTier tier) then some St.badOperand
  else if leAt b 6 2 ≠ b.length then some St.lengthMismatch
  else none

/-- Checks 3 to 6 of R307, and the slot. -/
def loadUnder (gr : Graph) (s : State) (b pk : Bytes) (parent : Parent) : OpRes :=
  let m := s.master (allotOf gr.qid)
  let gen := leAt b 0x10 2
  let tier := byteAt b 0x12
  let optLen := leAt b 0x4C 2
  let attr := slice b 0x20 32
  if !m.present || m.id ≠ slice b 8 8 || m.gen ≠ gen then .fail s St.keyOrphaned
  else
    match gcmOpen (storeKey pk gen tier) (slice b 0x40 12) (b.take (0x50 + optLen)) (b.drop (0x50 + optLen)) with
    | none => .fail s St.verifyFailed
    | some k =>
      if byteAt attr 14 &&& s.lcBit = 0 then .fail s St.keyUseDenied
      else s.withKeyMade gr tier (byteAt attr 7) attr (fit (leAt b 0x4E 2) k) (slice b 0x50 optLen) parent (fun h s => .ok s h)

/-- KEY_LOAD (R307). -/
def keyLoad : OpWork := fun gr s =>
  let b := gr.inp
  match storedForm b 0 with
  | some x => .form s x
  | none =>
    if tenantTier (byteAt b 0x12) == isSteward gr.qid then .form s St.keyUseDenied
    else loadUnder gr s b (s.master (allotOf gr.qid)).key (s.worldParent gr.qid)

def execKeyLoad (g : Nat) (s : State) : Res := .next (s.whenLive (fun s => s.runOp 0x0104 g keyLoad))

/-- KEY_LOAD_UNDER (R307): the parent of usage K0 and mode D or B, its check value against PARENT_ID. -/
def keyLoadUnder : OpWork := fun gr s =>
  let b := gr.inp
  match storedForm b 1 with
  | some x => .form s x
  | none =>
    if tenantTier (byteAt b 0x12) == isSteward gr.qid then .form s St.keyUseDenied
    else gr.withKey s 0 (fun p =>
      p.require s ['D', 'B'] [usage2 'K' '0'] [5]
        (if slice b 0x14 8 ≠ (cmacCheck p).take 8 then .fail s St.verifyFailed
         else loadUnder gr s b p.key (.kek p.slot (s.kslot p.slot).use)))

def execKeyLoadUnder (g : Nat) (s : State) : Res := .next (s.whenLive (fun s => s.runOp 0x0105 g keyLoadUnder))

/-! ### Release, restriction, information -/

/-- KEY_RELEASE (R299, R313): the slot is freed; the children of a key-encryption key are orphaned. -/
def keyRelease : OpWork := fun gr s =>
  gr.withKey s 0 (fun k =>
    if !s.handlePresent gr.qid gr.desc.key0 then .fail s St.keyAbsent
    else
      let use := (s.kslot k.slot).use
      let s := s.freeKey k.slot
      .ok (if kekTier k.tier then s.invalidate { root := .kek k.slot use, g := some gr.order } else s))

def execKeyRelease (g : Nat) (s : State) : Res := .next (s.whenLive (fun s => s.runOp 0x0106 g keyRelease))

/-- A mode of use that equals the old one or narrows it (R250). -/
def narrowsMode (old new : Nat) : Bool :=
  new == old || (old == letter 'B' && (new == letter 'E' || new == letter 'D')) || (old == letter 'C' && (new == letter 'G' || new == letter 'V'))

/-- An exportability that equals the old one or narrows it (R250). -/
def narrowsExport (old new : Nat) : Bool :=
  new == old || (old == letter 'E' && (new == letter 'S' || new == letter 'N')) || (old == letter 'S' && new == letter 'N')

/-- A mask that is a subset of the old one. -/
def subMask (old new : Nat) : Bool := new &&& old == new

/-- Seconds left of a slot's validity, rounded down (log 33). -/
def State.secondsLeft (s : State) (x : KSlot) : Nat := (x.expiry - s.cairn.opTime) / 1000

/-- KEY_RESTRICT (R304). -/
def keyRestrict : OpWork := fun gr s =>
  let b := gr.inp
  if b.length ≠ 12 then .form s St.badLength
  else if leAt b 6 2 ≠ 0 then .form s St.badOperand
  else gr.withKey s 0 (fun k =>
    let x := s.kslot k.slot
    let a := x.attr
    let pick (o i keep : Nat) : Nat := if byteAt b i = keep then byteAt a o else byteAt b i
    let mode := pick 3 0 0
    let ex := pick 4 1 0
    let qp := pick 10 2 0
    let roles := pick 11 3 0
    let paths := pick 12 4 0xFF
    let lc := pick 14 5 0
    let left := leAt b 8 4
    let newExp := s.cairn.opTime + 1000 * left
    if !s.handlePresent gr.qid gr.desc.key0 then .ok s
    else if !narrowsMode (attrMode a) mode || !narrowsExport (attrExport a) ex || !subMask (byteAt a 10) qp || !subMask (byteAt a 11) roles ||
        !subMask (byteAt a 12) paths || !subMask (byteAt a 14) lc || (left ≠ 0 && x.expiry ≠ 0 && x.expiry < newExp) then
      .fail s St.policyRefused
    else
      let valid := if left = 0 then attrValid a else left
      let a' := a.take 3 ++ le 1 mode ++ le 1 ex ++ slice a 5 5 ++ le 1 qp ++ le 1 roles ++ le 1 paths ++ slice a 13 1 ++ le 1 lc ++ slice a 15 1 ++
        le 4 valid ++ a.drop 20
      if left = 0 then .ok (s.storeSlot k.slot { x with attr := a' })
      else
        match (s.dropTimer (.keyExpiry k.slot)).timer 1 (s.drv.tick + 1000000 * left) (.keyExpiry k.slot) with
        | (some t, _) => .ok (t.storeSlot k.slot { x with attr := a', expiry := newExp })
        | (none, t) => .fail t St.busy)

def execKeyRestrict (g : Nat) (s : State) : Res := .next (s.whenLive (fun s => s.runOp 0x0107 g keyRestrict))

/-- KEY_INFO (R319). -/
def keyInfo : OpWork := fun gr s =>
  gr.withKey s 0 (fun k =>
    let x := s.kslot k.slot
    let kind := match x.parent with
      | .master _ _ => 0
      | .kek _ _ => 1
      | .none => 2
    .ok s (k.attr ++ le 1 (if x.st == .expired then 2 else 1) ++ le 1 k.tier ++ le 1 kind ++ le 1 0 ++ le 4 (s.secondsLeft x) ++
      le 2 k.opt.length ++ k.opt))

def execKeyInfo (g : Nat) (s : State) : Res := .next (s.whenLive (fun s => s.runOp 0x0108 g keyInfo))

/-- The parameter set of a private key (R255, R297). -/
def setOfType (ktype kbits : Nat) : Option Nat :=
  if ktype = 0x20 then some (1 + (kbits - 2048) / 512)
  else if ktype = 0x21 then some 0x20 else if ktype = 0x22 then some 0x21 else if ktype = 0x23 then some 0x28
  else if ktype = 0x24 then some 0x29 else if ktype = 0x30 then some 0x40 else if ktype = 0x31 then some 0x41
  else if ktype = 0x32 then some 0x48 else none

/-- The length of the public key of a set, as PK_KEYGEN and PQ_KEYGEN write it (R255, R269, R270). -/
def publicLen (set : Nat) : Nat :=
  if 1 ≤ set && set ≤ 5 then (2048 + 512 * (set - 1)) / 8
  else if set = 0x20 then 65 else if set = 0x21 then 97 else if set = 0x28 || set = 0x29 then 32
  else if set = 0x40 then 1184 else if set = 0x41 then 1568 else if set = 0x48 then 1952 else 32

/-- The public key of a private key. -/
def publicKey (set : Nat) (sk : Bytes) : Bytes := fit (publicLen set) (Config.publicOf set sk)

/-- KEY_PUBLIC (R319). -/
def keyPublic : OpWork := fun gr s =>
  gr.withKey s 0 (fun k =>
    match setOfType k.ktype (leAt k.attr 8 2) with
    | some set => .ok s (publicKey set k.key)
    | none => .fail s St.keyAttrMismatch)

def execKeyPublic (g : Nat) (s : State) : Res := .next (s.whenLive (fun s => s.runOp 0x0109 g keyPublic))

/-- The full check value of a key by method 0x00 or 0x01 (R316). -/
def checkValue (method : Nat) (k : KeySnap) : Bytes :=
  let alg := if k.ktype ≤ 2 then 0 else 1
  if method = 0 then encB alg k.key (zeros (bsize alg)) else cmacCheck k

/-- KEY_CHECK_VALUE (R316). -/
def keyCheckValue : OpWork := fun gr s =>
  let b := gr.inp
  let l := byteAt b 1
  if b.length ≠ 4 then .form s St.badLength
  else if 1 < byteAt b 0 || l < 2 || 8 < l || leAt b 2 2 ≠ 0 then .form s St.badOperand
  else if gr.desc.outLen < l then .form s St.badLength
  else gr.withKey s 0 (fun k =>
    if k.ktype = 0 || 5 < k.ktype then .fail s St.keyAttrMismatch
    else if s.narrowed (allotOf gr.qid) .kcvMax3 && 3 < l then .fail s St.policyRefused
    else .ok s ((checkValue (byteAt b 0) k).take l))

def execKeyCheckValue (g : Nat) (s : State) : Res := .next (s.whenLive (fun s => s.runOp 0x010A g keyCheckValue))

/-- The proof-of-possession key (R317). -/
def popKey (k : KeySnap) : Bytes :=
  let src := if k.ktype ≤ 8 then k.key else sha256 k.key
  hmac 1 src (ascii [0x45, 0x5A, 0x38, 0x2D, 0x50, 0x4F, 0x50, 0x00] ++ le 1 k.ktype)

/-- KEY_PROVE (R317). -/
def keyProve : OpWork := fun gr s =>
  let b := gr.inp
  let n := byteAt b 0
  if n < 16 || 64 < n || leAt b 1 3 ≠ 0 then .form s St.badOperand
  else if b.length ≠ 4 + n then .form s St.lengthMismatch
  else gr.withKey s 0 (fun k =>
    if 8 < k.ktype && (setOfType k.ktype (leAt k.attr 8 2)).isNone then .fail s St.keyAttrMismatch
    else .ok s (hmac 1 (popKey k) (b.drop 4)))

def execKeyProve (g : Nat) (s : State) : Res := .next (s.whenLive (fun s => s.runOp 0x010B g keyProve))

/-! ### Masters (R311, R312) -/

/-- The master entry an input names; none where it names none. -/
def masterEntry (b : Bytes) : Option Nat :=
  let a := leAt b 0 2
  if a = 0xFFFF then some 2048 else if a < 2048 then some a else none

/-- The answer of a master command (R319). -/
def masterAnswer (m : Master) (state : Nat) : Bytes := fit 8 m.id ++ le 2 m.gen ++ le 1 state ++ zeros 5

/-- What the master commands check before they act (R319). -/
def withMaster (gr : Graph) (s : State) (f : Nat → OpRes) : OpRes :=
  let b := gr.inp
  if !isSteward gr.qid then .form s St.accessDenied
  else if b.length ≠ 4 then .form s St.badLength
  else if leAt b 2 2 ≠ 0 then .form s St.badOperand
  else match masterEntry b with
    | some e => f e
    | none => .form s St.badOperand

/-- MASTER_CREATE (R311). -/
def masterCreate : OpWork := fun gr s =>
  withMaster gr s (fun e =>
    let st := (s.allot e).st
    if (s.master e).present || (e ≠ 2048 && st != .active && st != .quiesced) then .fail s St.stateConflict
    else gr.withDraw s 32 (fun k s =>
      let m : Master := { present := true, gen := ((s.master e).gen + 1) % 65536, id := (cmac 1 k (zeros 16)).take 8, key := k }
      .ok ((s.setMaster e m).post 0x6001 e 0 e) (masterAnswer m 0)))

def execMasterCreate (g : Nat) (s : State) : Res := .next (s.whenLive (fun s => s.runOp 0x0120 g masterCreate))

/-- MASTER_INVALIDATE (R312). -/
def masterInvalidate : OpWork := fun gr s =>
  withMaster gr s (fun e =>
    let m := s.master e
    if !m.present then .fail s St.stateConflict
    else if m.gen = 0xFFFF then .fail s St.counterExhausted
    else
      let s := s.raiseGen e
      .ok ((s.invalidate { root := .master e, g := some gr.order }).post 0x6002 e 0 e) (masterAnswer (s.master e) 0))

def execMasterInvalidate (g : Nat) (s : State) : Res := .next (s.whenLive (fun s => s.runOp 0x0121 g masterInvalidate))

/-- MASTER_STATUS (R319). -/
def masterStatus : OpWork := fun gr s =>
  withMaster gr s (fun e => .ok s (masterAnswer (s.master e) (b2n (s.master e).present)))

def execMasterStatus (g : Nat) (s : State) : Res := .next (s.whenLive (fun s => s.runOp 0x0122 g masterStatus))

end Sys2Proof.Machine
end

