-- ==== Sys2Proof/Machine/FurOps.lean ====
section
/-! DEFINITION. Furrow's shared operations (spec/16, spec/17): ports and groups, classification, statistics, the protection of a
frame, associations and switches, the frames under way. -/

namespace Sys2Proof.Machine

/-! ### Ports and groups -/

/-- The index of a port's registers: 16 × side + port; side 0 near, 1 far. -/
def pix (side port : Nat) : Nat := 16 * side + port

def State.pgState (s : State) (g : Nat) : Nat := s.getF (Reg.FUR_PG_STAT_STATE g)

/-- Lanes of a port of a mode (R336). -/
def lanesOf (mode : Nat) : Nat := if mode = 0 then 8 else if mode = 1 then 4 else if mode = 2 then 2 else 1

/-- A port exists in the mode in force of its group (R336, R353). -/
def State.portExists (s : State) (p : Nat) : Bool :=
  decide (p < 16) && s.lc.variant.hasFurrow && p % lanesOf (s.getF (Reg.FUR_PG_STAT_MODE (p / 8))) == 0

/-- The ports of a group. -/
def groupPorts (g : Nat) : List Nat := (List.range 8).map (fun i => 8 * g + i)

/-- Put a group into a state; `FUR_GLB_STATUS`, the ports' Local Fault and the end of their training follow (R350, R357). -/
def State.setPg (s : State) (g st : Nat) : State :=
  let s := (s.setF (Reg.FUR_PG_STAT_STATE g) st).setFBit Reg.FUR_GLB_STATUS_RUNNING g (st == 0)
  let fault := b2n (st == 3 || st == 5)
  (groupPorts g).foldl (fun s p =>
    if s.portExists p then
      ([pix 0 p, pix 1 p] : List Nat).foldl (fun (s : State) i =>
        let s := s.setF (Reg.FUR_PORT_STAT_LOCAL_FAULT i) fault
        if fault = 1 then s.setF (Reg.FUR_PORT_STAT_TRAINING i) 0 else s) s
    else s) s

/-- The ports of a group train their links where its electrical mode asks for it (R337, R352). -/
def State.trainPorts (s : State) (g : Nat) : State :=
  let k := s.getF (Reg.FUR_PG_CFG_KR g)
  (groupPorts g).foldl (fun s p =>
    if s.portExists p then (s.setF (Reg.FUR_PORT_STAT_TRAINING (pix 0 p)) k).setF (Reg.FUR_PORT_STAT_TRAINING (pix 1 p)) k else s) s

/-- The result of a command or a refused write of a group (R351). -/
def State.pgResult (s : State) (g x : Nat) : State := (s.setF (Reg.FUR_PG_STAT_RESULT g) x).setF (Reg.FUR_PG_STAT_IN_PROGRESS g) 0

/-- The 64-bit octet counts behind `FUR_PORT_RX_OCT` and `FUR_PORT_TX_OCT` (R357). -/
def rxOct (i : Nat) : Fld := ⟨0x4000000 + 8 * i, 0, 64⟩
def txOct (i : Nat) : Fld := ⟨0x4001000 + 8 * i, 0, 64⟩

/-- Send a frame out of a port (R343). -/
def State.sendFrame (s : State) (side port : Nat) (data : Bytes) (ok : Bool) : State :=
  ((s.bump (Reg.FUR_PORT_TX_FRAMES_COUNT (pix side port))).addF (txOct (pix side port)) (data.length + 4)).emit
    (.frame side port data ok)

/-! ### Classification (R339 to R341) -/

/-- The big-endian number of `n` octets of a frame at an offset. -/
def beAt (b : Bytes) (o n : Nat) : Nat := beNat (slice b o n)

/-- An EtherType of a tag (R339). -/
def isTag (x : Nat) : Bool := x == 0x8100 || x == 0x88A8

/-- The number of outer tags of a frame, at most two. -/
def tagCount (b : Bytes) : Nat := if isTag (beAt b 12 2) then (if isTag (beAt b 16 2) then 2 else 1) else 0

/-- The EtherType that follows the outer tags. -/
def etherType (b : Bytes) : Nat := beAt b (12 + 4 * tagCount b) 2

/-- The outer tag's TCI; zero with no tag. -/
def outerTci (b : Bytes) : Nat := if tagCount b = 0 then 0 else beAt b 14 2

/-- The indexes of the entries of an array whose VALID bit, the lowest bit of its first dword, is 1: `base` is the byte offset of the
array and `stride` that of its entries. -/
def State.validIn (s : State) (base stride count : Nat) : List Nat :=
  s.regs.filterMap (fun x =>
    let d := x.1 - 8 * base
    if 8 * base ≤ x.1 && d % (8 * stride) = 0 && d / (8 * stride) < count && x.2 = 1 then some (d / (8 * stride)) else none)

/-- The valid rules of a group, in order. -/
def State.validRules (s : State) (g : Nat) : List Nat :=
  ((s.validIn 0x640000 0x20 16384).filter (fun i => i / 8192 == g))

/-- The valid channels, in order. -/
def State.validChannels (s : State) : List Nat := s.validIn 0x800000 0x40 16384

/-- Whether `v` equals a rule's value under its mask. -/
def masked (v val mask : Nat) : Bool := (v &&& mask) == (val &&& mask)

/-- Whether a valid rule matches a frame that arrives on port `p` in direction `dir` (R341). -/
def State.ruleMatches (s : State) (i dir p : Nat) (b : Bytes) : Bool :=
  let tags := s.getF (Reg.FUR_RULE_DW0_TAGS i)
  s.getF (Reg.FUR_RULE_DW0_DIR i) == dir && bit (s.getF (Reg.FUR_RULE_DW0_PORT_MASK i)) (p % 8) &&
    (tags == 3 || tags == tagCount b) &&
    masked (outerTci b) (s.getF (Reg.FUR_RULE_DW1_TCI i)) (s.getF (Reg.FUR_RULE_DW1_TCI_MASK i)) &&
    masked (etherType b) (s.getF (Reg.FUR_RULE_DW2_ETYPE i)) (s.getF (Reg.FUR_RULE_DW2_ETYPE_MASK i)) &&
    masked (leAt b (s.getF (Reg.FUR_PG_CFG_FLOW_OFF (p / 8))) 4) (s.getF (Reg.FUR_RULE_DW3_FLOW i)) (s.getF (Reg.FUR_RULE_DW4_FLOW_MASK i))

/-- The decisions of the rule table (R339). -/
inductive Decision | drop | bypass | protect (channel clear : Nat)
deriving DecidableEq, Repr

/-- The decision of the lowest matching rule, or of `DEFAULT_ACT` (R341). -/
def State.classify (s : State) (dir p : Nat) (b : Bytes) : Decision :=
  match (s.validRules (p / 8)).find? (fun i => s.ruleMatches i dir p b) with
  | some i =>
    let a := s.getF (Reg.FUR_RULE_DW0_ACTION i)
    if a = 2 then .protect (s.getF (Reg.FUR_RULE_DW5_CHANNEL i)) (s.getF (Reg.FUR_RULE_DW0_CLEAR_TAGS i))
    else if a = 1 then .bypass else .drop
  | none => if s.isSet (Reg.FUR_PORT_CFG_DEFAULT_ACT (pix dir p)) then .bypass else .drop

/-! ### Channels and associations -/

def State.sa (s : State) (a : Nat) : Sa := getC {} s.fur.sas a
def State.setSa (s : State) (a : Nat) (x : Sa) : State := { s with fur := { s.fur with sas := setC {} s.fur.sas a x } }
def State.arm (s : State) (c : Nat) : Option (Nat × Nat × Nat) := getC none s.fur.arms c
def State.flightsAt (s : State) (i : Nat) : List Flight := getC [] s.fur.flights i
def State.setFlights (s : State) (i : Nat) (l : List Flight) : State :=
  { s with fur := { s.fur with flights := setC [] s.fur.flights i l } }

/-- The state an association's register keeps: 0 EMPTY, 1 KEYED (shown as IN_USE while it is in use), 3 EXHAUSTED (R380). -/
def State.saState (s : State) (a : Nat) : Nat := s.getF (Reg.FUR_SA_DW0_STATE a)

/-- The channel is a transmit channel (R358). -/
def State.isTx (s : State) (c : Nat) : Bool := s.getF (Reg.FUR_CH_DW0_DIR c) == 0

/-- The channel's suite is an XPN one (R359). -/
def State.isXpn (s : State) (c : Nat) : Bool := decide (2 ≤ s.getF (Reg.FUR_CH_DW0_SUITE c))

/-- The key length of the channel's suite. -/
def State.suiteKeyLen (s : State) (c : Nat) : Nat := if s.getF (Reg.FUR_CH_DW0_SUITE c) % 2 = 1 then 32 else 16

/-- The SCI of a channel: eight bytes (R380). -/
def State.sci (s : State) (c : Nat) : Bytes := le 4 (s.getF (Reg.FUR_CH_DW1_SCI_LO c)) ++ le 4 (s.getF (Reg.FUR_CH_DW2_SCI_HI c))

/-- The exhaustion threshold (R363). -/
def State.exhThresh (s : State) (c : Nat) : Nat :=
  s.getF (Reg.FUR_CH_DW4_EXH_THRESH_LO c) + (if s.isXpn c then 2 ^ 32 * s.getF (Reg.FUR_CH_DW5_EXH_THRESH_HI c) else 0)

/-- The last PN of a suite (R362). -/
def State.lastPn (s : State) (c : Nat) : Nat := if s.isXpn c then 2 ^ 64 - 1 else 2 ^ 32 - 1

/-- An association is in use (R369). -/
def State.saInUse (s : State) (a : Nat) : Bool :=
  let c := a / 4
  let flying := s.fur.flights.any (fun x => x.2.any (fun f => f.assoc == some a))
  flying ||
    (if s.isTx c then
      (s.isSet (Reg.FUR_CH_DW8_ENC_VALID c) && s.getF (Reg.FUR_CH_DW8_ENC_AN c) == a % 4) ||
      (match s.arm c with
       | some (an, _, _) => an == a % 4
       | none => false)
    else s.isSet (Reg.FUR_SA_DW0_ENABLE a))

/-- The channel's associations hold a key (R360). -/
def State.chKeyed (s : State) (c : Nat) : Bool := (List.range 4).any (fun n => s.saState (4 * c + n) != 0)

/-- Count the associations not EMPTY again (R380). -/
def State.setSaState (s : State) (a st : Nat) : State :=
  let was := s.saState a
  let n := s.getF Reg.FUR_SA_STATUS_KEYED
  let n := if was = 0 && st ≠ 0 then n + 1 else if was ≠ 0 && st = 0 then n - 1 else n
  (s.setF (Reg.FUR_SA_DW0_STATE a) st).setF Reg.FUR_SA_STATUS_KEYED n

/-- Install a key (R372): source 1 MKA, 2 handle, 3 wrapped. A PN of 0 is taken as 1 (R379). -/
def State.installSa (s : State) (a : Nat) (key salt ssci : Bytes) (pn source : Nat) (enable : Bool) : State :=
  let pn := if pn = 0 then 1 else pn
  let s := s.setSa a { key, salt, ssci, pn, next := pn }
  let s := (s.setSaState a 1).setF (Reg.FUR_SA_DW0_THRESH a) 0
  let s := (s.setF (Reg.FUR_SA_DW0_SOURCE a) source).setF (Reg.FUR_SA_DW0_KEY_GEN a) (s.getF (Reg.FUR_SA_DW0_KEY_GEN a) + 1)
  (s.setF (Reg.FUR_SA_DW3_SSCI a) (leNat ssci)).setF (Reg.FUR_SA_DW0_ENABLE a) (b2n (enable && !s.isTx (a / 4)))

/-- Clear an association: key, salt and SSCI zeroed, EMPTY (R372). -/
def State.clearSa (s : State) (a : Nat) : State :=
  let s := (s.setSaState a 0).setSa a {}
  let s := (s.setF (Reg.FUR_SA_DW0_THRESH a) 0).setF (Reg.FUR_SA_DW0_SOURCE a) 0
  (s.setF (Reg.FUR_SA_DW3_SSCI a) 0).setF (Reg.FUR_SA_DW0_ENABLE a) 0

/-- A refused commit or arm: its status and index (R360, R380). -/
def State.saRefuse (s : State) (kind idx x : Nat) : State :=
  ((s.setF Reg.FUR_SA_RESULT_STATUS x).setF Reg.FUR_SA_RESULT_IDX_INDEX idx).setF Reg.FUR_SA_RESULT_IDX_KIND kind

/-! ### Switches (R366) -/

/-- Why an arm is refused. -/
def State.armBad (s : State) (c an mode : Nat) : Option Nat :=
  if mode = 3 then some St.badOperand
  else if mode = 0 then none
  else if !s.isTx c || s.saState (4 * c + an) ≠ 1 ||
      (s.isSet (Reg.FUR_CH_DW8_ENC_VALID c) && s.getF (Reg.FUR_CH_DW8_ENC_AN c) = an) ||
      (!s.isSet (Reg.FUR_CH_DW8_ENC_VALID c) && mode ≠ 2) then some St.stateConflict
  else none

/-- Arm or disarm. -/
def State.setArm (s : State) (c an mode pn : Nat) : State :=
  let s := (s.setF (Reg.FUR_CH_DW8_SW_AN c) an).setF (Reg.FUR_CH_DW8_SW_MODE c) mode
  let s := s.setF (Reg.FUR_CH_DW8_ARMED c) (b2n (mode ≠ 0))
  { s with fur := { s.fur with arms := setC none s.fur.arms c (if mode = 0 then none else some (an, mode, pn)) } }

/-- Drop an arm. -/
def State.disarm (s : State) (c : Nat) : State :=
  { s.setF (Reg.FUR_CH_DW8_ARMED c) 0 with fur := { s.fur with arms := setC none s.fur.arms c none } }

/-- Before a frame's decision under a transmit channel, an armed switch that is due takes effect (R366). -/
def State.trySwitch (s : State) (c : Nat) : State :=
  match s.arm c with
  | some (an, mode, pn) =>
    let cur := 4 * c + s.getF (Reg.FUR_CH_DW8_ENC_AN c)
    let due := mode = 2 || s.saState cur = 3 || pn ≤ (s.sa cur).pn
    if due then
      let s := ((s.disarm c).setF (Reg.FUR_CH_DW8_ENC_AN c) an).setF (Reg.FUR_CH_DW8_ENC_VALID c) 1
      (s.setF Reg.FUR_SA_EVENT_SWITCHED 1).post 0x8013 c 0 c
    else s
  | none => s

/-! ### Statistics (R355, R377) -/

/-- A statistics record on a group's die: eight 64-bit counters in its DRAM line (R377, R382). -/
def State.statRec (s : State) (g r : Nat) : List Nat :=
  (List.range 8).map (fun k => leAt ((s.engine g).line (statLine r)) (8 * k) 8)

/-- Write a record's line. -/
def State.putStat (s : State) (g r : Nat) (l : List Nat) : Nat × State := s.thaWrite g (statLine r) 0 (fit 64 (l.flatMap (le 8)))

/-- Add two records; counters saturate at 2^64 − 1 (R377). -/
def addRec (a b : List Nat) : List Nat := List.zipWith (fun x y => min (x + y) (2 ^ 64 - 1)) a b

/-- A write to the Furrow block, an absent unit's window on EZ8-P1700 (R356). -/
def State.furWindow (s : State) (f : State → State) : State := s.whenOpen (fun s => if s.lc.variant.hasFurrow then f s else s.absentHit)

/-- The group whose die holds a channel's statistics. -/
def State.chGroup (s : State) (c : Nat) : Nat := s.getF (Reg.FUR_CH_DW0_PG c)

/-- Write a record back; an update whose line is poisoned or frozen is lost and counted (R355, R387). -/
def State.writeRec (s : State) (g r n : Nat) (l : List Nat) : State :=
  if l.all (fun x => x == 0) then s
  else if s.statBad g r then (s.addF (Reg.FUR_PG_CNT_LOST_COUNT g) n).post 0x8005 g 0 r
  else
    let (x, t) := s.putStat g r (addRec (s.statRec g r) l)
    if x = St.done then t else t.addF (Reg.FUR_PG_CNT_LOST_COUNT g) n

/-- Write an accumulator back. -/
def State.writeAcc (s : State) (g : Nat) (x : Accum) : State :=
  (s.writeRec g x.assoc x.updates x.sa).writeRec g (65536 + x.assoc / 4) x.updates x.ch

/-- A record with `n` in counter `k`. -/
def oneCount (k n : Nat) : List Nat := (List.replicate 8 0).set k n

/-- Gather an update on die: `n` in counter `k` of an association and `m` in counter `j` of its channel. When every accumulator is
taken, the oldest one's place is needed and it is written back (R355). -/
def State.gather (s : State) (a k n j m : Nat) : State :=
  let g := s.chGroup (a / 4)
  let l := getC [] s.fur.acc g
  let put (s : State) (l : List Accum) : State := { s with fur := { s.fur with acc := setC [] s.fur.acc g l } }
  let up (x : Accum) : Accum := { x with updates := x.updates + 1, sa := addRec x.sa (oneCount k n), ch := addRec x.ch (oneCount j m) }
  if l.any (fun x => x.assoc == a) then put s (l.map (fun x => if x.assoc == a then up x else x))
  else
    let new := up ⟨a, 0, List.replicate 8 0, List.replicate 8 0⟩
    match l with
    | x :: rest => if l.length < 4096 then put s (l ++ [new]) else put (s.writeAcc g x) (rest ++ [new])
    | [] => put s [new]

/-! ### Protection (R344, R359) -/

/-- The offset of confidentiality of a channel. -/
def State.confOff (s : State) (c : Nat) : Nat :=
  let x := s.getF (Reg.FUR_CH_DW0_CONF_OFF c)
  if x = 1 then 30 else if x = 2 then 50 else 0

/-- The initialization vector of a frame (IEEE 802.1AE-2018, Clause 14). -/
def gcmIv (xpn : Bool) (sci ssci salt : Bytes) (pn : Nat) : Bytes :=
  if xpn then xorB (fit 4 ssci ++ be 8 pn) (fit 12 salt) else sci ++ be 4 pn

/-- The additional data of a frame: its addresses, its clear tags where they are covered (log 43), its SecTAG and its user data left
in clear. -/
def secAad (head secTag clear : Bytes) : Bytes :=
  (if Config.clearTagsCovered then head else head.take 12) ++ secTag ++ clear

/-- The SecTAG of a frame (IEEE 802.1AE-2018, R344). -/
def secTagOf (es sc scb conf : Bool) (an sl pn : Nat) (sci : Bytes) : Bytes :=
  be 2 0x88E5 ++ [BitVec.ofNat 8 (64 * b2n es + 32 * b2n sc + 16 * b2n scb + 12 * b2n conf + an), BitVec.ofNat 8 sl] ++ be 4 (pn % 2 ^ 32) ++
    (if sc then sci else [])

/-- The frame a transmit association makes of a client frame (R344). -/
def State.protect (s : State) (a pn clear : Nat) (b : Bytes) : Bytes :=
  let c := a / 4
  let x := s.sa a
  let conf := s.isSet (Reg.FUR_CH_DW0_CONF c)
  let h := 12 + 4 * min clear (tagCount b)
  let head := b.take h
  let user := b.drop h
  let tag := secTagOf (s.isSet (Reg.FUR_CH_DW0_ES c)) (s.isSet (Reg.FUR_CH_DW0_SC c)) (s.isSet (Reg.FUR_CH_DW0_SCB c)) conf (a % 4)
    (if user.length < 48 then user.length else 0) pn (s.sci c)
  let iv := gcmIv (s.isXpn c) (s.sci c) x.ssci x.salt pn
  let o := if conf then s.confOff c else user.length
  head ++ tag ++ user.take o ++ gcmSeal x.key iv (secAad head tag (user.take o)) (user.drop o)

/-! ### Frames under way -/

/-- The elastic buffer of a port (R345). -/
def State.bufSize (s : State) (p : Nat) : Nat := 65536 / (8 / lanesOf (s.getF (Reg.FUR_PG_STAT_MODE (p / 8))))

/-- Bytes waiting in it. -/
def State.bufLevel (s : State) (p : Nat) : Nat := ((s.flightsAt (pix 0 p)).map Flight.held).sum

/-- Flow control toward the client: quanta 0xFFFF at half the buffer, quanta 0 at a quarter (R345). -/
def State.flowControl (s : State) (p : Nat) : State :=
  let fc := s.getF (Reg.FUR_PORT_CFG_FC_MODE (pix 0 p))
  let on := getC false s.fur.paused p
  let put (s : State) (b : Bool) : State := { s with fur := { s.fur with paused := setC false s.fur.paused p b } }
  if fc = 0 then s
  else if !on && decide (s.bufSize p ≤ 2 * s.bufLevel p) then (put s true).emit (.pause p fc 0xFFFF)
  else if on && decide (4 * s.bufLevel p ≤ s.bufSize p) then (put s false).emit (.pause p fc 0)
  else s

/-- What leaves of a frame dropped late: its last 8 bytes zero (R346). -/
def zeroTail (b : Bytes) : Bytes := b.take (b.length - 8) ++ zeros (min 8 b.length)

/-- A frame leaves on the other side of the pair. -/
def State.leave (s : State) (side p : Nat) (f : Flight) : State :=
  if f.late then s.sendFrame (1 - side) p (zeroTail f.data) false else s.sendFrame (1 - side) p f.data f.ok

/-- Frames at the head of a port's line that wait for nothing leave in their order (R343). -/
def State.flush (side p : Nat) : List Flight → State → State
  | [], s => s.setFlights (pix side p) []
  | f :: l, s =>
    if f.rx.isNone && (side = 1 || f.assoc.isNone && f.held = 0) then State.flush side p l (s.leave side p f)
    else s.setFlights (pix side p) (f :: l)

def State.flushPort (s : State) (side p : Nat) : State := State.flush side p (s.flightsAt (pix side p)) s

/-- A frame enters a port's line. -/
def State.enter (s : State) (side p : Nat) (f : Flight) : State :=
  (s.setFlights (pix side p) (s.flightsAt (pix side p) ++ [f])).flushPort side p

/-- A frame enters far egress: where the line is busy it waits in the elastic buffer, and where the buffer has too little room it is
dropped whole (R345). A frame takes its octets, its FCS and the 20 bytes of preamble and gap. -/
def State.enterEgress (s : State) (p : Nat) (f : Flight) (busy : Bool) : State :=
  if busy || 0 < s.bufLevel p then
    let n := f.data.length + 24
    if s.bufSize p < s.bufLevel p + n then s.bump (Reg.FUR_PORT_EG_OVERFLOW_COUNT p)
    else ((s.bump (Reg.FUR_PORT_EG_WAIT_COUNT p)).enter 0 p { f with held := n }).flowControl p
  else s.enter 0 p f

/-- Inject a frame of the module into far egress (R376). A group not RUNNING discards it, as every later frame, and counts it while STOPPED, at
the far port it was injected into (R26, R350, R352, log 226). -/
def State.inject (s : State) (p : Nat) (b : Bytes) : State :=
  let st := s.pgState (p / 8)
  if st = 0 then s.enterEgress p { data := b } false
  else if st = 3 then s.bump (Reg.FUR_PORT_STOP_DROP_COUNT (pix 1 p))
  else s

/-! ### Mismatches and faults (R349, R352) -/

/-- Every frame in flight of a group is dropped late (R352); Commons frames not yet checked go nowhere. -/
def State.dropFlights (s : State) (g : Nat) : State :=
  (groupPorts g).foldl (fun s p =>
    let out (s : State) (side : Nat) : State :=
      ((s.flightsAt (pix side p)).foldl (fun s f =>
        let s := if f.late then s else s.bump (Reg.FUR_PORT_LATE_DROP_COUNT (pix side p))
        match f.rx with
        | some r => if r.commons then s else s.leave side p { f with late := true }
        | none => s.leave side p { f with late := true }) s).setFlights (pix side p) []
    out (out s 0) 1) s

/-- A group enters FAULTED without draining (R352). -/
def State.pgFault (s : State) (g : Nat) : State :=
  let s := (s.dropFlights g).setPg g 5
  ((s.setFBit Reg.FUR_GLB_EVENT_FAULTED g true).setF (Reg.FUR_PG_STAT_IN_PROGRESS g) 0).post 0x8001 g 0 g

/-- The open mismatch window of a group closes. -/
def State.closeWin (s : State) (g : Nat) : State :=
  { s.setF (Reg.FUR_PG_MISMATCH_WINDOW g) 0 with fur := { s.fur with winAt := setC none s.fur.winAt g none } }

/-- A group's mismatch window has lasted 1,000 Drover ticks (R349). -/
def State.winOver (s : State) (g : Nat) : Bool := (getC none s.fur.winAt g).any (fun t => decide (t + 1000 ≤ s.drv.tick))

/-- A disagreement of two pipeline copies (R349): counted, recorded, and the sixteenth of a window faults the group. A window that is over
closes first. -/
def State.pipeMismatch (s : State) (side p : Nat) : State :=
  let g := p / 8
  let s := if s.winOver g then s.closeWin g else s
  let s := (s.bump (Reg.FUR_PORT_MISMATCH_DROP_COUNT (pix side p))).bump (Reg.FUR_PORT_LATE_DROP_COUNT (pix side p))
  let n := s.getF (Reg.FUR_PG_MISMATCH_WINDOW g) + 1
  let s := (s.bump (Reg.FUR_PG_MISMATCH_TOTAL g)).setF (Reg.FUR_PG_MISMATCH_WINDOW g) (min n 16)
  let s := if (getC none s.fur.winAt g).isNone then
      { s with fur := { s.fur with winAt := setC none s.fur.winAt g (some s.drv.tick) } } else s
  let s := (s.noteMismatch).post 0x8004 p 0 p
  if n = 16 then s.pgFault g else s

/-! ### Diversion (R340, R24) -/

/-- The epoch a diverted frame or a rekey is placed in: the adopted one where an MKA cell serves it, otherwise the older one. -/
def State.mkaEpoch (s : State) : Nat :=
  (((s.drv.banks.map Prod.fst).find? (fun e => s.roleServed e 4))).getD s.bale.adoptedEpoch

/-- A frame passes the divert rate of its port: at most `DIVERT_RATE` × 100 in a second, measured over any 10 ms. -/
def State.divertRate (s : State) (p : Nat) : Bool × State :=
  let l := (getC [] s.fur.diverts p).filter (fun t => decide (s.drv.tick < t + 10000))
  if l.length < s.getF (Reg.FUR_PORT_CFG_DIVERT_RATE (pix 1 p)) then
    (true, { s with fur := { s.fur with diverts := setC [] s.fur.diverts p (l ++ [s.drv.tick]) } })
  else (false, s)

/-- A diverted frame is dropped and counted. -/
def State.divertDrop (s : State) (p : Nat) : State :=
  (s.bump (Reg.FUR_PORT_DIVERT_DROP_COUNT (pix 1 p))).setF Reg.FUR_GLB_EVENT_DIVERT_DROP 1

/-- Place work on the MKA ready list; false where the list is full. -/
def State.mkaPlace (s : State) (w : Work) : Option State :=
  let d := s.chooseDie 4 none
  if (s.readyList (readyKey d 4)).length < 2048 then
    some (s.enqueue d 4 ⟨s.bale.content.mkaPrio, w, s.mkaEpoch, s.drv.tick⟩ false).refreshBp
  else none

/-- Divert an EAPOL-MKA frame (R340 rule 1). -/
def State.divertMka (s : State) (p : Nat) (b : Bytes) : State :=
  match s.divertRate p with
  | (true, s) =>
    match s.mkaPlace (.frame p b) with
    | some s => s.bump (Reg.FUR_PORT_DIVERT_COUNT (pix 1 p))
    | none => s.divertDrop p
  | (false, s) => s.divertDrop p

/-- Divert a checked Commons frame to CMN (R340 rule 2). -/
def State.divertCmn (s : State) (p : Nat) (b : Bytes) : State :=
  match s.divertRate p with
  | (true, s) => { s.bump (Reg.FUR_PORT_DIVERT_COUNT (pix 1 p)) with fur := { s.fur with toCmn := s.fur.toCmn ++ [(p, b)] } }
  | (false, s) => s.divertDrop p

/-! ### Exhaustion (R363, R364) -/

/-- Push into the exhaustion FIFO of a group; a full FIFO discards the entry. -/
def State.exhPush (s : State) (g a : Nat) (last : Bool) : State :=
  let l := getC [] s.fur.fifo g
  if l.length < 256 then { s with fur := { s.fur with fifo := setC [] s.fur.fifo g (l ++ [(a, last)]) } }
  else s.setF Reg.FUR_SA_EVENT_FIFO_OVERFLOW 1

/-- The channel belongs to an MKA instance. -/
def State.mkaOfChannel (s : State) (c : Nat) : Option Nat :=
  (s.fur.mka.find? (fun x => match x.2 with
    | some i => i.txc == c || i.rxc == c
    | none => false)).map Prod.fst

/-- A frame takes the next PN of a transmit association: threshold and last value (R362 to R364). -/
def State.takePn (s : State) (a : Nat) : Nat × State :=
  let c := a / 4
  let g := s.chGroup c
  let x := s.sa a
  let pn := x.pn
  let s := s.setSa a { x with pn := pn + 1, last := s.drv.tick }
  let s :=
    if pn = s.exhThresh c then
      let s := (((s.setF (Reg.FUR_SA_DW0_THRESH a) 1).exhPush g a false).setF Reg.FUR_SA_EVENT_THRESH 1).post 0x8010 a 0 a
      if (s.mkaOfChannel c).isSome then (s.mkaPlace (.rekey a)).getD s else s
    else s
  let s :=
    if pn = s.lastPn c then
      (((s.setSaState a 3).exhPush g a true).setF Reg.FUR_SA_EVENT_EXHAUSTED 1).post 0x8012 a 0 a
    else s
  (pn, s)

end Sys2Proof.Machine
end

