-- ==== Sys2Proof/Machine/Furrow.lean ====
section
/-! DEFINITION. Furrow's frames, port groups, rules and port configuration (spec/16). -/

namespace Sys2Proof.Machine

/-! ### Frames -/

/-- What a port counts of a frame it receives, and whether the frame goes on: a frame that meets a group not RUNNING is discarded,
a runt is dropped, a MAC Control frame is consumed (R338, R350). -/
def State.frameIn (s : State) (side p : Nat) (b : Bytes) (fcsOk : Bool) (fec : Nat × Nat) : Bool × State :=
  let i := pix side p
  let s := ((s.bump (Reg.FUR_PORT_RX_FRAMES_COUNT i)).addF (rxOct i) (b.length + 4)).addF (Reg.FUR_PORT_FEC_CORR_COUNT i) fec.1
  let s := s.addF (Reg.FUR_PORT_FEC_UNCORR_COUNT i) fec.2
  let st := s.pgState (p / 8)
  if st ≠ 0 then (false, if st = 3 then s.bump (Reg.FUR_PORT_STOP_DROP_COUNT i) else s)
  else if b.length + 4 < 64 then (false, s.bump (Reg.FUR_PORT_RX_RUNT_COUNT i))
  else
    let s := if fcsOk then s else s.bump (Reg.FUR_PORT_RX_FCS_ERR_COUNT i)
    if etherType b = 0x8808 then
      let op := beAt b (14 + 4 * tagCount b) 2
      (false, if op = 1 || op = 0x101 then s.bump (Reg.FUR_PORT_RX_PAUSE_COUNT i) else s)
    else (true, s)

/-- A frame reaches a port: one the port can receive (R350, R352, R353). -/
def State.receives (s : State) (side p : Nat) : Bool :=
  s.portExists p && (s.pgState (p / 8) != 0 || s.isSet (Reg.FUR_PORT_STAT_LINK_UP (pix side p)))

/-- A frame under a valid transmit channel: the switch that is due, the PN, the protected frame (R344, R362 to R364, R366). -/
def State.protectOut (s : State) (p c clear : Nat) (b : Bytes) (ok busy mismatch : Bool) : State :=
  let s := s.trySwitch c
  let a := 4 * c + s.getF (Reg.FUR_CH_DW8_ENC_AN c)
  if !s.isSet (Reg.FUR_CH_DW8_ENC_VALID c) || s.saState a = 0 then s.bump (Reg.FUR_PORT_EG_NO_SA_COUNT p)
  else if s.saState a = 3 then (s.gather a 2 1 0 0).bump Reg.FUR_SA_EXH_DROP_COUNT
  else
    let (pn, s) := s.takePn a
    let out := s.protect a pn clear b
    let k := b2n (s.isSet (Reg.FUR_CH_DW0_CONF c))
    let s := s.gather a k 1 k (b.length - 12 - 4 * min clear (tagCount b))
    let s := s.enterEgress p { data := out, ok, assoc := some a, late := mismatch } busy
    if mismatch then s.pipeMismatch 0 p else s

/-- A frame decided PROTECT (R344, R360). -/
def State.egressProtect (s : State) (p c clear : Nat) (b : Bytes) (ok busy mismatch : Bool) : State :=
  if !s.isSet (Reg.FUR_CH_DW0_VALID c) || !s.isTx c || s.isSet (Reg.FUR_CH_DW0_KIND c) then
    s.bump (Reg.FUR_PORT_EG_NO_SA_COUNT p)
  else s.protectOut p c clear b ok busy mismatch

/-- A near-side frame (R338 to R345). -/
def State.egress (s : State) (p : Nat) (b0 : Bytes) (fcsOk : Bool) (fec : Nat × Nat) (busy mismatch : Bool) : State :=
  match s.frameIn 0 p b0 fcsOk fec with
  | (false, s) => s
  | (true, s) =>
    let d := s.classify 0 p b0
    let mf := s.getF (Reg.FUR_PORT_CFG_MAX_FRAME (pix 0 p))
    let long := decide (mf < b0.length + 4)
    let s := if long then s.bump (Reg.FUR_PORT_RX_OVERSIZE_COUNT (pix 0 p)) else s
    let s := if long && d != .drop then s.bump (Reg.FUR_PORT_OUT_TOO_LONG_COUNT p) else s
    let b := if long then b0.take mf else b0
    let ok := fcsOk && !long
    match d with
    | .drop => s.bump (Reg.FUR_PORT_MATCH_DROP_COUNT (pix 0 p))
    | .bypass =>
      let s := (s.bump (Reg.FUR_PORT_BYPASS_COUNT (pix 0 p))).bump (Reg.FUR_PORT_OUT_UNTAGGED_COUNT p)
      s.enterEgress p { data := b, ok } busy
    | .protect c clear => s.egressProtect p c clear b ok busy mismatch

def execEgressFrame (port : Nat) (data : Bytes) (fcsOk : Bool) (fec : Nat × Nat) (busy mismatch : Bool) (s : State) : Res :=
  .next (s.whenLive (fun s => if s.receives 0 port then s.egress port data fcsOk fec busy mismatch else s))

/-- The frame at the head of far egress has left: its buffer space is free, and unprotected frames behind it follow
(R345, R369). -/
def State.departs (s : State) (p : Nat) : State :=
  match s.flightsAt (pix 0 p) with
  | f :: l => (((s.setFlights (pix 0 p) l).leave 0 p f).flushPort 0 p).flowControl p
  | [] => s

def execEgressFrameDeparture (port : Nat) (s : State) : Res :=
  .next (s.whenLive (fun s => if s.portExists port then s.departs port else s))

/-- The SecTAG of a far-side frame behind its clear tags, as R341 and IEEE 802.1AE-2018 give it. -/
structure SecTag where
  es : Bool
  sc : Bool
  scb : Bool
  e : Bool
  c : Bool
  an : Nat
  sl : Nat
  pn : Nat
  sci : Bytes
  len : Nat

/-- Read the SecTAG at offset `o`, the offset of EtherType 0x88E5; none where it is malformed (R347). -/
def readTag (b : Bytes) (o : Nat) : Option SecTag :=
  let t := byteAt b (o + 2)
  let sl := byteAt b (o + 3)
  let sc := bit t 5
  let len := if sc then 16 else 8
  let user := b.length - o - len - 16
  if bit t 7 || (sc && (bit t 6 || bit t 4)) || bit t 3 != bit t 2 || 47 < sl || b.length < o + len + 16 ||
      (sl ≠ 0 && sl ≠ user) || (sl = 0 && user < 48) then none
  else some ⟨bit t 6, sc, bit t 4, bit t 3, bit t 2, t % 4, sl, beAt b (o + 4) 4, slice b (o + 8) (if sc then 8 else 0), len⟩

/-- The valid receive channels of a far port (R358). -/
def State.rxChannels (s : State) (p : Nat) : List Nat :=
  s.validChannels.filter (fun c => !s.isTx c && s.getF (Reg.FUR_CH_DW0_PORT c) == p)

/-- The receive channel of a frame (R361). -/
def State.findRx (s : State) (p : Nat) (t : SecTag) (src : Bytes) : Option Nat :=
  let sci := if t.sc then some t.sci else if t.es then some (src ++ be 2 1) else none
  match sci with
  | some x => (s.rxChannels p).find? (fun c => s.sci c == x)
  | none => (s.rxChannels p).find? (fun c => s.isSet (Reg.FUR_CH_DW0_DEFAULT c))

/-- The PN of a received frame: for an XPN suite the 64-bit number recovered against LOWEST_PN (R359). -/
def State.recoverPn (s : State) (a pn : Nat) : Nat :=
  let low := (s.sa a).pn
  if s.isXpn (a / 4) then
    let hi := low / 2 ^ 32
    (if bit low 31 && !bit pn 31 then hi + 1 else hi) % 2 ^ 32 * 2 ^ 32 + pn
  else pn

/-- A replay check (R348, R370): the frame is refused under replayProtect below LOWEST_PN or where the map has its bit. -/
def State.replayed (s : State) (a pn : Nat) (protect : Bool) : Bool :=
  protect && (decide (pn < (s.sa a).pn) || (s.sa a).seen.contains pn)

/-- What leaves of a far-side frame, and whether its ICV verifies (R346, R359): the clear tags and the user data behind them. -/
def State.unprotect (s : State) (a o pn : Nat) (t : SecTag) (b : Bytes) : Bytes × Bool :=
  let c := a / 4
  let x := s.sa a
  let head := b.take o
  let tag := slice b o t.len
  let user := slice b (o + t.len) (b.length - o - t.len - 16)
  let icv := b.drop (b.length - 16)
  let n := if t.e then s.confOff c else user.length
  let iv := gcmIv (s.isXpn c) (s.sci c) x.ssci x.salt pn
  let aad := secAad head tag (user.take n)
  let ok := (gcmOpen x.key iv aad (user.drop n ++ icv)).isSome
  (head ++ user.take n ++ fit (user.length - n) (gcmPlain x.key iv (user.drop n)), ok)

/-- A far-side frame with a SecTAG (R340 rule 2, R346 to R348, R361). -/
def State.ingressSec (s : State) (p : Nat) (b : Bytes) (ok : Bool) : State :=
  let i := pix 1 p
  let o := 12 + 4 * tagCount b
  match readTag b o with
  | none => s.bump (Reg.FUR_PORT_IN_BAD_TAG_COUNT p)
  | some t =>
    let ch := s.findRx p t (slice b 6 6)
    if t.pn = 0 && !(ch.map s.isXpn).getD false then s.bump (Reg.FUR_PORT_IN_BAD_TAG_COUNT p)
    else match ch with
      | none => s.bump (if t.sc then Reg.FUR_PORT_IN_UNKNOWN_SCI_COUNT p else Reg.FUR_PORT_IN_NO_SCI_COUNT p)
      | some c =>
        let a := 4 * c + t.an
        let pn := s.recoverPn a t.pn
        let replay := s.isSet (Reg.FUR_CH_DW0_REPLAY c)
        if !s.isSet (Reg.FUR_SA_DW0_ENABLE a) || s.saState a = 0 then s.gather a 3 1 0 0
        else if pn = 0 then s.bump (Reg.FUR_PORT_IN_BAD_TAG_COUNT p)
        else if s.replayed a pn replay then s.gather a 0 0 2 1
        else
          let (out, valid) := s.unprotect a o pn t b
          let s := s.setSa a { s.sa a with last := s.drv.tick }
          s.setFlights i (s.flightsAt i ++ [{
            data := out, ok, assoc := some a
            rx := some { pn, valid, conf := t.e, check := s.isSet (Reg.FUR_CH_DW0_VALIDATE c), replay
                         win := s.getF (Reg.FUR_CH_DW3_REPLAY_WIN c), commons := s.isSet (Reg.FUR_CH_DW0_KIND c)
                         octets := out.length - o } }])

/-- A far-side frame (R338 to R341, R346). -/
def State.ingress (s : State) (p : Nat) (b0 : Bytes) (fcsOk : Bool) (fec : Nat × Nat) : State :=
  match s.frameIn 1 p b0 fcsOk fec with
  | (false, s) => s
  | (true, s) =>
    let i := pix 1 p
    if etherType b0 = 0x888E && s.isSet (Reg.FUR_PORT_CFG_MKA_EN i) then s.divertMka p b0
    else
      let mf := s.getF (Reg.FUR_PORT_CFG_MAX_FRAME i) + 40
      let long := decide (mf < b0.length + 4)
      let s := if long then s.bump (Reg.FUR_PORT_RX_OVERSIZE_COUNT i) else s
      let b := if long then b0.take mf else b0
      let ok := fcsOk && !long
      if etherType b = 0x88E5 then s.ingressSec p b ok
      else
        let s := s.bump (Reg.FUR_PORT_IN_NO_TAG_COUNT p)
        match s.classify 1 p b with
        | .bypass => (s.bump (Reg.FUR_PORT_BYPASS_COUNT i)).enter 1 p { data := b, ok }
        | _ => s.bump (Reg.FUR_PORT_MATCH_DROP_COUNT i)

def execIngressFrame (port : Nat) (data : Bytes) (fcsOk : Bool) (fec : Nat × Nat) (s : State) : Res :=
  .next (s.whenLive (fun s => if s.receives 1 port then s.ingress port data fcsOk fec else s))

/-- A passed ICV updates the replay state, with replayProtect on or off (R370, log 190). -/
def State.slide (s : State) (a : Nat) (r : RxFrame) : State :=
  let x := s.sa a
  let next := max x.next (r.pn + 1)
  s.setSa a { x with next, pn := max x.pn (next - r.win), seen := (r.pn :: x.seen).filter (fun n => decide (next ≤ n + 1024)) }

/-- A verdict (R346, R348, R349): whether the frame is dropped late, with its counts and the replay state. -/
def State.judgeRx (s : State) (p a : Nat) (r : RxFrame) (mismatch : Bool) : Bool × State :=
  let i := pix 1 p
  if mismatch then (true, s)
  else if !r.valid then
    if r.check && !r.conf then (false, s.gather a 1 1 0 0)
    else (true, (s.gather a 2 1 0 0).bump (Reg.FUR_PORT_LATE_DROP_COUNT i))
  else if s.replayed a r.pn r.replay then (true, (s.gather a 0 0 2 1).bump (Reg.FUR_PORT_LATE_DROP_COUNT i))
  else
    let delayed := decide (r.pn < (s.sa a).pn)
    let s := (s.slide a r).gather a 0 0 (if r.conf then 1 else 0) r.octets
    (false, if delayed then s.gather a 0 0 3 1 else s.gather a 0 1 0 0)

/-- The verdict of the first far-side frame of a port that awaits one. -/
def State.verdict (s : State) (p : Nat) (mismatch : Bool) : State :=
  let i := pix 1 p
  let l := s.flightsAt i
  match l.findIdx? (fun f => f.rx.isSome) with
  | none => s
  | some k =>
    match l[k]? with
    | some f =>
      match f.rx, f.assoc with
      | some r, some a =>
        let (late, s) := s.judgeRx p a r mismatch
        let s :=
          if r.commons then
            let s := s.setFlights i (l.eraseIdx k)
            if late || !f.ok then s else s.divertCmn p f.data
          else s.setFlights i (l.set k { f with rx := none, late, assoc := none })
        let s := s.flushPort 1 p
        if mismatch then s.pipeMismatch 1 p else s
      | _, _ => s
    | none => s

def execIcvVerdict (port : Nat) (mismatch : Bool) (s : State) : Res :=
  .next (s.whenLive (fun s => if s.portExists port then s.verdict port mismatch else s))

def execFurrowMismatchWindowClose (pg : Nat) (s : State) : Res :=
  .next (s.whenLive (fun s => if s.winOver pg then s.closeWin pg else s))

/-! ### Shadows (R342) -/

/-- A write into a shadowed dword. -/
def State.shadowWrite (s : State) (off val : Nat) : State :=
  { s with fur := { s.fur with shadow := setC none s.fur.shadow off (some val) } }

/-- What a field holds in the shadow: what was written, or what is in force where nothing was. -/
def State.shadowF (s : State) (f : Fld) : Nat :=
  match getC none s.fur.shadow f.addr with
  | some v => v / 2 ^ f.lo % 2 ^ f.w
  | none => s.getF f

/-- Discard the shadow of the dwords from `off` up to `off + 4n`. -/
def State.dropShadow (s : State) (off n : Nat) : State :=
  { s with fur := { s.fur with shadow := s.fur.shadow.filter (fun x => decide (x.1 < off) || decide (off + 4 * n ≤ x.1)) } }

/-- Adopt the shadow of fields. -/
def State.adopt (s : State) (l : List Fld) : State := l.foldl (fun t f => t.setF f (s.shadowF f)) s

/-- The fields of a rule. -/
def ruleFlds (i : Nat) : List Fld :=
  [Reg.FUR_RULE_DW0_VALID i, Reg.FUR_RULE_DW0_DIR i, Reg.FUR_RULE_DW0_ACTION i, Reg.FUR_RULE_DW0_CLEAR_TAGS i, Reg.FUR_RULE_DW0_TAGS i,
   Reg.FUR_RULE_DW0_PORT_MASK i, Reg.FUR_RULE_DW1_TCI i, Reg.FUR_RULE_DW1_TCI_MASK i, Reg.FUR_RULE_DW2_ETYPE i,
   Reg.FUR_RULE_DW2_ETYPE_MASK i, Reg.FUR_RULE_DW3_FLOW i, Reg.FUR_RULE_DW4_FLOW_MASK i, Reg.FUR_RULE_DW5_CHANNEL i]

/-- The shadow of a rule breaks the rules of commitment (R342). The group a channel is assigned to is that of its entry's PG, whether the entry is
valid or not (log 235). -/
def State.ruleBad (s : State) (g i : Nat) : Bool :=
  let action := s.shadowF (Reg.FUR_RULE_DW0_ACTION i)
  (action == 2 && (s.shadowF (Reg.FUR_RULE_DW0_DIR i) == 1 || s.chGroup (s.shadowF (Reg.FUR_RULE_DW5_CHANNEL i)) != g)) ||
    s.shadowF (Reg.FUR_RULE_DW0_CLEAR_TAGS i) == 3 || action == 3

/-- Commit rule `r` of group `g` (R342). -/
def State.ruleCommit (s : State) (g r : Nat) : State :=
  let i := 8192 * g + r
  let off := 0x640000 + 0x20 * i
  let s := s.setF (Reg.FUR_PG_RULE_STAT_LAST g) r
  if s.ruleBad g i then
    ((s.dropShadow off 8).setF (Reg.FUR_PG_RULE_STAT_REFUSED g) 1).setF Reg.FUR_GLB_EVENT_RULE_REFUSED 1
  else
    let t := (s.adopt (ruleFlds i)).dropShadow off 8
    t.setF (Reg.FUR_PG_RULE_STAT_VALID g) (t.validRules g).length

def execRuleCommit (pg rule : Nat) (s : State) : Res :=
  .next (s.furWindow (fun s => if decide (pg < 2) && decide (rule < 8192) then s.ruleCommit pg rule else s))

/-! ### Configuration (R351, R357) -/

/-- A configuration write of a group was refused. -/
def State.cfgRefuse (s : State) (g x : Nat) : State := (s.setF (Reg.FUR_PG_STAT_RESULT g) x).setF Reg.FUR_GLB_EVENT_CFG_REFUSED 1

/-- A group's configuration may be written: STOPPED or FAULTED (R351). -/
def State.pgOpen (s : State) (g : Nat) : Bool := s.pgState g == 3 || s.pgState g == 5

/-- A field that only a stopped group takes: refused with STATE_CONFLICT where the write would change it, with BAD_OPERAND where the
value is not one of its values. -/
def State.stoppedField (s : State) (g : Nat) (f : Fld) (v : Nat) (good : Bool) : State :=
  if v = s.getF f then s
  else if !s.pgOpen g then s.cfgRefuse g St.stateConflict
  else if !good then s.cfgRefuse g St.badOperand
  else s.setF f v

/-- A write of `FUR_PORT_CFG`, field by field (R342, R351, R357). -/
def State.portCfg (s : State) (side p val : Nat) : State :=
  let i := pix side p
  let g := p / 8
  let mf := val / 16 % 16384
  let fc := val / 4 % 4
  let s := (s.setF (Reg.FUR_PORT_CFG_DEFAULT_ACT i) (val % 2)).setF (Reg.FUR_PORT_CFG_DIVERT_RATE i) (val / 2 ^ 20 % 4096)
  let s := if side = 1 then s.setF (Reg.FUR_PORT_CFG_MKA_EN i) (val / 2 % 2) else s
  let s := if side = 0 then s.stoppedField g (Reg.FUR_PORT_CFG_FC_MODE i) fc (fc != 3) else s
  s.stoppedField g (Reg.FUR_PORT_CFG_MAX_FRAME i) mf (decide (64 ≤ mf) && decide (mf ≤ 9216))

def execPortConfigWrite (side port val : Nat) (s : State) : Res :=
  .next (s.furWindow (fun s => if decide (side < 2) && s.portExists port then s.portCfg side port val else s))

/-- A write of `FUR_PG_CFG` (R351, R357). -/
def State.pgCfg (s : State) (g val : Nat) : State :=
  let off := val / 16 % 64
  if !s.pgOpen g then s.cfgRefuse g St.stateConflict
  else
    let s := (s.setF (Reg.FUR_PG_CFG_MODE g) (val % 4)).setF (Reg.FUR_PG_CFG_KR g) (val / 4 % 2)
    if 60 < off then s.cfgRefuse g St.badOperand else s.setF (Reg.FUR_PG_CFG_FLOW_OFF g) off

def execPgConfigWrite (pg val : Nat) (s : State) : Res :=
  .next (s.furWindow (fun s => if pg < 2 then s.pgCfg pg val else s))

/-! ### Port group commands (R351, R352) -/

/-- A command has begun. -/
def State.pgBusy (s : State) (g : Nat) : State := s.setF (Reg.FUR_PG_STAT_IN_PROGRESS g) 1

/-- A port's link goes up or down (R352, R357). -/
def State.linkTo (s : State) (side p : Nat) (up : Bool) : State :=
  let i := pix side p
  if s.isSet (Reg.FUR_PORT_STAT_LINK_UP i) = up then s
  else
    let s := (s.setF (Reg.FUR_PORT_STAT_LINK_UP i) (b2n up)).bump (Reg.FUR_PORT_STAT_FLAPS i)
    (s.setF Reg.FUR_GLB_EVENT_LINK_CHANGE 1).post 0x8002 p side p

/-- START: the configuration is applied, the lanes retune, and from FAULTED the pipelines are tested (R352). -/
def State.pgStarts (s : State) (g : Nat) : State :=
  let kat := s.pgState g == 5
  let s := (groupPorts g).foldl (fun s p => (s.linkTo 0 p false).linkTo 1 p false) s
  let s := ((s.setF (Reg.FUR_PG_STAT_MODE g) (s.getF (Reg.FUR_PG_CFG_MODE g))).setPg g 4).closeWin g
  let s := s.trainPorts g
  { s.pgBusy g with fur := { s.fur with kat := setC false s.fur.kat g kat } }

/-- STOP. -/
def State.pgStop (s : State) (g : Nat) : State :=
  let st := s.pgState g
  if st = 0 then ((s.setPg g 1).pgBusy g).post 0x8003 g 0 g
  else if st = 2 then s.setPg g 1
  else if st = 4 then s.setF (Reg.FUR_PG_STAT_RESULT g) St.busy
  else s.setF (Reg.FUR_PG_STAT_RESULT g) St.done

/-- START. -/
def State.pgStart (s : State) (g : Nat) : State :=
  let st := s.pgState g
  if !s.isSet Reg.PWR_CLK_STATUS_REF156_OK then s.setF (Reg.FUR_PG_STAT_RESULT g) St.stateConflict
  else if st = 1 then (s.setPg g 2).pgBusy g
  else if st = 3 || st = 5 then s.pgStarts g
  else s.setF (Reg.FUR_PG_STAT_RESULT g) St.done

def execPgStop (pg : Nat) (s : State) : Res :=
  .next (s.furWindow (fun s => if pg < 2 then s.pgStop pg else s))

def execPgStart (pg : Nat) (s : State) : Res :=
  .next (s.furWindow (fun s => if pg < 2 then s.pgStart pg else s))

/-- No frame of the group is under way. -/
def State.pgDrained (s : State) (g : Nat) : Bool :=
  (groupPorts g).all (fun p => (s.flightsAt (pix 0 p)).isEmpty && (s.flightsAt (pix 1 p)).isEmpty)

/-- The drain of a STOP ends; a held START runs at once (R351, R352). -/
def State.pgStopped (s : State) (g : Nat) : State :=
  let held := s.pgState g = 2
  let s := (s.setPg g 3).pgResult g St.done
  if held then s.pgStarts g else s

def execPgStopComplete (pg : Nat) (s : State) : Res :=
  .next (s.whenLive (fun s => if decide (pg < 2) && (s.pgState pg = 1 || s.pgState pg = 2) && s.pgDrained pg then s.pgStopped pg else s))

/-- The retune and the pipeline test end (R352). -/
def State.pgStarted (s : State) (g : Nat) (pass : Bool) : State :=
  if getC false s.fur.kat g && !pass then (s.setPg g 5).pgResult g St.faultDetected
  else (s.setPg g 0).pgResult g St.done

def execPgStartComplete (pg : Nat) (pass : Bool) (s : State) : Res :=
  .next (s.whenLive (fun s => if decide (pg < 2) && s.pgState pg = 4 then s.pgStarted pg pass else s))

/-- A port locks to its partner or loses it (R352): it comes up only in a RUNNING group. -/
def State.portLink (s : State) (side p : Nat) (up remote : Bool) : State :=
  let i := pix side p
  let s := s.setF (Reg.FUR_PORT_STAT_REMOTE_FAULT i) (b2n remote)
  if up && s.pgState (p / 8) ≠ 0 then s
  else (if up then s.setF (Reg.FUR_PORT_STAT_TRAINING i) 0 else s).linkTo side p up

def execPortLinkChange (side port : Nat) (up remote : Bool) (s : State) : Res :=
  .next (s.whenLive (fun s => if decide (side < 2) && s.portExists port then s.portLink side port up remote else s))

/-! ### Statistics (R355) -/

/-- Write the accumulator of an association back. -/
def State.statsBack (s : State) (a : Nat) : State :=
  let g := s.chGroup (a / 4)
  let l := getC [] s.fur.acc g
  match l.find? (fun x => x.assoc == a) with
  | some x => { s with fur := { s.fur with acc := setC [] s.fur.acc g (l.filter (fun y => y.assoc != a)) } }.writeAcc g x
  | none => s

def execStatsWriteback (assoc : Nat) (s : State) : Res := .next (s.whenLive (fun s => s.statsBack assoc))

end Sys2Proof.Machine
end

