-- ==== Sys2Proof/Machine/Curves.lean ====
section
/-! DEFINITION. The admission checks on points, scalars and encodings that R264 lists, computed from the standards' field constants
(FIPS 186-5, RFC 8032, RFC 7748, FIPS 203). -/

namespace Sys2Proof.Machine

/-- `b ^ e` modulo `m`, over the `n` low bits of `e`. -/
def powMod (m : Nat) : Nat → Nat → Nat → Nat → Nat
  | 0, _, _, acc => acc
  | n + 1, b, e, acc => powMod m n (b * b % m) (e / 2) (if e % 2 = 1 then acc * b % m else acc)

/-- `b ^ e` modulo `m` for exponents below 2^400. -/
def pow (m b e : Nat) : Nat := powMod m 400 (b % m) e 1

/-! ### P-256 and P-384 -/

/-- The coordinate length of a curve: 32 for P-256, 48 for P-384. -/
def ecLen (set : Nat) : Nat := if set = 0x20 then 32 else 48

/-- The field prime. -/
def ecP (set : Nat) : Nat :=
  if set = 0x20 then 2 ^ 256 - 2 ^ 224 + 2 ^ 192 + 2 ^ 96 - 1 else 2 ^ 384 - 2 ^ 128 - 2 ^ 96 + 2 ^ 32 - 1

/-- The group order n. -/
def ecN (set : Nat) : Nat :=
  if set = 0x20 then 0xFFFFFFFF00000000FFFFFFFFFFFFFFFFBCE6FAADA7179E84F3B9CAC2FC632551
  else 0xFFFFFFFFFFFFFFFFFFFFFFFFFFFFFFFFFFFFFFFFFFFFFFFFC7634D81F4372DDF581A0DB248B0A77AECEC196ACCC52973

/-- The coefficient b of the curve equation. -/
def ecB (set : Nat) : Nat :=
  if set = 0x20 then 0x5AC635D8AA3A93E7B3EBBD55769886BC651D06B0CC53B0F63BCE3C3E27D2604B
  else 0xB3312FA7E23EE7E4988E056BE3F82D19181D9C6EFE8141120314088F5013875AC656398D8A2ED19D2A85C8EDD3EC2AEF

/-- The right side of the curve equation at x. -/
def ecRhs (set x : Nat) : Nat := (x * x * x + (ecP set - 3) * x + ecB set) % ecP set

/-- The status an EC point fails with, none where it passes (R264). -/
def ecPoint (set : Nat) (b : Bytes) (badOperand rejected : Nat) : Option Nat :=
  let n := ecLen set
  let p := ecP set
  let t := byteAt b 0
  let x := beNat (slice b 1 n)
  let y := beNat (slice b (1 + n) n)
  if !((t == 0x04 && b.length == 1 + 2 * n) || ((t == 0x02 || t == 0x03) && b.length == 1 + n)) then some rejected
  else if p ≤ x || (t == 0x04 && decide (p ≤ y)) then some badOperand
  else
    let r := ecRhs set x
    if t = 0x04 then (if y * y % p = r then none else some rejected)
    else
      let z := pow p r ((p + 1) / 4)
      if z * z % p = r then none else some rejected

/-- The first of the four candidates that lies in [1, n − 1] (R263). -/
def ecCandidate (set : Nat) (rnd : Bytes) : Option Nat :=
  (((List.range 4).map (fun i => beNat (slice rnd (ecLen set * i) (ecLen set)))).find? (fun k => decide (0 < k) && decide (k < ecN set)))

/-! ### Ed25519 and X25519 -/

/-- The prime 2^255 − 19. -/
def edP : Nat := 2 ^ 255 - 19

/-- The constant d of the Edwards curve. -/
def edD : Nat := 0x52036CEE2B6FFE738CC740797779E89800700A4D4141D8AB75EB4DCA135978A3

/-- The group order ℓ. -/
def edL : Nat := 2 ^ 252 + 27742317777372353535851937790883648493

/-- Decode a point (RFC 8032, 5.1.3), its y below p already checked. -/
def edDecode (b : Bytes) : Option (Nat × Nat) :=
  let v := leNat b
  let y := v % 2 ^ 255
  let sgn := v / 2 ^ 255
  let u := (y * y + edP - 1) % edP
  let w := (edD * y % edP * y + 1) % edP
  let x0 := u * pow edP w 3 % edP * pow edP (u * pow edP w 7) ((edP - 5) / 8) % edP
  let c := w * x0 % edP * x0 % edP
  let root := if c = u then some x0 else if c = (edP - u) % edP then some (x0 * pow edP 2 ((edP - 1) / 4) % edP) else none
  match root with
  | none => none
  | some x => if x = 0 && sgn = 1 then none else some (if x % 2 = sgn then x else edP - x, y)

/-- The sum of two points of the Edwards curve (RFC 8032, 5.1). -/
def edAdd (p q : Nat × Nat) : Nat × Nat :=
  let m (a b : Nat) : Nat := a * b % edP
  let k := m (m edD (m p.1 q.1)) (m p.2 q.2)
  let inv (a : Nat) : Nat := pow edP a (edP - 2)
  (m (p.1 * q.2 + p.2 * q.1) (inv (1 + k)), m (p.2 * q.2 + p.1 * q.1) (inv (1 + edP - k)))

/-- Double a point of the Edwards curve. -/
def edDouble (p : Nat × Nat) : Nat × Nat := edAdd p p

/-- A multiple of a point, over the 512 bits of the scalar from the highest. -/
def edMul (k : Nat) (p : Nat × Nat) : Nat × Nat :=
  (List.range 512).reverse.foldl (fun r i => let d := edDouble r; if k.testBit i then edAdd d p else d) (0, 1)

/-- A point in encoded form. -/
def edEncode (p : Nat × Nat) : Bytes := le 32 (p.2 + 2 ^ 255 * (p.1 % 2))

/-- The base point B of Ed25519. -/
def edBase : Nat × Nat :=
  (15112221349535400772501151409588531511454012693041857206046113283949847762202,
   46316835694926478169428394003475163141307993866256225615783033603165251855960)

/-- Ed25519 verification without the cofactor (R269): [S]B equals R + [k]A, with points compared in encoded form. -/
def edVerify (a r : Bytes) (s : Nat) (msg : Bytes) : Bool :=
  match edDecode a, edDecode r with
  | some pa, some pr =>
    let k := leNat (digest 3 0 (r ++ a ++ msg)) % edL
    edEncode (edMul s edBase) == edEncode (edAdd pr (edMul k pa))
  | _, _ => false

/-- The status an Ed25519 point fails with (R264). -/
def edPoint (b : Bytes) (badOperand rejected : Nat) : Option Nat :=
  if edP ≤ leNat b % 2 ^ 255 then some badOperand
  else
    match edDecode b with
    | none => some rejected
    | some p => if edDouble (edDouble (edDouble p)) = (0, 1) then some rejected else none

/-- An X25519 coordinate after masking is below p (R264). -/
def xCoord (b : Bytes) : Bool := decide (leNat b % 2 ^ 255 < edP)

/-! ### ML-KEM -/

/-- Every coefficient of an encapsulation key is below q (R264): 12-bit coefficients packed two in three bytes, before the 32-byte
seed. -/
def ekOk (b : Bytes) : Bool :=
  (List.range ((b.length - 32) / 3)).all (fun i =>
    let v := leAt b (3 * i) 3
    decide (v % 4096 < 3329) && decide (v / 4096 < 3329))

end Sys2Proof.Machine
end

