-- ==== Sys2Proof/Machine/PublicKey.lean ====
section
/-! DEFINITION. The 0x07xx and 0x08xx commands (spec/12): the order of checks of R226 and R266, the admission checks of R264, the
redraws of R263 and the degenerate cases of R265 around the opaque primitives of Config. -/

namespace Sys2Proof.Machine

/-! ### Sets, keys, policy -/

/-- An RSA set (R255). -/
def isRsa (set : Nat) : Bool := decide (1 ≤ set) && decide (set ≤ 5)

/-- A P-256 or P-384 set. -/
def isEc (set : Nat) : Bool := set == 0x20 || set == 0x21

/-- The RSA modulus length in bits (R255). -/
def rsaBits (set : Nat) : Nat := 2048 + 512 * (set - 1)

/-- The digest length of a hash code (R255). -/
def hashLen (h : Nat) : Nat := if h = 1 then 32 else if h = 2 then 48 else 64

def isHash (h : Nat) : Bool := h == 1 || h == 2 || h == 3

/-- The key type of a private key of a set (R297). -/
def typeOfSet (set : Nat) : Nat :=
  if isRsa set then 0x20 else if set = 0x20 then 0x21 else if set = 0x21 then 0x22 else if set = 0x28 then 0x23
  else if set = 0x29 then 0x24 else if set = 0x40 then 0x30 else if set = 0x41 then 0x31 else 0x32

/-- The algorithm letter of a private key of a set (R301). -/
def algOfSet (set : Nat) : Nat := if isRsa set then letter 'R' else if set < 0x40 then letter 'E' else 0

/-- The narrowings of R266 that meet a set. -/
def State.setNarrowed (s : State) (a set : Nat) : Bool :=
  (s.narrows a).any (fun x => match x with
    | .noSet c => c == set
    | .rsaMin n => isRsa set && decide (rsaBits set < n)
    | _ => false)

/-- A hash code below the least permitted. -/
def State.hashNarrowed (s : State) (a h : Nat) : Bool :=
  (s.narrows a).any (fun x => match x with
    | .hashMin c => decide (h < c)
    | _ => false)

/-- Go on where the policy tables permit (step 3 of R226). -/
def permit (s : State) (bad : Bool) (f : OpRes) : OpRes := if bad then .fail s St.policyRefused else f

/-- Go on where a private key has the mode, then the usage and set, a command requires (R267). -/
def KeySnap.requireSet (k : KeySnap) (s : State) (mode : Char) (use : Bytes) (set : Nat) (f : OpRes) : OpRes :=
  if attrMode k.attr ≠ letter mode then .fail s St.keyUseDenied
  else if attrUsage k.attr ≠ use || setOfType k.ktype (leAt k.attr 8 2) ≠ some set then .fail s St.keyAttrMismatch
  else f

/-- Go on where admission checks have no failure (R264). -/
def admits (s : State) (l : List (Option Nat)) (f : OpRes) : OpRes :=
  match l.findSome? id with
  | some x => .fail s x
  | none => f

/-- Refuse with BAD_OPERAND unless a condition holds. -/
def need (c : Bool) : Option Nat := if c then none else some St.badOperand

/-- The outcome of a verification. -/
def verdict (s : State) (ok : Bool) : OpRes := if ok then .ok s else .fail s St.verifyFailed

/-! ### Key pairs -/

/-- The random bytes of a key pair (R261). -/
def pairDraw (set : Nat) : Nat := if isEc set then 4 * ecLen set else if set = 0x40 || set = 0x41 then 64 else 32

/-- The length of a private key in its standard encoding (R255, R306). -/
def privLen (set : Nat) : Nat :=
  if isRsa set then 5 * (rsaBits set / 16) else if isEc set then ecLen set else if set = 0x40 then 2400
  else if set = 0x41 then 3168 else if set = 0x48 then 4032 else 32

/-- The private key of a set from its draw; none where no candidate is usable (R263). -/
def makePriv (set : Nat) (rnd : Bytes) : Option Bytes :=
  if isEc set then (ecCandidate set rnd).map (be (ecLen set))
  else if set = 0x28 || set = 0x29 then some rnd
  else (Config.keyGen set rnd).map (fit (privLen set))

/-- The usage and mode a set's private key may take (R267). -/
def pairUse (set : Nat) (use : Bytes) (mode : Nat) : Bool :=
  let s0 := use == usage2 'S' '0' && mode == letter 'S'
  let k3 := use == usage2 'K' '3' && mode == letter 'X'
  if isEc set then s0 || k3 else if isRsa set || set = 0x28 || set = 0x48 then s0 else k3

/-- PK_KEYGEN and PQ_KEYGEN (R267, R269, R270). -/
def keyPair (sets : List Nat) : OpWork := fun gr s =>
  let b := gr.inp
  let set := byteAt b 0
  let use := slice b 2 2
  let mode := byteAt b 4
  let ex := byteAt b 5
  let st := isSteward gr.qid
  let a := allotOf gr.qid
  if b.length ≠ 8 then .form s St.badLength
  else if !sets.contains set || byteAt b 1 ≠ 0 || leAt b 6 2 ≠ 0 || !pairUse set use mode ||
      !(ex == letter 'E' || ex == letter 'S' || ex == letter 'N') then .form s St.badOperand
  else if gr.desc.outLen < 8 + publicLen set then .form s St.badLength
  else permit s (s.setNarrowed a set || s.narrowed a (.noNewExport ex))
    (gr.withDraw s (pairDraw set) (fun rnd s =>
      match makePriv set rnd with
      | none => .fail s St.roundsExhausted
      | some sk =>
        let bits := if isRsa set then rsaBits set else 8 * sk.length
        s.withKeyMade gr (tierFor st false) (typeOfSet set) (s.mkAttr st use (algOfSet set) mode ex kvnNone (typeOfSet set) bits 0) sk []
          (s.worldParent gr.qid) (fun h s => .ok s (h ++ publicKey set sk))))

def execPkKeygen (g : Nat) (s : State) : Res :=
  .next (s.whenLive (fun s => s.runOp 0x0701 g (keyPair [1, 2, 3, 4, 5, 0x20, 0x21, 0x28, 0x29])))

def execPqKeygen (g : Nat) (s : State) : Res := .next (s.whenLive (fun s => s.runOp 0x0801 g (keyPair [0x40, 0x41, 0x48])))

/-! ### RSA -/

/-- The header RSA_SIGN and RSA_VERIFY share is sound. -/
def rsaHead (b : Bytes) : Bool :=
  isRsa (byteAt b 0) && (byteAt b 1 == 1 || byteAt b 1 == 2) && isHash (byteAt b 2) && byteAt b 3 == 0

/-- RSA_SIGN (R269): PSS draws its salt (R261). -/
def rsaSign : OpWork := fun gr s =>
  let b := gr.inp
  let set := byteAt b 0
  let scheme := byteAt b 1
  let h := byteAt b 2
  let n := rsaBits set / 8
  let a := allotOf gr.qid
  let alg := 0x1000 * h + 0x100 * scheme + set
  let fin (s : State) (k : KeySnap) (salt : Bytes) : OpRes := .ok s (signSure alg n k.key (b.drop 4) salt)
  if b.length < 4 then .form s St.badLength
  else if !rsaHead b then .form s St.badOperand
  else if b.length ≠ 4 + hashLen h || gr.desc.outLen < n then .form s St.badLength
  else gr.withKey s 0 (fun k => k.requireSet s 'S' (usage2 'S' '0') set
    (permit s (s.setNarrowed a set || s.hashNarrowed a h || (scheme == 1 && s.narrowed a .noPkcs))
      (if scheme = 2 then gr.withDraw s (hashLen h) (fun salt s => fin s k salt) else fin s k [])))

def execRsaSign (g : Nat) (s : State) : Res := .next (s.whenLive (fun s => s.runOp 0x0702 g rsaSign))

/-- RSA_VERIFY (R264, R269). -/
def rsaVerify : OpWork := fun gr s =>
  let b := gr.inp
  let set := byteAt b 0
  let h := byteAt b 2
  let n := rsaBits set / 8
  let hl := hashLen h
  let a := allotOf gr.qid
  let m := slice b (4 + hl) n
  let sig := slice b (4 + hl + n) n
  if b.length < 4 then .form s St.badLength
  else if !rsaHead b then .form s St.badOperand
  else if b.length ≠ 4 + hl + 2 * n then .form s St.lengthMismatch
  else permit s (s.setNarrowed a set || s.hashNarrowed a h)
    (admits s [need (decide (2 ^ (8 * n - 1) ≤ beNat m) && beNat m % 2 == 1), need (decide (beNat sig < beNat m))]
      (verdict s (Config.sigVerify (0x1000 * h + 0x100 * byteAt b 1 + set) m (slice b 4 hl) sig)))

def execRsaVerify (g : Nat) (s : State) : Res := .next (s.whenLive (fun s => s.runOp 0x0703 g rsaVerify))

/-! ### Elliptic curves -/

/-- The header ECDSA_SIGN and ECDSA_VERIFY share is sound. -/
def ecHead (b : Bytes) : Bool := isEc (byteAt b 0) && isHash (byteAt b 1) && leAt b 2 2 == 0

/-- ECDSA_SIGN (R263, R269). -/
def ecdsaSign : OpWork := fun gr s =>
  let b := gr.inp
  let set := byteAt b 0
  let h := byteAt b 1
  let n := ecLen set
  let a := allotOf gr.qid
  if b.length < 4 then .form s St.badLength
  else if !ecHead b then .form s St.badOperand
  else if b.length ≠ 4 + hashLen h || gr.desc.outLen < 2 * n then .form s St.badLength
  else gr.withKey s 0 (fun k => k.requireSet s 'S' (usage2 'S' '0') set
    (permit s (s.setNarrowed a set || s.hashNarrowed a h)
      (gr.withDraw s (4 * n) (fun rnd s =>
        match ecCandidate set rnd with
        | none => .fail s St.roundsExhausted
        | some c =>
          match sign set (2 * n) k.key (b.drop 4) (be n c) with
          | none => .fail s St.roundsExhausted
          | some sig => if allZero (sig.take n) || allZero (sig.drop n) then .fail s St.roundsExhausted else .ok s sig))))

def execEcdsaSign (g : Nat) (s : State) : Res := .next (s.whenLive (fun s => s.runOp 0x0711 g ecdsaSign))

/-- The status a P-256 or P-384 point fails with. -/
def pointCheck (set : Nat) (b : Bytes) : Option Nat := ecPoint set b St.badOperand St.pointRejected

/-- A scalar in [1, n − 1]. -/
def inOrder (set : Nat) (b : Bytes) : Bool := decide (0 < beNat b) && decide (beNat b < ecN set)

/-- ECDSA_VERIFY (R264, R265, R269). -/
def ecdsaVerify : OpWork := fun gr s =>
  let b := gr.inp
  let set := byteAt b 0
  let h := byteAt b 1
  let n := ecLen set
  let hl := hashLen h
  let a := allotOf gr.qid
  let pl := b.length - (4 + hl + 2 * n)
  let pt := slice b (4 + hl) pl
  let sig := b.drop (4 + hl + pl)
  if b.length < 4 then .form s St.badLength
  else if !ecHead b then .form s St.badOperand
  else if b.length < 4 + hl + 2 * n || (pl ≠ 1 + 2 * n && pl ≠ 1 + n) then .form s St.lengthMismatch
  else permit s (s.setNarrowed a set || s.hashNarrowed a h)
    (admits s [pointCheck set pt, need (inOrder set (sig.take n)), need (inOrder set (sig.drop n))]
      (verdict s (Config.sigVerify set pt (slice b 4 hl) sig)))

def execEcdsaVerify (g : Nat) (s : State) : Res := .next (s.whenLive (fun s => s.runOp 0x0712 g ecdsaVerify))

/-- Derive a key from a shared value by a KDF code (R268). -/
def deriveShared (kdf : Nat) (z info : Bytes) (klen : Nat) : Bytes :=
  (if kdf = 1 then oneStep z info else hkdf [] z info).take klen

/-- The header of the commands that derive a key is sound (R268 to R270). -/
def deriveHead (b : Bytes) : Bool :=
  (byteAt b 1 == 1 || byteAt b 1 == 2) && decide (byteAt b 2 ≤ 64) && byteAt b 3 == 0 && (derivedBlock (slice b 4 8)).isSome

/-- Make the derived key of a shared value (R268). -/
def makeDerived (gr : Graph) (s : State) (b z : Bytes) (f : Bytes → State → OpRes) : OpRes :=
  let st := isSteward gr.qid
  let blk := slice b 4 8
  match derivedBlock blk with
  | none => .form s St.badOperand
  | some (t, klen) =>
    s.withKeyMade gr (tierFor st (isKek (blk.take 2))) t (s.derivedAttr st blk t klen 0)
      (deriveShared (byteAt b 1) z (slice b 12 (byteAt b 2)) klen) [] (s.worldParent gr.qid) f

/-- ECDH_DERIVE (R265, R268, R269). -/
def ecdhDerive : OpWork := fun gr s =>
  let b := gr.inp
  let set := byteAt b 0
  let i := byteAt b 2
  let a := allotOf gr.qid
  let peer := b.drop (12 + i)
  let zl := if set = 0x29 then 32 else ecLen set
  if b.length < 12 then .form s St.badLength
  else if !(isEc set || set == 0x29) || !deriveHead b then .form s St.badOperand
  else if b.length < 12 + i || (set = 0x29 && peer.length ≠ 32) ||
      (isEc set && peer.length ≠ 1 + 2 * ecLen set && peer.length ≠ 1 + ecLen set) then .form s St.lengthMismatch
  else gr.withKey s 0 (fun k => k.requireSet s 'X' (usage2 'K' '3') set
    (permit s (s.setNarrowed a set)
      (admits s [if set = 0x29 then need (xCoord peer) else pointCheck set peer]
        (let z := fit zl (Config.agree set k.key peer)
         if set = 0x29 && allZero z then .fail s St.pointRejected
         else makeDerived gr s b z (fun h s => .ok s h)))))

def execEcdhDerive (g : Nat) (s : State) : Res := .next (s.whenLive (fun s => s.runOp 0x0713 g ecdhDerive))

/-- EC_POINT_MUL (R264, R265, R269): a zero scalar gives the point at infinity. -/
def ecPointMul : OpWork := fun gr s =>
  let b := gr.inp
  let set := byteAt b 0
  let n := ecLen set
  let a := allotOf gr.qid
  let k := slice b 4 n
  let pt := b.drop (4 + n)
  if b.length < 4 then .form s St.badLength
  else if !isEc set || leAt b 1 3 ≠ 0 then .form s St.badOperand
  else if b.length ≠ 4 + n + (1 + 2 * n) && b.length ≠ 4 + n + (1 + n) then .form s St.lengthMismatch
  else if gr.desc.outLen < 1 + 2 * n then .form s St.badLength
  else permit s (s.setNarrowed a set)
    (admits s [need (decide (beNat k < ecN set)), pointCheck set pt]
      (match (if beNat k = 0 then none else Config.pointMul set k pt) with
        | some r => .ok s (fit (1 + 2 * n) r)
        | none => { status := St.doneInf, out := zeros (1 + 2 * n), st := s }))

def execEcPointMul (g : Nat) (s : State) : Res := .next (s.whenLive (fun s => s.runOp 0x0714 g ecPointMul))

/-- ED25519_SIGN (R269). -/
def ed25519Sign : OpWork := fun gr s =>
  let b := gr.inp
  let a := allotOf gr.qid
  if b.length < 4 || 65536 < b.length || gr.desc.outLen < 64 then .form s St.badLength
  else if byteAt b 0 ≠ 0x28 || leAt b 1 3 ≠ 0 then .form s St.badOperand
  else gr.withKey s 0 (fun k => k.requireSet s 'S' (usage2 'S' '0') 0x28
    (permit s (s.setNarrowed a 0x28) (.ok s (signSure 0x28 64 k.key (b.drop 4) []))))

def execEd25519Sign (g : Nat) (s : State) : Res := .next (s.whenLive (fun s => s.runOp 0x0721 g ed25519Sign))

/-- ED25519_VERIFY (R264, R269). -/
def ed25519Verify : OpWork := fun gr s =>
  let b := gr.inp
  let a := allotOf gr.qid
  let pt (o : Nat) : Option Nat := edPoint (slice b o 32) St.badOperand St.pointRejected
  if b.length < 100 || 65636 < b.length then .form s St.badLength
  else if byteAt b 0 ≠ 0x28 || leAt b 1 3 ≠ 0 then .form s St.badOperand
  else permit s (s.setNarrowed a 0x28)
    (admits s [pt 4, pt 36, need (decide (leAt b 68 32 < edL))]
      (verdict s (edVerify (slice b 4 32) (slice b 36 32) (leAt b 68 32) (b.drop 100))))

def execEd25519Verify (g : Nat) (s : State) : Res := .next (s.whenLive (fun s => s.runOp 0x0722 g ed25519Verify))

/-! ### Post-quantum -/

/-- The length of an encapsulation key, and of a ciphertext (R255). -/
def ekLen (set : Nat) : Nat := if set = 0x40 then 1184 else 1568
def ctLen (set : Nat) : Nat := if set = 0x40 then 1088 else 1568

/-- MLKEM_ENCAPS (R264, R268, R270). -/
def mlkemEncaps : OpWork := fun gr s =>
  let b := gr.inp
  let set := byteAt b 0
  let i := byteAt b 2
  let a := allotOf gr.qid
  let ek := b.drop (12 + i)
  if b.length < 12 then .form s St.badLength
  else if !(set == 0x40 || set == 0x41) || !deriveHead b then .form s St.badOperand
  else if b.length ≠ 12 + i + ekLen set || gr.desc.outLen < 8 + ctLen set then .form s St.badLength
  else permit s (s.setNarrowed a set)
    (admits s [need (ekOk ek)]
      (gr.withDraw s 32 (fun m s =>
        let r := Config.encaps set ek m
        makeDerived gr s b (fit 32 r.2) (fun h s => .ok s (h ++ fit (ctLen set) r.1)))))

def execMlkemEncaps (g : Nat) (s : State) : Res := .next (s.whenLive (fun s => s.runOp 0x0802 g mlkemEncaps))

/-- MLKEM_DECAPS: a ciphertext that does not re-encrypt derives the implicit-rejection key (R265). -/
def mlkemDecaps : OpWork := fun gr s =>
  let b := gr.inp
  let set := byteAt b 0
  let i := byteAt b 2
  let a := allotOf gr.qid
  if b.length < 12 then .form s St.badLength
  else if !(set == 0x40 || set == 0x41) || !deriveHead b then .form s St.badOperand
  else if b.length ≠ 12 + i + ctLen set then .form s St.badLength
  else gr.withKey s 0 (fun k => k.requireSet s 'X' (usage2 'K' '3') set
    (permit s (s.setNarrowed a set)
      (makeDerived gr s b (fit 32 (Config.decaps set k.key (b.drop (12 + i)))) (fun h s => .ok s h))))

def execMlkemDecaps (g : Nat) (s : State) : Res := .next (s.whenLive (fun s => s.runOp 0x0803 g mlkemDecaps))

/-- MLDSA_SIGN: hedged with 32 drawn bytes; 128 rounds at most (R261, R263, R270). -/
def mldsaSign : OpWork := fun gr s =>
  let b := gr.inp
  let c := byteAt b 2
  let a := allotOf gr.qid
  if b.length < 4 then .form s St.badLength
  else if byteAt b 0 ≠ 0x48 || byteAt b 1 ≠ 0 || byteAt b 3 ≠ 0 then .form s St.badOperand
  else if b.length < 4 + c || 65536 < b.length - (4 + c) || gr.desc.outLen < 3309 then .form s St.badLength
  else gr.withKey s 0 (fun k => k.requireSet s 'S' (usage2 'S' '0') 0x48
    (permit s (s.setNarrowed a 0x48)
      (gr.withDraw s 32 (fun rnd s =>
        match sign 0x48 3309 k.key (pureMsg (slice b 4 c) (b.drop (4 + c))) rnd with
        | some sig => .ok s sig
        | none => .fail s St.roundsExhausted))))

def execMldsaSign (g : Nat) (s : State) : Res := .next (s.whenLive (fun s => s.runOp 0x0811 g mldsaSign))

/-- MLDSA_VERIFY (R270). -/
def mldsaVerify : OpWork := fun gr s =>
  let b := gr.inp
  let c := byteAt b 2
  let a := allotOf gr.qid
  if b.length < 4 then .form s St.badLength
  else if byteAt b 0 ≠ 0x48 || byteAt b 1 ≠ 0 || byteAt b 3 ≠ 0 then .form s St.badOperand
  else if b.length < 5265 + c || 65536 < b.length - (5265 + c) then .form s St.badLength
  else permit s (s.setNarrowed a 0x48)
    (verdict s (verifyPure 0x48 (slice b 4 1952) (slice b 5265 c) (b.drop (5265 + c)) (slice b 1956 3309)))

def execMldsaVerify (g : Nat) (s : State) : Res := .next (s.whenLive (fun s => s.runOp 0x0812 g mldsaVerify))

/-- SLHDSA_VERIFY (R270). -/
def slhdsaVerify : OpWork := fun gr s =>
  let b := gr.inp
  let set := byteAt b 0
  let c := byteAt b 2
  let n := if set = 0x50 then 7856 else 17088
  let a := allotOf gr.qid
  if b.length < 4 then .form s St.badLength
  else if !(set == 0x50 || set == 0x51) || byteAt b 1 ≠ 0 || byteAt b 3 ≠ 0 then .form s St.badOperand
  else if b.length < 36 + n + c || 65536 < b.length - (36 + n + c) then .form s St.badLength
  else permit s (s.setNarrowed a set)
    (verdict s (verifyPure set (slice b 4 32) (slice b (36 + n) c) (b.drop (36 + n + c)) (slice b 36 n)))

def execSlhdsaVerify (g : Nat) (s : State) : Res := .next (s.whenLive (fun s => s.runOp 0x0821 g slhdsaVerify))

end Sys2Proof.Machine
end

