-- ==== Sys2Proof/Machine/PayOps.lean ====
section
/-! DEFINITION. What the payment commands share (spec/11): PAN operands, PIN blocks (R232, R233), payment MACs (R238), DUKPT headers
(R243), key blocks (R246 to R250). -/

namespace Sys2Proof.Machine

/-! ### PAN operands (R224) -/

/-- The digits of a PAN operand; none where it is malformed. A length of 0 gives no digits. -/
def panOf (b : Bytes) : Option (List Nat) :=
  let n := byteAt b 0
  let d := slice b 1 n
  if (n = 0 || (12 ≤ n && n ≤ 19)) && d.all isDigit && allZero (slice b (1 + n) (19 - n)) then some (d.map digitOf) else none

/-- The 12 rightmost digits but the check digit, padded on the left with 0 (R232). -/
def pan12 (pan : List Nat) : List Nat :=
  let d := pan.dropLast
  let r := d.drop (d.length - 12)
  List.replicate (12 - r.length) 0 ++ r

/-- The 11 rightmost digits but the check digit (R236). -/
def pan11 (pan : List Nat) : List Nat := (pan12 pan).drop 1

/-! ### PIN blocks -/

/-- A format the module handles (R232). -/
def pinFormat (f : Nat) : Bool := f == 0 || f == 1 || f == 3 || f == 4

/-- A PAN-bound format. -/
def panBound (f : Nat) : Bool := f == 0 || f == 3 || f == 4

/-- The length of a PIN block of a format (R232). -/
def pinLen (f : Nat) : Nat := if f = 4 then 16 else 8

/-- The key types of a format's cipher. -/
def pinTypes (f : Nat) : List Nat := if f = 4 then [3, 4, 5] else [1, 2]

/-- The PAN field that binds a PIN block of 8 bytes. -/
def panField (pan : List Nat) : Bytes := pack ([0, 0, 0, 0] ++ pan12 pan)

/-- The PAN block of format 4: the length less 12, the digits, zeros. -/
def panField4 (pan : List Nat) : Bytes := fit 16 (pack ((pan.length - 12) :: pan))

/-- The nibbles of the plain PIN field of a decrypted block. -/
def pinField (f : Nat) (key : Bytes) (pan : List Nat) (blk : Bytes) : List Nat :=
  if f = 4 then nibbles (decB 1 key (xorB (decB 1 key blk) (panField4 pan)))
  else
    let p := decB 0 key (blk.take 8)
    nibbles (if panBound f then xorB p (panField pan) else p)

/-- The least PIN length in force (R233). -/
def State.pinMin (s : State) (a : Nat) : Nat :=
  (s.narrows a).foldl (fun m x => match x with
    | .pinMin n => max m (min n 8)
    | _ => m) 4

/-- The PIN of a field that passes its check (R233). -/
def checkPin (f min : Nat) (nb : List Nat) : Option (List Nat) :=
  let n := (nb[1]?).getD 0
  let pin := (nb.drop 2).take n
  let fill := (nb.take 16).drop (2 + n)
  let fillOk := if f = 0 then fill.all (fun x => x == 15) else if f = 3 then fill.all (fun x => decide (10 ≤ x))
    else if f = 4 then fill.all (fun x => x == 10) else true
  if (nb[0]?).getD 15 = f && min ≤ n && n ≤ 12 && pin.all (fun x => decide (x ≤ 9)) && fillOk then some pin else none

/-- The random bytes the fill of a format draws (R232). -/
def pinDraw (f : Nat) : Nat := if f = 0 then 0 else if f = 3 then 12 else 8

/-- Encipher a PIN into a block of a format under the fill drawn (R232). -/
def buildPin (f : Nat) (key : Bytes) (pan pin : List Nat) (rnd : Bytes) : Bytes :=
  let n := pin.length
  let head := [f, n] ++ pin
  let fill := if f = 0 then List.replicate 14 15 else if f = 1 then nibbles rnd
    else if f = 3 then rnd.map (fun x => 10 + x.toNat % 6) else List.replicate 14 10
  let fld := pack ((head ++ fill).take 16)
  if f = 4 then encB 1 key (xorB (encB 1 key (fld ++ rnd.take 8)) (panField4 pan))
  else encB 0 key (if panBound f then xorB fld (panField pan) else fld)

/-- Record a PIN block that failed its check (R233). -/
def State.notePin (s : State) (gr : Graph) : State := s.post 0x3010 (allotOf gr.qid) gr.desc.opcode 0

/-- A pair of formats that the matrix refuses (R234). -/
def pairRefused (i o : Nat) : Bool := o == 1 && i != 1

/-- The matrix or the policy tables refuse a pair (R234). -/
def State.pairBarred (s : State) (a i o : Nat) : Bool := pairRefused i o || s.narrowed a (.noPair i o)

/-- A PIN block as the input holds it: a block of 8 bytes is followed by zeros (R235). -/
def pinBlockOk (f : Nat) (b : Bytes) : Bool := f == 4 || allZero (b.drop 8)

/-- Whether two handle positions hold one handle (R227). -/
def Graph.repeats (gr : Graph) : Bool :=
  let d := gr.desc
  (d.key0 != 0 && (d.key0 == d.key1 || d.key0 == d.key2)) || (d.key1 != 0 && d.key1 == d.key2)

/-- Take a key of a position with what the command requires of it (R226, R227). -/
def Graph.take (gr : Graph) (s : State) (pos : Nat) (modes : List Char) (use : Bytes) (types : List Nat) (f : KeySnap → OpRes) : OpRes :=
  gr.withKey s pos (fun k => k.require s modes [use] types (f k))

/-! ### MACs (R238) -/

/-- A MAC algorithm code. -/
def macCode (c : Nat) : Bool := decide (1 ≤ c) && decide (c ≤ 5)

/-- The usage and the key types of an algorithm. -/
def macUse (c : Nat) : Bytes := if c ≤ 2 then usage2 'M' '1' else if c ≤ 4 then usage2 'M' '3' else usage2 'M' '6'
def macTypes (c : Nat) : List Nat := if c ≤ 2 then [1, 2] else if c ≤ 4 then [1] else [1, 2, 3, 4, 5]

/-- A MAC length that some key of the algorithm allows. -/
def macLenOk (c n : Nat) : Bool := decide (4 ≤ n) && decide (n ≤ if c = 5 then 16 else 8)

/-- The full MAC of a message. -/
def macOf (c ktype : Nat) (key msg : Bytes) : Bytes :=
  if c = 1 || c = 2 then mac1 0 c key msg
  else if c = 3 || c = 4 then
    (if key.length = 16 then mac3 (c - 2) key msg else fit 8 (Config.mac3Open (c - 2) key msg))
  else cmac (if ktype ≤ 2 then 0 else 1) key msg

/-- The policy tables ask for a longer MAC (R238). -/
def State.macBarred (s : State) (a n : Nat) : Bool :=
  (s.narrows a).any (fun x => match x with
    | .macMin m => decide (n < min m 8)
    | _ => false)

/-- A CMAC of a TDEA key has 8 bytes; a longer length does not suit the key (log 35). -/
def macFits (c n ktype : Nat) : Bool := !(c == 5 && decide (8 < n) && decide (ktype ≤ 2))

/-! ### Decimalisation (R236) -/

/-- The digits of a block, those of its nibbles first that are at most 9. -/
def decimalise (b : Bytes) : List Nat :=
  let n := nibbles b
  n.filter (fun x => decide (x ≤ 9)) ++ (n.filter (fun x => decide (10 ≤ x))).map (fun x => x - 10)

/-- ASCII digits. -/
def asciiDigits (l : List Nat) : Bytes := l.map digitByte

/-! ### DUKPT (R243, R244) -/

/-- The transaction counter of a key serial number: variant 1 AES, 2 TDEA. -/
def ksnCounter (v : Nat) (ksn : Bytes) : Nat := if v = 1 then beNat (slice ksn 8 4) else beNat (slice ksn 7 3) % 2 ^ 21

/-- The header of a DUKPT command is sound (R243 step 1). -/
def dukptHead (b : Bytes) : Bool :=
  let v := byteAt b 0
  let w := byteAt b 1
  let ksn := slice b 4 12
  let c := ksnCounter v ksn
  ((v == 1 && decide (w ≤ 4)) || (v == 2 && w == 0 && allZero (slice b 14 2))) && decide (0 < c) &&
    decide (popCount 32 c ≤ if v = 1 then 16 else 10)

/-- The BDK suits the variant and the working key type (R243 step 2). -/
def bdkOk (v w ktype : Nat) : Bool := if v = 2 then ktype == 1 else decide (3 ≤ ktype) && decide (ktype ≤ 5) && decide (w + 1 ≤ ktype)

/-- The length of a working key by its type code. -/
def workLen (w : Nat) : Nat := if w = 0 || w = 2 then 16 else if w = 1 || w = 3 then 24 else 32

/-- The working key's cipher is AES. -/
def workAes (w : Nat) : Bool := decide (2 ≤ w)

/-- The working key for a usage: 1 PIN, 2 MAC verification, 3 data (ANSI X9.24). -/
def workKey (v w use : Nat) (ksn bdk : Bytes) : Bytes :=
  fit (workLen w) (Config.derive 20 [le 1 v, le 1 w, le 1 use, fit (if v = 1 then 12 else 10) ksn, bdk])

/-- Take the BDK of a DUKPT command in KEY0. -/
def Graph.takeBdk (gr : Graph) (s : State) (v w : Nat) (f : KeySnap → OpRes) : OpRes :=
  gr.take s 0 ['X'] (usage2 'B' '0') [1, 2, 3, 4, 5] (fun k => if bdkOk v w k.ktype then f k else .fail s St.keyAttrMismatch)

/-! ### Key blocks (R246 to R250) -/

/-- The modes of use TR-31 defines (PRESUMED, log 230). -/
def modeCodes : List Char := ['B', 'C', 'D', 'E', 'G', 'N', 'S', 'T', 'V', 'X', 'Y']

/-- A mode of use to write: kept, or one TR-31 defines; and an exportability (R249). -/
def modeForm (m : Nat) : Bool := m == 0 || modeCodes.any (fun c => c.toNat == m)
def exportForm (e : Nat) : Bool := e == 0 || e == letter 'E' || e == letter 'S' || e == letter 'N'

/-- A character a key version number may hold: printable ASCII (R249, log 230). -/
def isPrint (b : Byte) : Bool := decide (0x20 ≤ b.toNat) && decide (b.toNat ≤ 0x7E)

/-- The largest count of optional blocks the two digits of a header can state (R246). -/
def maxOpts : Nat := 99

/-- A hexadecimal digit as text. -/
def hexChar (n : Nat) : Byte := BitVec.ofNat 8 (if n < 10 then 0x30 + n else 0x37 + n)

/-- Text of bytes in hexadecimal. -/
def hexOf (b : Bytes) : Bytes := (nibbles b).map hexChar

/-- The value of a hexadecimal digit. -/
def hexVal (b : Byte) : Option Nat :=
  let n := b.toNat
  if 0x30 ≤ n && n ≤ 0x39 then some (n - 0x30) else if 0x41 ≤ n && n ≤ 0x46 then some (n - 0x37)
  else if 0x61 ≤ n && n ≤ 0x66 then some (n - 0x57) else none

/-- Bytes of hexadecimal text; none where it is malformed. -/
def unhex (b : Bytes) : Option Bytes := if b.length % 2 = 0 then (b.mapM hexVal).map pack else none

/-- The number of `n` decimal digits of text. -/
def decVal (b : Bytes) : Option Nat := if b.all isDigit then some (b.foldl (fun v x => 10 * v + digitOf x) 0) else none

/-- Text of a number in `n` decimal digits. -/
def decOf (n v : Nat) : Bytes := ((List.range n).reverse.map (fun i => digitByte (v / 10 ^ i % 10)))

/-- The form of a version letter: 1 TR-31 B, 2 TR-31 D, 3 ISO 20038 (log 37). -/
def kbForm (format version : Nat) : Option Nat :=
  if format = 1 && version = letter 'B' then some 1
  else if format = 1 && version = letter 'D' then some 2
  else if format = 2 && version = letter 'E' then some 3
  else none

/-- The key types a form's protection key may have. -/
def kbTypes (form : Nat) : List Nat := if form = 1 then [1, 2] else [3, 4, 5]

def kbBlock (form : Nat) : Nat := if form = 1 then 8 else 16

/-- Optional blocks in order: identifier and content; none where their structure is malformed. -/
def optBlocks : Nat → Bytes → Option (List (Bytes × Bytes) × Nat)
  | 0, _ => some ([], 0)
  | n + 1, b =>
    match unhex (slice b 2 2) with
    | some l =>
      let k := beNat l
      if 4 ≤ k && k ≤ b.length && (slice b 2 2).length = 2 then
        (optBlocks n (b.drop k)).map (fun r => ((b.take 2, slice b 4 (k - 4)) :: r.1, k + r.2))
      else none
    | none => none

/-- The identifiers the module understands (R246). -/
def optKnown (id : Bytes) : Bool :=
  [usage2 'I' 'K', usage2 'K' 'S', usage2 'T' 'S', usage2 'K' 'C', usage2 'K' 'P', usage2 'P' 'B'].contains id

/-- An optional block as text. -/
def optBlock (id content : Bytes) : Bytes := id ++ hexOf (be 1 (4 + content.length)) ++ content

/-- The content of a check value block: the method and the value in hexadecimal (R246, R316, log 37). -/
def checkContent (k : KeySnap) : Bytes :=
  let m := if k.ktype ≤ 2 then 0 else 1
  hexOf (le 1 m ++ (checkValue m k).take (if m = 0 then 3 else 5))

/-- The optional blocks a block of `key` is written with: those given, KC for the key types that have a check value, and PB where the
header needs it to fill whole cipher blocks (R249). -/
def kbOpts (form : Nat) (given : Bytes) (n : Nat) (k : KeySnap) (rnd : Bytes) : Bytes × Nat :=
  let kc := if k.ktype ≤ 5 then optBlock (usage2 'K' 'C') (checkContent k) else []
  let o := given ++ kc
  let n := n + b2n (!kc.isEmpty)
  let bs := kbBlock form
  let gap := (bs - (16 + o.length) % bs) % bs
  let p := if gap = 0 then 0 else if gap < 4 then gap + bs else gap
  if p = 0 then (o, n) else (o ++ optBlock (usage2 'P' 'B') ((rnd.take (p - 4)).map (fun x => hexChar (x.toNat % 16))), n + 1)

/-- The key data: length in bits, key, padding to whole cipher blocks (R249). -/
def kbData (form : Nat) (key rnd : Bytes) : Bytes :=
  let d := be 2 (8 * key.length) ++ key
  d ++ fit ((kbBlock form - d.length % kbBlock form) % kbBlock form) rnd

/-- The length of the MAC of a form. -/
def kbMac (form : Nat) : Nat := kbBlock form

/-- What the header of a block names. -/
structure KbHead where
  use : Bytes
  alg : Nat
  mode : Nat
  kvn : Bytes
  exp : Nat

/-- The algorithm letter as the header shows it (log 37). -/
def kbAlg (alg : Nat) : Byte := BitVec.ofNat 8 (if alg = 0 then 0x30 else alg)

/-- A key block (R246, R249): header, optional blocks, encrypted data and MAC, in printable form. `rnd` gives 16 bytes for PB and 16
for the padding of the key data. -/
def keyBlock (form version : Nat) (kbpk : Bytes) (h : KbHead) (given : Bytes) (n : Nat) (k : KeySnap) (rnd : Bytes) : Bytes :=
  let o := kbOpts form given n k (rnd.take 32)
  let data := kbData form k.key (rnd.drop 32)
  let total := 16 + o.1.length + 2 * (data.length + kbMac form)
  let head := le 1 version ++ decOf 4 total ++ h.use ++ [kbAlg h.alg] ++ le 1 h.mode ++ h.kvn ++ le 1 h.exp ++ decOf 2 o.2 ++ ascii [0x30, 0x30] ++
    o.1
  head ++ hexOf (fit (data.length + kbMac form) (Config.kbSeal form kbpk head data))

/-- The length of the block `keyBlock` makes. -/
def keyBlockLen (form : Nat) (given : Bytes) (k : KeySnap) : Nat :=
  16 + (kbOpts form given 0 k (zeros 32)).1.length + 2 * ((kbData form k.key (zeros 16)).length + kbMac form)

end Sys2Proof.Machine
end

