-- ==== Sys2Proof/Machine/Payment.lean ====
section
/-! DEFINITION. The payment commands 0x02xx to 0x06xx (spec/11), each in the order of checks of R226. -/

namespace Sys2Proof.Machine

/-! ### PIN commands (R232 to R237) -/

/-- What follows the form of a PIN translation: the pair, the decrypted block, the new block (R233, R234). -/
def translatePin (gr : Graph) (s : State) (i o : Nat) (inKey outKey : Bytes) (pan : List Nat) (blk : Bytes) : OpRes :=
  let a := allotOf gr.qid
  if s.pairBarred a i o then .fail s St.policyRefused
  else
    match checkPin i (s.pinMin a) (pinField i inKey pan blk) with
    | none => .fail (s.notePin gr) St.badOperand
    | some pin =>
      if pinDraw o = 0 then .ok s (buildPin o outKey pan pin [])
      else gr.withDraw s (pinDraw o) (fun rnd s => .ok s (buildPin o outKey pan pin rnd))

/-- The PAN operand of a translation: given when a format is bound, else 0 (R234). -/
def panFor (i o : Nat) (pan : Option (List Nat)) : Option (List Nat) :=
  pan.filter (fun p => if panBound i || panBound o then !p.isEmpty else p.isEmpty)

/-- PIN_TRANSLATE (R234, R235). -/
def pinTranslate : OpWork := fun gr s =>
  let b := gr.inp
  let i := byteAt b 0
  let o := byteAt b 1
  let blk := slice b 24 16
  if b.length ≠ 40 then .form s St.badLength
  else if !pinFormat i || !pinFormat o || leAt b 2 2 ≠ 0 || !pinBlockOk i blk then .form s St.badOperand
  else if gr.desc.outLen < pinLen o then .form s St.badLength
  else match panFor i o (panOf (slice b 4 20)) with
    | none => .form s St.badOperand
    | some pan =>
      gr.take s 0 ['D', 'B'] (usage2 'P' '0') (pinTypes i) (fun k0 =>
        gr.take s 1 ['E', 'B'] (usage2 'P' '0') (pinTypes o) (fun k1 => translatePin gr s i o k0.key k1.key pan blk))

def execPinTranslate (g : Nat) (s : State) : Res := .next (s.whenLive (fun s => s.runOp 0x0201 g pinTranslate))

/-- The PIN of a block that a verification or generation reads; a failed check is recorded and ends with `bad` (R233). -/
def withPin (gr : Graph) (s : State) (f : Nat) (key : Bytes) (pan : List Nat) (blk : Bytes) (bad : Nat) (go : List Nat → OpRes) : OpRes :=
  match checkPin f (s.pinMin (allotOf gr.qid)) (pinField f key pan blk) with
  | none => .fail (s.notePin gr) bad
  | some pin => go pin

/-- The PAN operand of a PIN command on one block: needed where the format is bound or the method takes the PAN (R224, R236). -/
def panOne (f : Nat) (always : Bool) (pan : Option (List Nat)) : Option (List Nat) :=
  pan.filter (fun p => !(panBound f || always) || !p.isEmpty)

/-- The decimalisation tables registered for an allotment (R237). -/
def State.dectabs (s : State) (a : Nat) : List Bytes :=
  let l := (s.narrows a).filterMap (fun x => match x with
    | .dectab t => some t
    | _ => none)
  if l.isEmpty then [asciiDigits [0, 1, 2, 3, 4, 5, 6, 7, 8, 9, 0, 1, 2, 3, 4, 5]] else l

/-- The natural PIN of the offset method (R236). -/
def naturalPin (key table val : Bytes) (n : Nat) : List Nat :=
  ((nibbles (encB 0 key val)).map (fun x => digitOf ((table[x]?).getD 0x30))).take n

/-- What PIN_VERIFY_OFFSET and PIN_GENERATE_OFFSET share (R235 to R237). -/
def offsetMethod (gr : Graph) (s : State) (len : Nat) (extra : Bytes → Bool) (modes : List Char) (bad : Nat)
    (go : List Nat → List Nat → OpRes) : OpRes :=
  let b := gr.inp
  let f := byteAt b 0
  let l := byteAt b 1
  let blk := slice b 24 16
  let table := slice b 40 16
  let a := allotOf gr.qid
  if b.length ≠ len then .form s St.badLength
  else if gr.repeats || !pinFormat f || l < 4 || 12 < l || leAt b 2 2 ≠ 0 || !pinBlockOk f blk || !table.all isDigit || !extra b then
    .form s St.badOperand
  else match panOne f false (panOf (slice b 4 20)) with
    | none => .form s St.badOperand
    | some pan =>
      gr.take s 0 ['D', 'B'] (usage2 'P' '0') (pinTypes f) (fun k0 =>
        gr.take s 1 modes (usage2 'V' '1') [1] (fun k1 =>
          if s.lc.st = 2 && !(s.dectabs a).contains table then .fail s St.policyRefused
          else withPin gr s f k0.key pan blk bad (fun pin =>
            if pin.length < l then .fail s bad else go (pin.take l) (naturalPin k1.key table (slice b 56 8) l))))

/-- PIN_VERIFY_OFFSET (R236). -/
def pinVerifyOffset : OpWork := fun gr s =>
  let off (b : Bytes) : Bytes := slice b 64 (byteAt b 1)
  offsetMethod gr s 76 (fun b => (off b).all isDigit && allZero (slice b (64 + byteAt b 1) (12 - byteAt b 1))) ['V', 'C'] St.verifyFailed
    (fun pin nat => verdict s (List.zipWith (fun n o => (n + o) % 10) nat ((off gr.inp).map digitOf) == pin))

def execPinVerifyOffset (g : Nat) (s : State) : Res := .next (s.whenLive (fun s => s.runOp 0x0202 g pinVerifyOffset))

/-- PIN_GENERATE_OFFSET (R236). -/
def pinGenerateOffset : OpWork := fun gr s =>
  offsetMethod gr s 64 (fun _ => true) ['G', 'C'] St.badOperand
    (fun pin nat => .ok s (fit 12 (asciiDigits (List.zipWith (fun p n => (p + 10 - n) % 10) pin nat))))

def execPinGenerateOffset (g : Nat) (s : State) : Res := .next (s.whenLive (fun s => s.runOp 0x0203 g pinGenerateOffset))

/-- The PVV of a PIN (R236). -/
def pvvOf (key : Bytes) (pan : List Nat) (pvki : Nat) (pin : List Nat) : List Nat :=
  (decimalise (encB 0 key (pack (pan11 pan ++ [pvki] ++ pin.take 4)))).take 4

/-- What PIN_VERIFY_PVV and PIN_GENERATE_PVV share (R235, R236). -/
def pvvMethod (gr : Graph) (s : State) (len : Nat) (extra : Bytes → Bool) (modes : List Char) (bad : Nat) (go : List Nat → OpRes) : OpRes :=
  let b := gr.inp
  let f := byteAt b 0
  let blk := slice b 24 16
  if b.length ≠ len then .form s St.badLength
  else if gr.repeats || !pinFormat f || 9 < byteAt b 1 || leAt b 2 2 ≠ 0 || !pinBlockOk f blk || !extra b then .form s St.badOperand
  else match panOne f true (panOf (slice b 4 20)) with
    | none => .form s St.badOperand
    | some pan =>
      gr.take s 0 ['D', 'B'] (usage2 'P' '0') (pinTypes f) (fun k0 =>
        gr.take s 1 modes (usage2 'V' '2') [1] (fun k1 =>
          withPin gr s f k0.key pan blk bad (fun pin => go (pvvOf k1.key pan (byteAt b 1) pin))))

/-- PIN_VERIFY_PVV (R236). -/
def pinVerifyPvv : OpWork := fun gr s =>
  pvvMethod gr s 44 (fun b => (slice b 40 4).all isDigit) ['V', 'C'] St.verifyFailed
    (fun pvv => verdict s (pvv == (slice gr.inp 40 4).map digitOf))

def execPinVerifyPvv (g : Nat) (s : State) : Res := .next (s.whenLive (fun s => s.runOp 0x0204 g pinVerifyPvv))

/-- PIN_GENERATE_PVV (R236). -/
def pinGeneratePvv : OpWork := fun gr s =>
  pvvMethod gr s 40 (fun _ => true) ['G', 'C'] St.badOperand (fun pvv => .ok s (asciiDigits pvv))

def execPinGeneratePvv (g : Nat) (s : State) : Res := .next (s.whenLive (fun s => s.runOp 0x0205 g pinGeneratePvv))

/-! ### MACs (R238, R239) -/

/-- The longest message of a MAC or DUKPT command (R239, R244). -/
def maxMessage : Nat := 4194304

/-- Take the key of a MAC algorithm. -/
def Graph.takeMac (gr : Graph) (s : State) (pos c n : Nat) (modes : List Char) (f : KeySnap → OpRes) : OpRes :=
  gr.take s pos modes (macUse c) (macTypes c) (fun k => if macFits c n k.ktype then f k else .fail s St.keyAttrMismatch)

/-- MAC_GENERATE (R239). -/
def macGenerate : OpWork := fun gr s =>
  let b := gr.inp
  let c := byteAt b 0
  let n := byteAt b 1
  if b.length < 4 || 4 + maxMessage < b.length then .form s St.badLength
  else if !macCode c || !macLenOk c n || leAt b 2 2 ≠ 0 then .form s St.badOperand
  else if gr.desc.outLen < n then .form s St.badLength
  else gr.takeMac s 0 c n ['G', 'C'] (fun k =>
    permit s (s.macBarred (allotOf gr.qid) n) (.ok s ((macOf c k.ktype k.key (b.drop 4)).take n)))

def execMacGenerate (g : Nat) (s : State) : Res := .next (s.whenLive (fun s => s.runOp 0x0301 g macGenerate))

/-- MAC_VERIFY (R239). -/
def macVerify : OpWork := fun gr s =>
  let b := gr.inp
  let c := byteAt b 0
  let n := byteAt b 1
  if b.length < 20 || 20 + maxMessage < b.length then .form s St.badLength
  else if !macCode c || !macLenOk c n || leAt b 2 2 ≠ 0 || !allZero (slice b (4 + n) (16 - n)) then .form s St.badOperand
  else gr.takeMac s 0 c n ['V', 'C'] (fun k =>
    permit s (s.macBarred (allotOf gr.qid) n) (verdict s ((macOf c k.ktype k.key (b.drop 20)).take n == slice b 4 n)))

def execMacVerify (g : Nat) (s : State) : Res := .next (s.whenLive (fun s => s.runOp 0x0302 g macVerify))

/-- MAC_TRANSLATE (R239): the new MAC only where the input MAC verifies. -/
def macTranslate : OpWork := fun gr s =>
  let b := gr.inp
  let c := byteAt b 0
  let n := byteAt b 1
  let c' := byteAt b 2
  let n' := byteAt b 3
  let a := allotOf gr.qid
  if b.length < 20 || 20 + maxMessage < b.length then .form s St.badLength
  else if !macCode c || !macLenOk c n || !macCode c' || !macLenOk c' n' || !allZero (slice b (4 + n) (16 - n)) then .form s St.badOperand
  else if gr.desc.outLen < n' then .form s St.badLength
  else gr.takeMac s 0 c n ['V', 'C'] (fun k =>
    gr.takeMac s 1 c' n' ['G', 'C'] (fun k' =>
      permit s (s.macBarred a n || s.macBarred a n')
        (if (macOf c k.ktype k.key (b.drop 20)).take n = slice b 4 n then .ok s ((macOf c' k'.ktype k'.key (b.drop 20)).take n')
         else .fail s St.verifyFailed)))

def execMacTranslate (g : Nat) (s : State) : Res := .next (s.whenLive (fun s => s.runOp 0x0303 g macTranslate))

/-! ### Card verification values (R240) -/

/-- The card verification value. -/
def cvvOf (key : Bytes) (pan : List Nat) (expiry service : Bytes) : List Nat :=
  let d := pan ++ expiry.map digitOf ++ service.map digitOf
  let sDigits := (d ++ List.replicate 32 0).take 32
  let b1 := pack (sDigits.take 16)
  let b2 := pack (sDigits.drop 16)
  (decimalise (encB 0 key (xorB (encB 0 (key.take 8) b1) b2))).take 3

/-- What CVV_GENERATE and CVV_VERIFY share. -/
def cvvMethod (gr : Graph) (s : State) (len : Nat) (extra : Bytes → Bool) (modes : List Char) (go : List Nat → OpRes) : OpRes :=
  let b := gr.inp
  if b.length ≠ len then .form s St.badLength
  else match (panOf (b.take 20)).filter (fun p => !p.isEmpty) with
    | none => .form s St.badOperand
    | some pan =>
      if !(slice b 20 7).all isDigit || byteAt b 27 ≠ 0 || !extra b then .form s St.badOperand
      else gr.take s 0 modes (usage2 'C' '0') [1] (fun k => go (cvvOf k.key pan (slice b 20 4) (slice b 24 3)))

/-- CVV_GENERATE (R240). -/
def cvvGenerate : OpWork := fun gr s =>
  cvvMethod gr s 28 (fun _ => true) ['G', 'C'] (fun v => .ok s (asciiDigits v))

def execCvvGenerate (g : Nat) (s : State) : Res := .next (s.whenLive (fun s => s.runOp 0x0401 g cvvGenerate))

/-- CVV_VERIFY (R240). -/
def cvvVerify : OpWork := fun gr s =>
  cvvMethod gr s 32 (fun b => (slice b 28 3).all isDigit && byteAt b 31 == 0) ['V', 'C']
    (fun v => verdict s (v == (slice gr.inp 28 3).map digitOf))

def execCvvVerify (g : Nat) (s : State) : Res := .next (s.whenLive (fun s => s.runOp 0x0402 g cvvVerify))

/-! ### EMV (R241, R242) -/

/-- The header of an EMV cryptogram command is sound (R241). -/
def emvHead (b : Bytes) (arpc : Bool) : Bool :=
  let d := byteAt b 0
  let pad := byteAt b 2
  let psn := byteAt b 24
  let m := byteAt b 36
  let pl := byteAt b 37
  (d == 1 || d == 2) && decide (byteAt b 1 ≤ 1) && (if d = 1 then pad == 1 || pad == 2 else pad == 0) && byteAt b 3 == 0 &&
    byteAt b 25 == 0 && (decide (psn ≤ 99) || psn == 255) && (if arpc then m == 1 || m == 2 else m == 0) &&
    (if m = 2 then decide (pl ≤ 8) && allZero (slice b (44 + pl) (8 - pl)) else pl == 0 && allZero (slice b 40 12)) &&
    (m == 1 || allZero (slice b 38 2))

/-- The card master key of a PAN and PSN (R241): by the derivation for AES, and for TDEA by option B where the digits of the PAN and the two of
the PSN together exceed 16, else by option A. -/
def cardKey (aes : Bool) (key : Bytes) (pan : List Nat) (psn : Nat) : Bytes :=
  let which := if aes then 13 else if 16 < pan.length + 2 then 12 else 10
  fit key.length (Config.derive which [key, asciiDigits (pan ++ [psn / 10, psn % 10])])

/-- The key a cryptogram is computed under: the card master key, or its session key (R241). -/
def emvKey (b key : Bytes) (pan : List Nat) : Bytes :=
  let psn := if byteAt b 24 = 255 then 0 else byteAt b 24
  let card := cardKey (byteAt b 0 == 2) key pan psn
  if byteAt b 1 = 0 then card else fit key.length (Config.derive 11 [le 1 (byteAt b 0), card, slice b 26 2])

/-- The expected cryptogram (R242). -/
def emvMac (b key msg : Bytes) : Bytes := if byteAt b 0 = 1 then mac3 (byteAt b 2) key msg else (cmac 1 key msg).take 8

/-- The response cryptogram (R242). -/
def arpcOf (b key : Bytes) : Bytes :=
  let arqc := slice b 28 8
  let tdea := byteAt b 0 == 1
  if byteAt b 36 = 1 then
    let x := xorB arqc (slice b 38 2 ++ zeros 6)
    if tdea then encB 0 key x else (encB 1 key (x ++ zeros 8)).take 8
  else
    let m := arqc ++ slice b 40 4 ++ slice b 44 (byteAt b 37)
    (if tdea then mac3 2 key m else cmac 1 key m).take 4

/-- ARQC_VERIFY and ARQC_VERIFY_ARPC (R241, R242). -/
def arqc (arpc : Bool) : OpWork := fun gr s =>
  let b := gr.inp
  if b.length < 52 || 1076 < b.length then .form s St.badLength
  else match (panOf (slice b 4 20)).filter (fun p => !p.isEmpty) with
    | none => .form s St.badOperand
    | some pan =>
      if !emvHead b arpc then .form s St.badOperand
      else if arpc && decide (gr.desc.outLen < if byteAt b 36 = 1 then 8 else 4) then .form s St.badLength
      else gr.take s 0 ['X'] (usage2 'E' '0') (if byteAt b 0 = 1 then [1] else [3, 4, 5]) (fun k =>
        let key := emvKey b k.key pan
        if emvMac b key (b.drop 52) = slice b 28 8 then .ok s (if arpc then arpcOf b key else [])
        else .fail s St.verifyFailed)

def execArqcVerify (g : Nat) (s : State) : Res := .next (s.whenLive (fun s => s.runOp 0x0410 g (arqc false)))
def execArqcVerifyArpc (g : Nat) (s : State) : Res := .next (s.whenLive (fun s => s.runOp 0x0411 g (arqc true)))

/-! ### DUKPT (R243 to R245) -/

/-- DUKPT_PIN_TRANSLATE (R244). -/
def dukptPinTranslate : OpWork := fun gr s =>
  let b := gr.inp
  let v := byteAt b 0
  let w := byteAt b 1
  let i := byteAt b 2
  let o := byteAt b 3
  let blk := slice b 36 16
  if b.length ≠ 52 then .form s St.badLength
  else if gr.repeats || !dukptHead b || !pinFormat i || !pinFormat o || (i == 4) != workAes w || !pinBlockOk i blk then .form s St.badOperand
  else if gr.desc.outLen < pinLen o then .form s St.badLength
  else match panFor i o (panOf (slice b 16 20)) with
    | none => .form s St.badOperand
    | some pan =>
      gr.takeBdk s v w (fun k0 =>
        gr.take s 1 ['E', 'B'] (usage2 'P' '0') (pinTypes o) (fun k1 =>
          translatePin gr s i o (workKey v w 1 (slice b 4 12) k0.key) k1.key pan blk))

def execDukptPinTranslate (g : Nat) (s : State) : Res := .next (s.whenLive (fun s => s.runOp 0x0501 g dukptPinTranslate))

/-- DUKPT_MAC_VERIFY (R244). -/
def dukptMacVerify : OpWork := fun gr s =>
  let b := gr.inp
  let v := byteAt b 0
  let w := byteAt b 1
  let c := byteAt b 2
  let n := byteAt b 3
  if b.length < 32 || 32 + maxMessage < b.length then .form s St.badLength
  else if gr.repeats || !dukptHead b || !(if workAes w then c == 5 else c == 3 || c == 4) || !macLenOk c n ||
      !allZero (slice b (16 + n) (16 - n)) then .form s St.badOperand
  else gr.takeBdk s v w (fun k =>
    permit s (s.macBarred (allotOf gr.qid) n)
      (verdict s ((macOf c (w + 1) (workKey v w 2 (slice b 4 12) k.key) (b.drop 32)).take n == slice b 16 n)))

def execDukptMacVerify (g : Nat) (s : State) : Res := .next (s.whenLive (fun s => s.runOp 0x0502 g dukptMacVerify))

/-- DUKPT_DATA_DECRYPT (R244). -/
def dukptDataDecrypt : OpWork := fun gr s =>
  let b := gr.inp
  let v := byteAt b 0
  let w := byteAt b 1
  let m := byteAt b 2
  let alg := if workAes w then 1 else 0
  let n := bsize alg
  let data := b.drop 32
  if b.length < 32 || 32 + maxMessage < b.length then .form s St.badLength
  else if gr.repeats || !dukptHead b || !(m == 1 || m == 2) || byteAt b 3 ≠ 0 || !allZero (if m = 2 then slice b 16 16 else slice b (16 + n) (16 - n)) then
    .form s St.badOperand
  else if data.length % n ≠ 0 || gr.desc.outLen < data.length then .form s St.badLength
  else gr.takeBdk s v w (fun k =>
    let key := workKey v w 3 (slice b 4 12) k.key
    .ok s (if m = 1 then cbcDec alg key (slice b 16 n) data else ecbDec alg key data))

def execDukptDataDecrypt (g : Nat) (s : State) : Res := .next (s.whenLive (fun s => s.runOp 0x0503 g dukptDataDecrypt))

/-- Every symmetric key is at least as weak as a protection key of the same or a higher type (R243, R250); other keys have no place in
that order. -/
def kbStrong (kbpk key : Nat) : Bool := decide (5 < key) || decide (key ≤ kbpk)

/-- DUKPT_INITIAL_KEY (R245). -/
def dukptInitialKey : OpWork := fun gr s =>
  let b := gr.inp
  let v := byteAt b 0
  let id := if v = 1 then slice b 4 8 else slice b 4 10
  let verByte := if byteAt b 1 = 2 then letter 'E' else byteAt b 2
  let idOk := if v = 1 then allZero (slice b 12 4) else allZero (slice b 14 2) && beNat (slice b 11 3) % 2 ^ 21 == 0
  if b.length ≠ 16 then .form s St.badLength
  else if gr.repeats || !(v == 1 || v == 2) || byteAt b 3 ≠ 0 || !idOk || (byteAt b 1 = 2 && byteAt b 2 ≠ 0) then .form s St.badOperand
  else match kbForm (byteAt b 1) verByte with
    | none => .form s St.badOperand
    | some form =>
      gr.take s 0 ['X'] (usage2 'B' '0') (if v = 1 then [3, 4, 5] else [1]) (fun k =>
        gr.take s 1 ['E', 'B'] (usage2 'K' '1') (kbTypes form) (fun p =>
          let alg := if v = 1 then letter 'A' else letter 'T'
          let ik : KeySnap := { k with
            key := fit k.key.length (Config.derive 21 [le 1 v, id, k.key]), tier := 0x01, opt := [] }
          let opts := optBlock (if v = 1 then usage2 'I' 'K' else usage2 'K' 'S') (hexOf id)
          if !kbStrong p.ktype k.ktype then .fail s St.keyAttrMismatch
          else if gr.desc.outLen < keyBlockLen form opts ik then .fail s St.badLength
          else permit s (s.narrowed (allotOf gr.qid) (.noExport (usage2 'B' '1')))
            (gr.withDraw s 48 (fun rnd s =>
              .ok s (keyBlock form verByte p.key ⟨usage2 'B' '1', alg, letter 'X', kvnNone, letter 'N'⟩ opts 1 ik rnd)))))

def execDukptInitialKey (g : Nat) (s : State) : Res := .next (s.whenLive (fun s => s.runOp 0x0504 g dukptInitialKey))

/-! ### Key blocks (R246 to R251) -/

/-- A key block taken apart (R246): header fields, optional blocks, where its body begins. -/
structure KbParsed where
  form : Nat
  h : KbHead
  opts : List (Bytes × Bytes)
  head : Bytes
  body : Bytes

/-- The key block of an input (R247 step 1): its parts, or the status it is refused with. -/
def parseBlock (format : Nat) (b : Bytes) : Nat ⊕ KbParsed :=
  match decVal (slice b 1 4), decVal (slice b 12 2), kbForm format (byteAt b 0) with
  | some len, some n, some form =>
    if len ≠ b.length then .inl St.lengthMismatch
    else
      match optBlocks n (b.drop 16) with
      | some (opts, used) =>
        match unhex (b.drop (16 + used)) with
        | some body =>
          if !opts.all (fun o => optKnown o.1) || slice b 14 2 ≠ ascii [0x30, 0x30] || body.length < kbMac form + kbBlock form ||
              body.length % kbBlock form ≠ 0 || !(byteAt b 11 == letter 'E' || byteAt b 11 == letter 'S' || byteAt b 11 == letter 'N') then
            .inl St.badOperand
          else .inr ⟨form, ⟨slice b 5 2, byteAt b 7, byteAt b 8, slice b 9 2, byteAt b 11⟩, opts, b.take (16 + used), body⟩
        | none => .inl St.badOperand
      | none => .inl St.badOperand
  | _, _, _ => .inl St.badOperand

/-- The content of an optional block of a parsed key block. -/
def KbParsed.opt (p : KbParsed) (a b : Char) : Option Bytes := (p.opts.find? (fun o => o.1 == usage2 a b)).map Prod.snd

/-- The optional blocks kept with an imported key (R248). -/
def KbParsed.kept (p : KbParsed) : Bytes :=
  (p.opts.filter (fun o => [usage2 'I' 'K', usage2 'K' 'S', usage2 'T' 'S'].contains o.1)).flatMap (fun o => optBlock o.1 o.2)

/-- The key type of an imported key from its algorithm letter, usage and length; where the block does not say which curve, the free
value `v` chooses (log 38). -/
def importType (use : Bytes) (alg len v : Nat) : Option Nat :=
  let sig := use == usage2 'S' '0'
  match symType alg len with
  | some t => some t
  | none =>
    if alg = letter 'R' then (if ([1, 2, 3, 4, 5] : List Nat).any (fun c => privLen c == len) then some 0x20 else none)
    else if alg = letter 'E' then
      (if len = 48 then some 0x22 else if len = 32 then (if v % 2 = 0 then some 0x21 else if sig then some 0x23 else some 0x24) else none)
    else if alg = 0x30 then (if len = 2400 then some 0x30 else if len = 3168 then some 0x31 else if len = 4032 then some 0x32 else none)
    else none

/-- KB_IMPORT (R247, R248): its checks in their order. -/
def kbImport : OpWork := fun gr s =>
  let b := gr.inp
  let st := isSteward gr.qid
  let a := allotOf gr.qid
  if b.length < 20 || 9996 < b.length then .form s St.badLength
  else if leAt b 1 3 ≠ 0 then .form s St.badOperand
  else match parseBlock (byteAt b 0) (b.drop 4) with
    | .inl x => .form s x
    | .inr p =>
      gr.take s 0 ['D', 'B'] (usage2 'K' '1') (kbTypes p.form) (fun k =>
        let kp := (p.opt 'K' 'P').all (fun c => c == checkContent k)
        if !kp then .fail s St.verifyFailed
        else match Config.kbOpen p.form k.key p.head p.body with
          | none => .fail (s.post 0x3011 a gr.desc.opcode 0) St.verifyFailed
          | some data =>
            let bits := beNat (data.take 2)
            let key := slice data 2 (bits / 8)
            let (v, s) := s.free
            match importType p.h.use p.h.alg (bits / 8) v with
            | none => .fail s St.badOperand
            | some t =>
              let alg := if p.h.alg = 0x30 then 0 else p.h.alg
              let snap : KeySnap := ⟨0, 0, t, key, [], []⟩
              if bits % 8 ≠ 0 || key.length ≠ bits / 8 then .fail s St.badOperand
              else if !(p.opt 'K' 'C').all (fun c => decide (5 < t) || c == checkContent snap) then .fail s St.verifyFailed
              else if !tr31Ok p.h.use alg p.h.mode || !typeSuits p.h.use t || 64 < p.kept.length then .fail s St.badOperand
              else permit s (s.narrowed a (.noImport p.h.use))
                (let kbits := if t = 0x20 then 16 * (key.length / 5) else bits
                 s.withKeyMade gr (tierFor st (isKek p.h.use)) t (s.mkAttr st p.h.use alg p.h.mode p.h.exp p.h.kvn t kbits 0) key p.kept
                  (s.worldParent gr.qid)
                  (fun h s => .ok s (h ++ p.h.use ++ [BitVec.ofNat 8 p.h.alg] ++ le 1 p.h.mode ++ le 1 p.h.exp ++ p.h.kvn ++ zeros 1))))

def execKbImport (g : Nat) (s : State) : Res := .next (s.whenLive (fun s => s.runOp 0x0601 g kbImport))

/-- The optional blocks a caller may give to an export (R249): no more than a header can count (log 229). -/
def givenOpts (b : Bytes) : Option (Bytes × Nat) :=
  ((List.range (maxOpts + 1)).findSome? (fun n => (optBlocks n b).bind (fun r =>
    if r.2 = b.length && r.1.all (fun o => [usage2 'I' 'K', usage2 'K' 'S', usage2 'T' 'S'].contains o.1) then some n else none))).map
    (fun n => (b, n))

/-- KB_EXPORT (R249, R250). -/
def kbExport : OpWork := fun gr s =>
  let b := gr.inp
  let a := allotOf gr.qid
  let verByte := if byteAt b 0 = 2 then letter 'E' else byteAt b 1
  if b.length < 8 || 520 < b.length then .form s St.badLength
  else if gr.repeats || leAt b 6 2 ≠ 0 || (byteAt b 0 = 2 && byteAt b 1 ≠ 0) || !modeForm (byteAt b 2) || !exportForm (byteAt b 3) ||
      !(slice b 4 2).all isPrint then .form s St.badOperand
  else match kbForm (byteAt b 0) verByte, givenOpts (b.drop 8) with
    | some form, some (opts, n) =>
      gr.take s 0 ['E', 'B'] (usage2 'K' '1') (kbTypes form) (fun p =>
        gr.withKey s 1 (fun k =>
          let mode := if byteAt b 2 = 0 then attrMode k.attr else byteAt b 2
          let ex := if byteAt b 3 = 0 then attrExport k.attr else byteAt b 3
          if attrExport k.attr ≠ letter 'E' && attrExport k.attr ≠ letter 'S' then .fail s St.keyUseDenied
          else if !kbStrong p.ktype k.ktype then .fail s St.keyAttrMismatch
          else if maxOpts < (kbOpts form opts n k (zeros 32)).2 then .fail s St.badOperand
          else if gr.desc.outLen < keyBlockLen form opts k then .fail s St.badLength
          else permit s (!narrowsMode (attrMode k.attr) mode || !narrowsExport (attrExport k.attr) ex ||
              s.narrowed a (.noExport (attrUsage k.attr)))
            (gr.withDraw s 48 (fun rnd s =>
              .ok s (keyBlock form verByte p.key ⟨attrUsage k.attr, attrAlg k.attr, mode, slice b 4 2, ex⟩ opts n k rnd)))))
    | _, _ => .form s St.badOperand

def execKbExport (g : Nat) (s : State) : Res := .next (s.whenLive (fun s => s.runOp 0x0602 g kbExport))

end Sys2Proof.Machine
end

