-- ==== Sys2Proof/Machine/FurAssoc.lean ====
section
/-! DEFINITION. Furrow's secure channels and associations: commits, arms, key installation, statistics and the link master
(spec/17). -/

namespace Sys2Proof.Machine

/-! ### Channel commits (R360) -/

/-- The fields of a channel that a commit writes. -/
def chFlds (c : Nat) : List Fld :=
  [Reg.FUR_CH_DW0_VALID c, Reg.FUR_CH_DW0_DIR c, Reg.FUR_CH_DW0_PG c, Reg.FUR_CH_DW0_PORT c, Reg.FUR_CH_DW0_KIND c,
   Reg.FUR_CH_DW0_SUITE c, Reg.FUR_CH_DW0_CONF c, Reg.FUR_CH_DW0_CONF_OFF c, Reg.FUR_CH_DW0_SC c, Reg.FUR_CH_DW0_ES c,
   Reg.FUR_CH_DW0_SCB c, Reg.FUR_CH_DW0_VALIDATE c, Reg.FUR_CH_DW0_REPLAY c, Reg.FUR_CH_DW0_DEFAULT c, Reg.FUR_CH_DW1_SCI_LO c,
   Reg.FUR_CH_DW2_SCI_HI c, Reg.FUR_CH_DW3_REPLAY_WIN c, Reg.FUR_CH_DW4_EXH_THRESH_LO c, Reg.FUR_CH_DW5_EXH_THRESH_HI c]

/-- Some field of a list would change. -/
def State.shadowChanges (s : State) (l : List Fld) : Bool := l.any (fun f => s.shadowF f != s.getF f)

/-- The operands a commit refuses (R360). -/
def State.chBadOperand (s : State) (c : Nat) : Bool :=
  s.shadowF (Reg.FUR_CH_DW0_PORT c) / 8 != s.shadowF (Reg.FUR_CH_DW0_PG c) || s.shadowF (Reg.FUR_CH_DW0_CONF_OFF c) == 3 ||
    decide (2 ^ 30 < s.shadowF (Reg.FUR_CH_DW3_REPLAY_WIN c)) ||
    (s.shadowF (Reg.FUR_CH_DW0_DIR c) == 0 && s.shadowF (Reg.FUR_CH_DW0_VALIDATE c) == 1)

/-- What a keyed channel may not change. -/
def chFixed (c : Nat) : List Fld :=
  [Reg.FUR_CH_DW0_DIR c, Reg.FUR_CH_DW0_PG c, Reg.FUR_CH_DW0_PORT c, Reg.FUR_CH_DW0_SUITE c, Reg.FUR_CH_DW1_SCI_LO c,
   Reg.FUR_CH_DW2_SCI_HI c]

/-- The commit would leave two receive channels of one port with one SCI or with DEFAULT, or two COMMONS channels of one direction
on one port. -/
def State.chConflict (s : State) (c : Nat) : Bool :=
  let v (f : Nat → Fld) : Nat := s.shadowF (f c)
  v Reg.FUR_CH_DW0_VALID == 1 &&
    (s.validChannels.filter (fun d => d != c && s.getF (Reg.FUR_CH_DW0_DIR d) == v Reg.FUR_CH_DW0_DIR &&
        s.getF (Reg.FUR_CH_DW0_PORT d) == v Reg.FUR_CH_DW0_PORT)).any (fun d =>
      (v Reg.FUR_CH_DW0_KIND == 1 && s.isSet (Reg.FUR_CH_DW0_KIND d)) ||
      (v Reg.FUR_CH_DW0_DIR == 1 &&
        ((v Reg.FUR_CH_DW0_DEFAULT == 1 && s.isSet (Reg.FUR_CH_DW0_DEFAULT d)) ||
         (s.getF (Reg.FUR_CH_DW1_SCI_LO d) == v Reg.FUR_CH_DW1_SCI_LO && s.getF (Reg.FUR_CH_DW2_SCI_HI d) == v Reg.FUR_CH_DW2_SCI_HI))))

/-- Why a channel commit is refused. -/
def State.chBad (s : State) (c : Nat) : Option Nat :=
  if s.chBadOperand c then some St.badOperand
  else if s.chKeyed c && s.shadowChanges (chFixed c) then some St.busy
  else if s.chConflict c then some St.stateConflict
  else none

/-- The threshold default of the new suite, where the suite's class changes and the commit writes no threshold (R363). -/
def State.defaultThresh (old s : State) (c : Nat) : State :=
  let wrote (f : Fld) : Bool := (getC none old.fur.shadow f.addr).isSome
  if old.isXpn c = s.isXpn c || wrote (Reg.FUR_CH_DW4_EXH_THRESH_LO c) || wrote (Reg.FUR_CH_DW5_EXH_THRESH_HI c) then s
  else if s.isXpn c then (s.setF (Reg.FUR_CH_DW4_EXH_THRESH_LO c) 0).setF (Reg.FUR_CH_DW5_EXH_THRESH_HI c) 0xC0000000
  else (s.setF (Reg.FUR_CH_DW4_EXH_THRESH_LO c) 0xC0000000).setF (Reg.FUR_CH_DW5_EXH_THRESH_HI c) 0

/-- Commit a channel. -/
def State.channelCommit (s : State) (c : Nat) : State :=
  let off := 0x800000 + 0x40 * c
  match s.chBad c with
  | some x => ((s.dropShadow off 6).setF Reg.FUR_SA_EVENT_COMMIT_REFUSED 1).saRefuse 0 c x
  | none => State.defaultThresh s ((s.adopt (chFlds c)).dropShadow off 6) c

def execChannelCommit (ch : Nat) (s : State) : Res :=
  .next (s.furWindow (fun s => if ch < 16384 then s.channelCommit ch else s))

/-! ### Association commits (R368) -/

/-- The PN of an association's shadow. -/
def State.shadowPn (s : State) (a : Nat) : Nat :=
  let pn := (s.sa a).pn
  let part (f : Fld) (v : Nat) : Nat := (getC none s.fur.shadow f.addr).getD v
  part (Reg.FUR_SA_DW1_PN_LO a) (pn % 2 ^ 32) % 2 ^ 32 + 2 ^ 32 * (part (Reg.FUR_SA_DW2_PN_HI a) (pn / 2 ^ 32) % 2 ^ 32)

/-- A commit of an association is refused. -/
def State.saBad (s : State) (a : Nat) : Bool :=
  (s.shadowF (Reg.FUR_SA_DW0_ENABLE a) == 1 && (s.isTx (a / 4) || s.saState a != 1)) ||
    (!s.isTx (a / 4) && decide (s.shadowPn a < (s.sa a).pn))

/-- Commit ENABLE and LOWEST_PN of a receive association. -/
def State.saCommit (s : State) (a : Nat) : State :=
  let off := 0x900000 + 0x20 * a
  if s.saBad a then ((s.dropShadow off 3).setF Reg.FUR_SA_EVENT_COMMIT_REFUSED 1).saRefuse 1 a St.badOperand
  else if s.isTx (a / 4) then s.dropShadow off 3
  else
    let t := s.setF (Reg.FUR_SA_DW0_ENABLE a) (s.shadowF (Reg.FUR_SA_DW0_ENABLE a))
    (t.setSa a { t.sa a with pn := s.shadowPn a }).dropShadow off 3

def execSaCommit (assoc : Nat) (s : State) : Res :=
  .next (s.furWindow (fun s => if assoc < 65536 then s.saCommit assoc else s))

/-! ### Arms (R366) -/

/-- Arm a switch, or refuse it. -/
def State.tryArm (s : State) (c an mode pn : Nat) : State :=
  match s.armBad c an mode with
  | some x => (s.setF Reg.FUR_SA_EVENT_ARM_REFUSED 1).saRefuse 0 c x
  | none => s.setArm c an mode pn

/-- `SW_PN` of a channel. -/
def State.swPn (s : State) (c : Nat) : Nat := s.getF (Reg.FUR_CH_DW9_SW_PN_LO c) + 2 ^ 32 * s.getF (Reg.FUR_CH_DW10_SW_PN_HI c)

def execSwitchArm (ch val : Nat) (s : State) : Res :=
  .next (s.furWindow (fun s =>
    if ch < 16384 then s.tryArm ch (val / 16 % 4) (val / 64 % 4) (s.swPn ch) else s))

/-! ### Installation and clearing (R369, R372, R379) -/

/-- The state checks of an installation: validity, the ENABLE bit, and use. -/
def State.installable (s : State) (a : Nat) (enable : Bool) (f : OpRes) : OpRes :=
  if enable && s.isTx (a / 4) then .fail s St.badOperand
  else if s.saInUse a then .fail s St.busy
  else f

/-- The form of bytes 0 to 3 of an installation's input. -/
def installForm (b : Bytes) : Bool := decide (byteAt b 2 ≤ 1) && byteAt b 3 == 0

def linkSaInstall : OpWork := fun gr s =>
  let b := gr.inp
  let a := leAt b 0 2
  if b.length ≠ 28 then .form s St.badLength
  else if !installForm b then .form s St.badOperand
  else gr.withKey s 0 (fun k =>
    if attrMode k.attr ≠ letter 'X' || !bit (attrPaths k.attr) 1 then .fail s St.keyUseDenied
    else if attrUsage k.attr ≠ usage2 '9' '0' || !([0x42, 0x43] : List Nat).contains k.ktype then .fail s St.keyAttrMismatch
    else if !s.isSet (Reg.FUR_CH_DW0_VALID (a / 4)) then .fail s St.stateConflict
    else if k.key.length ≠ s.suiteKeyLen (a / 4) then .fail s St.keyAttrMismatch
    else s.installable a (bit (byteAt b 2) 0)
      (.ok (s.installSa a k.key (slice b 16 12) (slice b 4 4) (leAt b 8 8) 2 (bit (byteAt b 2) 0))))

def execLinkSaInstall (g : Nat) (s : State) : Res := .next (s.whenLive (fun s => s.runOp 0x0B11 g linkSaInstall))

def linkSaInstallWrapped : OpWork := fun gr s =>
  let b := gr.inp
  let a := leAt b 0 2
  if b.length ≠ 56 && b.length ≠ 72 then .form s St.badLength
  else if !installForm b then .form s St.badOperand
  else match s.root.linkMaster with
    | none => .fail s St.keyAbsent
    | some m =>
      match keyUnwrapPad m (b.drop 16) with
      | none => .fail s St.verifyFailed
      | some x =>
        if x.length + 28 ≠ b.length then .fail s St.verifyFailed
        else if !s.isSet (Reg.FUR_CH_DW0_VALID (a / 4)) then .fail s St.stateConflict
        else if x.length ≠ s.suiteKeyLen (a / 4) + 12 then .fail s St.badLength
        else s.installable a (bit (byteAt b 2) 0)
          (.ok (s.installSa a (x.take (x.length - 12)) (x.drop (x.length - 12)) (slice b 4 4) (leAt b 8 8) 3 (bit (byteAt b 2) 0)))

def execLinkSaInstallWrapped (g : Nat) (s : State) : Res := .next (s.whenLive (fun s => s.runOp 0x0B12 g linkSaInstallWrapped))

def linkSaClear : OpWork := fun gr s =>
  let b := gr.inp
  let a := leAt b 0 2
  if b.length ≠ 4 then .form s St.badLength
  else if leAt b 2 2 ≠ 0 then .form s St.badOperand
  else if s.saInUse a then .fail s St.busy
  else .ok (s.clearSa a)

def execLinkSaClear (g : Nat) (s : State) : Res := .next (s.whenLive (fun s => s.runOp 0x0B13 g linkSaClear))

def linkSaSwitch : OpWork := fun gr s =>
  let b := gr.inp
  let c := leAt b 0 2
  let an := byteAt b 2
  let mode := byteAt b 3
  if b.length ≠ 12 then .form s St.badLength
  else if 16384 ≤ c || 3 < an || mode = 0 || 2 < mode then .form s St.badOperand
  else match s.armBad c an mode with
    | some x => .fail ((s.setF Reg.FUR_SA_EVENT_ARM_REFUSED 1).saRefuse 0 c x) x
    | none =>
      .ok ((((s.setF (Reg.FUR_CH_DW9_SW_PN_LO c) (leAt b 4 4)).setF (Reg.FUR_CH_DW10_SW_PN_HI c) (leAt b 8 4))).setArm c an mode (leAt b 4 8))

def execLinkSaSwitch (g : Nat) (s : State) : Res := .next (s.whenLive (fun s => s.runOp 0x0B14 g linkSaSwitch))

/-! ### Statistics (R377) -/

/-- The records of a range: `base` 0 for associations, 65,536 for channels. -/
def statRange (base first count : Nat) : List Nat := (List.range count).map (fun i => base + first + i)

/-- The group whose die holds a record (R355). -/
def State.recGroup (s : State) (r : Nat) : Nat := s.chGroup (if r < 65536 then r / 4 else r - 65536)

/-- Write zero records over a range (R377); a frozen line refuses its write (R387). -/
def State.zeroStats (s : State) (l : List Nat) : Nat × State :=
  l.foldl (fun (a : Nat × State) r =>
    let (x, t) := a.2.putStat (a.2.recGroup r) r []
    (if x = St.done then a.1 else x, t)) (St.done, s)

def linkStatsRead : OpWork := fun gr s =>
  let b := gr.inp
  let kind := byteAt b 0
  let fl := byteAt b 1
  let first := leAt b 4 4
  let count := leAt b 8 4
  let l := statRange (65536 * kind) first count
  if b.length ≠ 12 then .form s St.badLength
  else if 1 < kind || 3 < fl || leAt b 2 2 ≠ 0 || count = 0 || 4096 < count || (if kind = 0 then 65536 else 16384) < first + count then
    .form s St.badOperand
  else if bit fl 1 then let r := s.zeroStats l; { status := r.1, st := r.2 }
  else if l.any (fun r => s.statBad (s.recGroup r) r) then .fail s St.memoryError
  else
    let out := l.flatMap (fun r => (s.statRec (s.recGroup r) r).flatMap (le 8))
    if bit fl 0 then let r := s.zeroStats l; { status := r.1, out, st := r.2 } else .ok s out

def execLinkStatsRead (g : Nat) (s : State) : Res := .next (s.whenLive (fun s => s.runOp 0x0B20 g linkStatsRead))

/-! ### The link master (R373) -/

/-- The module key of the link master in Barrow (R296). -/
def State.setLinkMaster (s : State) (k : Bytes) : State :=
  let s := match s.moduleSlot 0x44 with
    | some n => s.freeKey n
    | none => s
  let s := s.makeModule 0x44 (s.mkAttr true (usage2 'K' '1') (letter 'A') (letter 'D') (letter 'N') kvnNone 0x44 256 0) k
  { s with root := { s.root with linkMaster := some k } }.setF Reg.FUR_SA_STATUS_LINK_MASTER 1

/-- LINK_MASTER_LOAD: a key block of version D or of ISO 20038 whose key is an AES-256 key, with the checks of KB_IMPORT (R247). -/
def linkMasterLoad : OpWork := fun gr s =>
  let b := gr.inp
  if b.length < 20 || 9996 < b.length then .form s St.badLength
  else if leAt b 1 3 ≠ 0 then .form s St.badOperand
  else match parseBlock (byteAt b 0) (b.drop 4) with
    | .inl x => .form s x
    | .inr p =>
      if p.form = 1 then .form s St.badOperand
      else gr.take s 0 ['D', 'B'] (usage2 'K' '1') (kbTypes p.form) (fun k =>
        if !(p.opt 'K' 'P').all (fun c => c == checkContent k) then .fail s St.verifyFailed
        else match Config.kbOpen p.form k.key p.head p.body with
          | none => .fail (s.post 0x3011 (allotOf gr.qid) gr.desc.opcode 0) St.verifyFailed
          | some data =>
            let key := slice data 2 32
            let snap : KeySnap := ⟨0, 0, 5, key, [], []⟩
            if beNat (data.take 2) ≠ 256 || key.length ≠ 32 || p.h.alg ≠ letter 'A' then .fail s St.badOperand
            else if !(p.opt 'K' 'C').all (fun c => c == checkContent snap) then .fail s St.verifyFailed
            else permit s (s.narrowed (allotOf gr.qid) (.noImport p.h.use))
              (.ok (s.setLinkMaster key) ((checkValue 1 snap).take 5 ++ zeros 3)))

def execLinkMasterLoad (g : Nat) (s : State) : Res := .next (s.whenLive (fun s => s.runOp 0x0B31 g linkMasterLoad))

end Sys2Proof.Machine
end

