-- ==== Sys2Proof/Machine/Mka.lean ====
section
/-! DEFINITION. MKA instances (R374 to R376): their commands, the MKPDUs they receive and send, their timers, and the keys they
install. The formats and derivations of IEEE 802.1X-2020 are opaque (log 44). -/

namespace Sys2Proof.Machine

def State.mka (s : State) (i : Nat) : Option Mka := getC none s.fur.mka i

/-- Store an instance; `FUR_SA_STATUS` counts them (R380). -/
def State.setMka (s : State) (i : Nat) (x : Option Mka) : State :=
  let m := setC none s.fur.mka i x
  { s with fur := { s.fur with mka := m } }.setF Reg.FUR_SA_STATUS_INSTANCES m.length

/-- Some MKA-role cell is in service (R24). -/
def State.mkaCell (s : State) : Option Nat := s.cells.find? (fun c => s.cellState c == 0 && s.cellRole c == 4)

/-- The key-encryption key of a connectivity association. -/
def Mka.kek (x : Mka) : Bytes := fit x.cak.length (Config.derive 40 [x.cak, x.ckn])

/-- The MKPDU an instance sends now. -/
def State.mkaPdu (s : State) (x : Mka) : Mkpdu :=
  { mi := x.mi, mn := x.mn, prio := x.prio, sci := s.sci x.txc
    peers := match x.peer with
      | some p => [(p, x.peerMn)]
      | none => []
    dist := match x.an with
      | some an => if x.server && x.keyed then some (an, x.keyNo, keyWrap x.kek x.sak) else none
      | none => none
    use := match x.an with
      | some an => if x.keyed then some (x.keyNo, an, true) else none
      | none => none }

/-- Inject an instance's MKPDU, unprotected, into far egress (R376); one that a group not RUNNING discards has not been sent (R350). -/
def State.mkaSend (s : State) (i : Nat) : State :=
  match s.mka i with
  | some x =>
    let x := { x with mn := x.mn + 1, sent := x.sent + b2n (s.pgState (x.port / 8) == 0) }
    (s.setMka i (some x)).inject x.port (Config.mkpduFrame x.cak x.ckn (s.mkaPdu x))
  | none => s

/-- Set a timer of an instance on delay list 2 (R182): kind 0 hello, 1 the peer's life, 2 the retirement of an old association.
Without a free timer none is set. -/
def State.mkaTimer (s : State) (i kind us : Nat) : State :=
  let s := s.dropTimer (.mka i kind)
  match s.timer 2 (s.drv.tick + us) (.mka i kind) with
  | (some t, _) => t
  | (none, t) => t

/-- Install a SAK in association number `an` of both channels, for receive first (R374); nothing where one of them is in use or
unusable. -/
def State.mkaInstall (s : State) (i : Nat) (x : Mka) (an keyNo : Nat) (sak : Bytes) : Option State :=
  let r := 4 * x.rxc + an
  let t := 4 * x.txc + an
  if s.saInUse r || s.saInUse t || !s.isSet (Reg.FUR_CH_DW0_VALID x.rxc) || !s.isSet (Reg.FUR_CH_DW0_VALID x.txc) then none
  else
    let own := s.sci x.txc
    let salt := fit 12 (Config.derive 44 [if x.server then x.mi else x.peer.getD [], le 4 keyNo])
    let s := s.installSa r sak salt (fit 4 (Config.derive 43 [x.peerSci, own])) 1 1 true
    let s := s.installSa t sak salt (fit 4 (Config.derive 43 [own, x.peerSci])) 1 1 false
    some (s.setMka i (some { x with an := some an, old := x.an, keyNo, sak, keyed := true, secured := false }))

/-- The key server draws a SAK and distributes it (R374); it waits where Skylark or an association in use stops it. -/
def State.mkaNewSak (s : State) (i cell : Nat) : State :=
  match s.mka i with
  | some x =>
    let an := match x.an with
      | some a => (a + 1) % 4
      | none => 0
    match s.draw (meadowOf cell) (s.suiteKeyLen x.txc) with
    | some (sak, t) =>
      match t.mkaInstall i x an (x.keyNo + 1) sak with
      | some t => t.mkaSend i
      | none => s
    | none => s
  | none => s

/-- The peer reports the SAK installed: the transmit switch is armed NOW, and the old association is retired 10 ms later (R374). -/
def State.mkaSecure (s : State) (i : Nat) (x : Mka) (an : Nat) : State :=
  let s := (s.tryArm x.txc an 2 0).setMka i (some { x with secured := true })
  if x.old.isSome then s.mkaTimer i 2 10000 else s

/-- The lesser of two elections: priority, then SCI (R374). -/
def electsFirst (p : Nat) (a : Bytes) (q : Nat) (b : Bytes) : Bool :=
  decide (p < q) || (p == q && decide (beNat a < beNat b))

/-- A member takes a distributed SAK (R374). -/
def State.mkaTakeSak (s : State) (i : Nat) (m : Mkpdu) : State :=
  match s.mka i, m.dist with
  | some x, some (an, kn, w) =>
    if x.server || !x.live || (x.keyed && x.keyNo = kn) || 4 ≤ an then s
    else match keyUnwrap x.kek w with
      | some sak =>
        if sak.length ≠ s.suiteKeyLen x.txc then s
        else match s.mkaInstall i x an kn sak with
          | some s => s.mkaSend i
          | none => s
      | none => s
  | _, _ => s

/-- An instance acts on what its peer says (R374). -/
def State.mkaHear (s : State) (i cell : Nat) (x : Mka) (m : Mkpdu) : State :=
  let live := m.peers.any (fun p => p.1 == x.mi)
  let server := electsFirst x.prio (s.sci x.txc) m.prio m.sci
  let s := s.setMka i (some { x with peer := some m.mi, peerMn := m.mn, peerSci := m.sci, live, server })
  let s := s.mkaTimer i 1 (3000 * x.hello)
  let s := if live && server && !x.keyed then s.mkaNewSak i cell else s.mkaTakeSak i m
  match s.mka i, m.use with
  | some y, some (kn, an, rx) =>
    if y.keyed && !y.secured && y.keyNo = kn && y.an = some an && rx then s.mkaSecure i y an else s
  | _, _ => s

/-- A frame that is discarded and counted in event 0x8011 (R374, R376). -/
def State.mkaDiscard (s : State) (p : Nat) : State := s.post 0x8011 p 0 p

/-- A diverted EAPOL-MKA frame reaches its instance, or none (R376). -/
def State.mkaFrame (s : State) (cell p : Nat) (f : Bytes) : State :=
  match s.fur.mka.find? (fun e => match e.2 with
    | some x => x.port == p && some x.ckn == Config.mkpduCkn f
    | none => false) with
  | some (i, some x) =>
    match Config.mkpduRead x.cak x.ckn f with
    | some m =>
      match x.peer with
      | some q => if q = m.mi then s.mkaHear i cell x m else s.mkaDiscard p
      | none => s.mkaHear i cell x m
    | none => s
  | _ => s.mkaDiscard p

/-- An MKA node runs in a cell: it takes a diverted frame, or rekeys the instance of an association at its threshold. -/
def State.mkaNode (s : State) (cell : Nat) : State :=
  match s.runningSlot cell with
  | some k =>
    match s.slot k with
    | some e =>
      match e.work with
      | .frame p f => (s.mkaFrame cell p f).endSlot k
      | .rekey a =>
        let s := s.endSlot k
        match s.mkaOfChannel (a / 4) with
        | some i =>
          match s.mka i with
          | some x => if x.server && x.live then s.mkaNewSak i cell else s.mkaSend i
          | none => s
        | none => s
      | .node _ _ => s
    | none => s
  | none => s

def execMkpduReceive (cell : Nat) (s : State) : Res := .next (s.whenLive (fun s => s.mkaNode cell))

/-- An old association that no frame used for 10 ms is disabled and both its directions are cleared; otherwise its timer runs
again (R374). -/
def State.mkaRetire (s : State) (i : Nat) (x : Mka) : State :=
  match x.old with
  | some an =>
    let r := 4 * x.rxc + an
    let t := 4 * x.txc + an
    let s1 := s.setF (Reg.FUR_SA_DW0_ENABLE r) 0
    if s.drv.tick < (s.sa r).last + 10000 || s1.saInUse r || s1.saInUse t then s.mkaTimer i 2 10000
    else ((s1.clearSa r).clearSa t).setMka i (some { x with old := none })
  | none => s

/-- A timer of an instance acts (R374): hello sends an MKPDU, life ends the peer, retirement ends the old association. -/
def State.mkaTimerActs (s : State) (i kind : Nat) : State :=
  match s.mka i with
  | some x =>
    let s := s.dropTimer (.mka i kind)
    if kind = 0 then (s.mkaSend i).mkaTimer i 0 (1000 * x.hello)
    else if kind = 1 then s.setMka i (some { x with peer := none, live := false, keyed := false })
    else s.mkaRetire i x
  | none => s.dropTimer (.mka i kind)

def execMkaTimerExpire (inst kind : Nat) (s : State) : Res :=
  .next (s.whenLive (fun s => if s.isDue (.mka inst kind) && s.mkaCell.isSome then s.mkaTimerActs inst kind else s))

/-! ### Commands (R374, R375, R379) -/

/-- The form of the input of a create. -/
def mkaForm (b : Bytes) (persist : Nat) : Bool :=
  let hello := leAt b 8 2
  let n := byteAt b 10
  byteAt b 7 == persist && (hello == 0 || (decide (500 ≤ hello) && decide (hello ≤ 10000))) && decide (1 ≤ n) && decide (n ≤ 32) &&
    leAt b 11 5 == 0 && allZero (b.drop (16 + n))

/-- An instance from its parameters and its CAK. -/
def mkaOf (b cak mi : Bytes) (persist : Bool) : Mka :=
  { port := leAt b 0 2, txc := leAt b 2 2, rxc := leAt b 4 2, prio := byteAt b 6
    hello := if leAt b 8 2 = 0 then 2000 else leAt b 8 2
    ckn := slice b 16 (byteAt b 10), cak, persist, mi }

/-- A far port and channels an instance can bind (R374). -/
def State.mkaUsable (s : State) (b : Bytes) : Bool :=
  let p := leAt b 0 2
  let t := leAt b 2 2
  let r := leAt b 4 2
  s.portExists p && decide (t < 16384) && decide (r < 16384) && s.isSet (Reg.FUR_CH_DW0_VALID t) && s.isSet (Reg.FUR_CH_DW0_VALID r) &&
    s.isTx t && !s.isTx r && s.getF (Reg.FUR_CH_DW0_PORT t) == p && s.getF (Reg.FUR_CH_DW0_PORT r) == p &&
    (s.mkaOfChannel t).isNone && (s.mkaOfChannel r).isNone

/-- The lowest instance number that is free. -/
def State.mkaFree (s : State) : Option Nat :=
  ((List.range (s.fur.mka.length + 1)).find? (fun i => (s.mka i).isNone)).filter (fun i => decide (i < 4096))

/-- Start an instance: its member identifier is drawn and its hello timer set; without a free timer the request fails and is recorded, and no
instance stands (R183). -/
def State.mkaStart (s : State) (i : Nat) (b cak : Bytes) (persist : Bool) : Bool × State :=
  let (mi, s) := s.freeBytes 12
  let x := mkaOf b cak mi persist
  match s.timer 2 (s.drv.tick + 1000 * x.hello) (.mka i 0) with
  | (some t, _) => (true, (t.setMka i (some x)).mkaSend i)
  | (none, t) => (false, t)

def mkaCreate (persist : Bool) : OpWork := fun gr s =>
  let b := gr.inp
  if b.length ≠ 48 then .form s St.badLength
  else if !mkaForm b (b2n persist) then .form s St.badOperand
  else gr.take s 0 ['X'] (usage2 '9' '0') [0x40, 0x41] (fun k =>
    if !s.mkaUsable b then .fail s St.stateConflict
    else if persist && decide (128 ≤ s.root.persist.length) then .fail s St.busy
    else match s.mkaFree with
      | none => .fail s St.busy
      | some i =>
        match s.mkaStart i b k.key persist with
        | (false, t) => .fail t St.busy
        | (true, t) =>
          let t := if persist then { t with root := { t.root with persist := t.root.persist ++ [⟨i, b, k.key⟩] } } else t
          .ok t (le 2 i ++ zeros 6))

def execLinkMkaCreate (g : Nat) (s : State) : Res := .next (s.whenLive (fun s => s.runOp 0x0B01 g (mkaCreate false)))
def execLinkMkaCreatePersist (g : Nat) (s : State) : Res := .next (s.whenLive (fun s => s.runOp 0x0B04 g (mkaCreate true)))

/-- An instance ends (R379): the switch disarmed, `ENC_VALID` 0, its associations cleared, its timers gone. -/
def State.mkaEnd (s : State) (i : Nat) : State :=
  match s.mka i with
  | some x =>
    let s := (s.disarm x.txc).setF (Reg.FUR_CH_DW8_ENC_VALID x.txc) 0
    let s := ((List.range 4).flatMap (fun n => [4 * x.rxc + n, 4 * x.txc + n])).foldl State.clearSa s
    let s := ((s.dropTimer (.mka i 0)).dropTimer (.mka i 1)).dropTimer (.mka i 2)
    s.setMka i none
  | none => s

def mkaDelete (persist : Bool) : OpWork := fun gr s =>
  let b := gr.inp
  let i := leAt b 0 2
  if b.length ≠ 4 then .form s St.badLength
  else if leAt b 2 2 ≠ 0 then .form s St.badOperand
  else match s.mka i with
    | some x =>
      if x.persist != persist then .fail s St.stateConflict
      else
        let t := s.mkaEnd i
        .ok { t with root := { t.root with persist := t.root.persist.filter (fun p => p.inst != i) } }
    | none => .fail s St.stateConflict

def execLinkMkaDelete (g : Nat) (s : State) : Res := .next (s.whenLive (fun s => s.runOp 0x0B02 g (mkaDelete false)))
def execLinkMkaDeletePersist (g : Nat) (s : State) : Res := .next (s.whenLive (fun s => s.runOp 0x0B05 g (mkaDelete true)))

/-- The state LINK_MKA_STATUS reports: 1 waiting for a peer, 2 live, 3 secured. -/
def Mka.code (x : Mka) : Nat := if !x.live then 1 else if x.keyed && x.secured then 3 else 2

def mkaStatus : OpWork := fun gr s =>
  let b := gr.inp
  if b.length ≠ 4 then .form s St.badLength
  else if leAt b 2 2 ≠ 0 then .form s St.badOperand
  else match s.mka (leAt b 0 2) with
    | some x =>
      .ok s (le 1 x.code ++ le 1 (b2n x.server) ++ le 1 (x.an.getD 0) ++ zeros 1 ++ fit 12 (x.peer.getD []) ++ le 4 x.keyNo ++
        le 8 x.sent ++ zeros 4)
    | none => .fail s St.stateConflict

def execLinkMkaStatus (g : Nat) (s : State) : Res := .next (s.whenLive (fun s => s.runOp 0x0B03 g mkaStatus))

/-! ### Events that meet associations (R354, R378) -/

/-- Start every persistent instance (R375). -/
def State.startPersistent (s : State) : State :=
  if s.lc.variant.hasFurrow then
    s.root.persist.foldl (fun s p => (s.mkaStart p.inst p.params p.cak true).2) s
  else s

/-- A port group STOP, START or held START in progress is abandoned (R27): the group stays STOPPED. -/
def State.pgAbandon (s : State) : State :=
  ([0, 1] : List Nat).foldl (fun s g =>
    let st := s.pgState g
    if st = 1 || st = 2 || st = 4 then
      ((s.setPg g 3).setF (Reg.FUR_PG_STAT_IN_PROGRESS g) 0).post 0x8006 g (if st = 1 then 1 else if st = 4 then 2 else 3) g
    else s) s

/-- A Swale-W clears every key, salt and SSCI, `ENC_VALID`, the arms, the statistics and the instances (R354, R378). -/
def State.furrowSwale (s : State) : State :=
  let s := s.fur.mka.foldl (fun (s : State) e => s.mkaEnd e.1) s
  let as := s.fur.sas.map Prod.fst
  let s := as.foldl State.clearSa s
  let s := s.validChannels.foldl (fun s c => (s.disarm c).setF (Reg.FUR_CH_DW8_ENC_VALID c) 0) s
  let flights := s.fur.flights.map (fun x => (x.1, x.2.map (fun f => if f.rx.isSome then { f with rx := f.rx.map (fun r => { r with valid := false }) } else f)))
  { s with fur := { s.fur with sas := [], acc := [], arms := [], toCmn := [], flights } }

end Sys2Proof.Machine
end

