-- ==== Sys2Proof/Machine/CmnOps.lean ====
section
/-! DEFINITION. The shared operations of the Commons (spec/21): the roster, sessions and their handshake, messages sent and taken in,
roster changes. The layout of message bodies is left open by the spec (log 45). -/

namespace Sys2Proof.Machine

/-! ### Roster and membership (R435, R436) -/

def State.setCmn (s : State) (c : Commons) : State := { s with cmn := c }
def State.setMember (s : State) (m : Membership) : State := { s with root := { s.root with cmn := m } }

/-- The roster's entries (R435). -/
def cmnSize : Nat := 16384

def State.entry (s : State) (i : Nat) : Bytes := fit 32 (getC [] s.cmn.roster i)

def State.putEntry (s : State) (i : Nat) (b : Bytes) : State :=
  s.setCmn { s.cmn with roster := setC [] s.cmn.roster i (if allZero b then [] else fit 32 b) }

/-- The 512 KiB of the roster. -/
def State.rosterBytes (s : State) : Bytes := (List.range cmnSize).flatMap s.entry

/-- Members the roster names. -/
def State.memberCount (s : State) : Nat := s.cmn.roster.length

/-- Take a roster image as the roster. -/
def State.takeRoster (s : State) (image : Bytes) : State :=
  let l := (List.range cmnSize).filterMap (fun i =>
    let b := slice image (32 * i) 32
    if allZero b then none else some (i, b))
  (s.setCmn { s.cmn with roster := l }).setF Reg.CMN_STATUS_ROSTER_LOADED 1

/-- A roster is loaded (R436). -/
def State.rosterIn (s : State) : Bool := s.isSet Reg.CMN_STATUS_ROSTER_LOADED

/-- The roster entry of a module (R435). -/
def entryOf (uid pk : Bytes) : Bytes := sha256 (uid ++ pk)

/-- The attestation public key (R96). -/
def State.cmnPub (s : State) : Bytes := attPublic (s.root.attKey.getD [])

/-- This module's own roster entry. -/
def State.selfEntry (s : State) : Bytes := entryOf s.lc.uid s.cmnPub

/-- A membership with a new generation and the digest of the present roster. -/
def State.setGen (s : State) (g : Nat) : State :=
  (s.setMember { s.root.cmn with gen := g, digest := sha256 s.rosterBytes }).setF Reg.CMN_EVENT_ROSTER_CHANGE 1

/-! ### Sessions (R439) -/

def State.cmnSess (s : State) (peer : Nat) : Option CmnSess := s.cmn.sess.find? (fun x => x.peer == peer)

def State.putSess (s : State) (x : CmnSess) : State :=
  let l := s.cmn.sess
  let l := if l.any (fun y => y.peer == x.peer) then l.map (fun y => if y.peer = x.peer then x else y) else l ++ [x]
  s.setCmn { s.cmn with sess := l }

/-- End a session or an attempt: its keys are released and its timers go. -/
def State.endSess (s : State) (peer : Nat) : State :=
  match s.cmnSess peer with
  | some x =>
    let s := if x.opening then s else (s.freeKey x.tx).freeKey x.rx
    let s := (s.dropTimer (.cmn 0 peer)).dropTimer (.cmn 1 peer)
    s.setCmn { s.cmn with sess := s.cmn.sess.filter (fun y => y.peer != peer), hs := s.cmn.hs.filter (fun h => h.peer != peer) }
  | none => s

/-- A handshake check fails: the attempt ends, event 0xC005 (R439); a session that is open stays. Graphs that wait for the attempt will end
with `VERIFY_FAILED`. -/
def State.failSess (s : State) (peer : Nat) : State :=
  let c := s.cmn
  let l := c.openers.filter (fun o => o.2 == peer)
  let s := s.setCmn { c with openers := c.openers.filter (fun o => o.2 != peer), failed := c.failed ++ l }
  ((match s.cmnSess peer with
    | some x => if x.opening then s.endSess peer else s
    | none => s)).post 0xC005 peer 0 peer

/-- The keeper: the member of lowest index among those whose heartbeats arrive, counting itself (R438). -/
def State.keeper (s : State) : Nat :=
  (s.cmn.sess.filter (fun x => !x.opening && !x.lost)).foldl (fun k x => min k x.peer) s.root.cmn.self

/-- The index and the Commons ID this module handshakes under: its own, or those of the invitation it joins by. -/
def State.cmnSelf (s : State) : Nat := (s.cmn.join.map (fun j => j.inv.index)).getD s.root.cmn.self
def State.cmnCid (s : State) : Bytes := (s.cmn.join.map (fun j => j.inv.cid)).getD s.root.cmn.id

/-- The entry that a peer's identity must match: of the sponsor during a join, of the roster, or of a candidate invited (R437, R439);
none where the peer may have no session. -/
def State.peerEntry (s : State) (peer : Nat) : Option Bytes :=
  match s.cmn.join with
  | some j => if peer = j.inv.sponsor then some j.sponsor else none
  | none =>
    if !s.rosterIn || !s.root.cmn.member then none
    else if !allZero (s.entry peer) then some (s.entry peer)
    else (s.cmn.invites.find? (fun i => i.index == peer && decide (s.cairn.opTime ≤ i.until_))).map Invited.entry

/-- The 32-byte header of a message (R440). -/
def cmnHeader (type self peer seg last num seq len : Nat) : Bytes :=
  magic 0x45 0x5A 0x43 0x4D ++ le 1 type ++ [0] ++ le 2 self ++ le 2 peer ++ le 2 (256 * seg + last) ++ le 4 num ++ le 8 seq ++ le 4 len ++ zeros 4

/-- The bodies a message is sent in, of at most 8,192 bytes each (R440). -/
def cmnParts (b : Bytes) : List Bytes := (List.range ((b.length + 8191) / 8192)).map (fun i => slice b (8192 * i) 8192)

/-- The nonce of a sealed message (log 45). -/
def cmnNonce (num seq : Nat) : Bytes := fit 12 (Config.derive 50 [le 4 num, le 8 seq])

/-- A message sealed under a key (R440). -/
def cmnSeal (key head : Bytes) (num seq : Nat) (body : Bytes) : Bytes :=
  head ++ fit (body.length + 16) (gcmSeal key (cmnNonce num seq) head body)

/-- The TYPE of a message (R440, log 45). -/
def cmnType : CmnMsg → Nat
  | .hello .. => 0x01
  | .reply .. => 0x02
  | .heartbeat => 0x03
  | .join => Config.cmnJoinType
  | .change .. => Config.cmnChangeType
  | .update .. => 0x10
  | .request => 0x11
  | .roster .. => 0x12
  | .replica .. => 0x20
  | .notice .. => 0x21
  | .bound .. => 0x22

/-! ### Routes (R441) -/

/-- The peer's route is RELAY. -/
def State.byRelay (s : State) (peer : Nat) : Bool := !s.lc.variant.hasFurrow || getC false s.cmn.routes peer

/-- The transmit channel of the Commons that can carry a frame now: valid, encoding, of a running group (R361, R445). -/
def State.cmnChannel (s : State) : Option Nat :=
  s.validChannels.find? (fun c => s.isTx c && s.isSet (Reg.FUR_CH_DW0_KIND c) && s.pgState (s.chGroup c) == 0 &&
    s.isSet (Reg.FUR_CH_DW8_ENC_VALID c) && s.saState (4 * c + s.getF (Reg.FUR_CH_DW8_ENC_AN c)) == 1)

/-- The route of a peer takes `n` messages now. -/
def State.routeTakes (s : State) (peer n : Nat) : Bool :=
  if s.byRelay peer then decide (s.cmn.outQ.length + n ≤ 256) else s.cmnChannel.isSome

/-- Send messages by the route of a peer. -/
def State.route (s : State) (peer : Nat) (msgs : List Bytes) : State :=
  if s.byRelay peer then s.setCmn { s.cmn with outQ := s.cmn.outQ ++ msgs }
  else
    match s.cmnChannel with
    | some c => msgs.foldl (fun s m => s.protectOut (s.getF (Reg.FUR_CH_DW0_PORT c)) c 0 (Config.cmnFrame m) true false false) s
    | none => s

/-- Send a message over an open session; none where its route does not take it. A session ends at 2^32 messages (R439). -/
def State.sendNow (s : State) (x : CmnSess) (m : CmnMsg) : Option State :=
  let parts := cmnParts (Config.cmnBody m)
  let n := parts.length
  if s.routeTakes x.peer n && decide (x.seq + n ≤ 2 ^ 32 + 1) then
    let key := (s.kslot x.tx).key
    let msgs := (parts.zip (List.range n)).map (fun p =>
      cmnSeal key (cmnHeader (cmnType m) s.cmnSelf x.peer p.2 (n - 1) x.num (x.seq + p.2) p.1.length) x.num (x.seq + p.2) p.1)
    some ((s.putSess { x with seq := x.seq + n, sent := min (x.sent + n) (2 ^ 30 - 1) }).route x.peer msgs)
  else none

/-- The handshake segments of a message (R440): in clear, with SEQ 0 and a zero tag. -/
def State.hsMsgs (s : State) (peer num : Nat) (m : CmnMsg) : List Bytes :=
  let parts := cmnParts (Config.cmnBody m)
  (parts.zip (List.range parts.length)).map (fun p =>
    cmnHeader (cmnType m) s.cmnSelf peer p.2 (parts.length - 1) num 0 p.1.length ++ p.1 ++ zeros 16)

/-- A cell of a role is in service. -/
def State.roleUp (s : State) (r : Nat) : Bool := s.cells.any (fun c => s.cellState c == 0 && s.cellRole c == r)

/-- The most sessions at once (R439). -/
def cmnMax : Nat := 4096

/-- Sign with the attestation key (R437, R439). -/
def State.attSign (s : State) (msg : Bytes) : Bytes × State :=
  let (r, s) := s.freeBytes 16
  ((sign 0x51 17088 (s.root.attKey.getD []) (pureMsg [] msg) r).getD (zeros 17088), s)

/-- Begin to open a session (R439 step 1); nothing happens without random numbers, an attestation key, a cell of PQC role for ML-KEM (R446), a
free session or a route that takes the message. -/
def State.dial (s : State) (peer : Nat) : State :=
  if s.root.attKey.isNone || !s.roleUp 3 || cmnMax ≤ s.cmn.sess.length || (s.cmnSess peer).isSome then s
  else
    match s.draw 9 96 with
    | none => s
    | some (r, t) =>
      let dk := fit 3168 ((Config.keyGen 0x41 (r.take 64)).getD [])
      let ek := fit 1568 (Config.publicOf 0x41 dk)
      let (v, t) := t.free
      let num := v % 2 ^ 32
      let (sig, t) := t.attSign (t.lc.uid ++ t.cmnPub ++ ek ++ r.drop 64)
      let m := CmnMsg.hello t.lc.uid t.cmnPub ek (r.drop 64) sig
      let msgs := t.hsMsgs peer num m
      if t.routeTakes peer msgs.length then
        let x : CmnSess := { peer, num, eph := dk, hello := Config.cmnBody m, since := t.drv.tick }
        let t := (t.putSess x).route peer msgs
        (t.timer 5 (t.drv.tick + 5000 * t.getF Reg.CMN_CFG_HB_MS) (.cmn 1 peer)).2
      else s

/-- One waiting message: sent where its session is open; where there is none, a session is opened for it (R439), once a roster is loaded
(R436). A message to a module that is no member goes nowhere. -/
def State.pumpOne (s : State) (p : Nat × CmnMsg) : State :=
  let keep (s : State) : State := s.setCmn { s.cmn with waiting := s.cmn.waiting ++ [p] }
  match s.cmnSess p.1 with
  | some x =>
    if x.opening then keep s
    else
      match s.sendNow x p.2 with
      | some t => t
      | none => if 2 ^ 32 < x.seq then keep (s.endSess p.1) else keep s
  | none =>
    if p.1 = s.cmnSelf then s
    else if (s.peerEntry p.1).isSome then keep (s.dial p.1)
    else if s.root.cmn.member && !s.rosterIn then keep s
    else s

/-- Send what waits, in order. -/
def State.pump (s : State) : State :=
  let l := s.cmn.waiting
  l.foldl State.pumpOne (s.setCmn { s.cmn with waiting := [] })

/-- Queue a message for a peer and send what can go. -/
def State.send (s : State) (peer : Nat) (m : CmnMsg) : State := (s.setCmn { s.cmn with waiting := s.cmn.waiting ++ [(peer, m)] }).pump

/-- The record of a session key: it may be sealed into a Commons message (R301, R439). -/
def State.cmnAttr (s : State) : Bytes :=
  let a := s.mkAttr true (usage2 'D' '0') (letter 'A') (letter 'B') (letter 'N') kvnNone 0x05 256 0
  a.take 12 ++ [0x01] ++ a.drop 13

/-- The two session keys, initiator's direction first (R439, log 45): HKDF-SHA-256 with the Commons ID and the digest of the
transcript. -/
def cmnKeys (z cid transcript : Bytes) : Bytes × Bytes :=
  let info := cid ++ sha256 transcript
  let prk := hmac 1 [] z
  let t1 := hmac 1 prk (info ++ [0x01])
  (t1, hmac 1 prk (t1 ++ info ++ [0x02]))

/-- Open a session with its keys as module keys (R439); without slots for them the attempt ends. -/
def State.openSess (s : State) (x : CmnSess) (z transcript : Bytes) : State :=
  let (a, b) := cmnKeys z s.cmnCid transcript
  let (kt, kr) := if x.mine then (a, b) else (b, a)
  match s.makeKey stewardQ 0x0A 0x05 s.cmnAttr kt [] .none with
  | (some h1, s) =>
    match s.makeKey stewardQ 0x0A 0x05 s.cmnAttr kr [] .none with
    | (some h2, s) =>
      let now := s.drv.tick
      let hb := 1000 * s.getF Reg.CMN_CFG_HB_MS
      let s := s.putSess { x with opening := false, eph := [], hello := [], tx := (Handle.ofNat h1).slot, rx := (Handle.ofNat h2).slot, heard := now, beat := now }
      let s := s.dropTimer (.cmn 1 x.peer)
      let s := (s.timer 5 (now + hb) (.cmn 0 x.peer)).2
      ((s.timer 5 (now + 5 * hb) (.cmn 1 x.peer)).2).pump
    | (none, s) => (s.freeKey (Handle.ofNat h1).slot).failSess x.peer
  | (none, s) => s.failSess x.peer

/-! ### Taking messages in (R440) -/

/-- The header of a message. -/
structure CmnHead where
  type : Nat
  sender : Nat
  receiver : Nat
  seg : Nat
  last : Nat
  num : Nat
  seq : Nat
  len : Nat

/-- Read a header; none where the message has not the form of R440, its LEN apart. -/
def cmnRead (b : Bytes) : Option CmnHead :=
  let h : CmnHead := ⟨byteAt b 4, leAt b 6 2, leAt b 8 2, byteAt b 11, byteAt b 10, leAt b 12 4, leAt b 16 8, leAt b 24 4⟩
  if slice b 0 4 == magic 0x45 0x5A 0x43 0x4D && byteAt b 5 == 0 && allZero (slice b 28 4) && decide (h.sender < cmnSize) &&
      decide (h.receiver < cmnSize) && decide (h.seg ≤ h.last) && decide (49 ≤ b.length) && decide (b.length ≤ 8240) then some h
  else none

/-- Put a message whose parts are all in into the inbox. -/
def State.deliver (s : State) (peer num type : Nat) (body : Bytes) : State :=
  match Config.cmnRead type body with
  | some m => if cmnType m = type then s.setCmn { s.cmn with inbox := s.cmn.inbox ++ [⟨peer, num, m⟩] } else s
  | none => s

/-- An unsealed part: a whole message, or a segment gathered until all are in (R440). -/
def State.gatherPart (s : State) (x : CmnSess) (h : CmnHead) (body : Bytes) : State :=
  if h.last = 0 then (s.putSess x).deliver x.peer x.num h.type body
  else
    let mine (p : Nat × Nat × Nat × Bytes) : Bool := p.1 == h.type && p.2.2.1 == h.last
    let l := x.segs.filter (fun p => !(mine p && p.2.1 == h.seg)) ++ [(h.type, h.seg, h.last, body)]
    let all := (List.range (h.last + 1)).map (fun i => (l.find? (fun p => mine p && p.2.1 == i)).map (fun p => p.2.2.2))
    if all.all Option.isSome then
      (s.putSess { x with segs := l.filter (fun p => !mine p) }).deliver x.peer x.num h.type (all.flatMap (fun o => o.getD []))
    else s.putSess { x with segs := l }

/-- A sealed message: the replay window, the tag, then its content (R25, R440). -/
def State.takeSealed (s : State) (x : CmnSess) (h : CmnHead) (b : Bytes) : Nat × State :=
  if h.seq = 0 || h.seq + 1024 ≤ x.top || x.seen.contains h.seq then
    (St.done, (s.bump Reg.CMN_REPLAY_DROP_COUNT).post 0xC001 x.peer 0 x.peer)
  else
    match gcmOpen (s.kslot x.rx).key (cmnNonce h.num h.seq) (b.take 32) (b.drop 32) with
    | none => (St.verifyFailed, s.post 0xC002 x.peer 0 x.peer)
    | some body =>
      let top := max x.top h.seq
      let x := { x with top, seen := (h.seq :: x.seen).filter (fun q => decide (top < q + 1024)), heard := s.drv.tick, lost := false }
      let s := s.gatherPart x h body
      (St.done, if h.seq = 2 ^ 32 then s.endSess x.peer else s)

/-- One arriving message (R436, R440): its status for CMN_RELAY_IN, and what it leaves. -/
def State.takeMessage (s : State) (b : Bytes) : Nat × State :=
  match cmnRead b with
  | none => (St.badOperand, s)
  | some h =>
    if b.length ≠ h.len + 48 then (St.lengthMismatch, s)
    else if h.receiver ≠ s.cmnSelf || (s.peerEntry h.sender).isNone then (St.done, s)
    else if h.type = 1 || h.type = 2 then
      if h.seq ≠ 0 || !allZero (b.drop (32 + h.len)) then (St.badOperand, s)
      else if s.cmn.hs.any (fun x => x.peer == h.sender && x.num == h.num && x.type == h.type && x.seg == h.seg) then (St.done, s)
      else (St.done, s.setCmn { s.cmn with hs := s.cmn.hs ++ [⟨h.sender, h.num, h.type, h.seg, h.last, slice b 32 h.len⟩] })
    else
      match s.cmnSess h.sender with
      | some x => if x.opening || x.num ≠ h.num then (St.done, s) else s.takeSealed x h b
      | none => (St.done, s)

/-- The frames Furrow diverted are unsealed, where an ADMIN-role cell is in service (R25). -/
def State.intake (s : State) : State :=
  if s.roleUp 5 then
    let l := s.fur.toCmn
    l.foldl (fun (s : State) p => match Config.cmnUnframe p.2 with
      | some b => (s.takeMessage b).2
      | none => s) { s with fur := { s.fur with toCmn := [] } }
  else s

/-- Take the first message of the inbox that passes a test. -/
def State.takeInbox (s : State) (p : CmnMsg → Bool) : Option (CmnIn × State) :=
  match s.cmn.inbox.find? (fun x => p x.msg) with
  | some x => some (x, s.setCmn { s.cmn with inbox := s.cmn.inbox.erase x })
  | none => none

/-! ### Leaving (R438, R445) -/

/-- Every session ends and the roster goes, with all that waits (R445). -/
def State.cmnDown (s : State) : State :=
  let s := s.cmn.sess.foldl (fun s x => s.endSess x.peer) s
  (s.setCmn { s.cmn with roster := [], sess := [], waiting := [], invites := [], join := none, admits := [], moves := [], last := none, inbox := [], hs := [],
                         openers := [], failed := [] }).setF Reg.CMN_STATUS_ROSTER_LOADED 0

/-- A swale: sessions and roster lost; a join or move in progress is abandoned, event 0xC008 (R27, R445). -/
def State.cmnAbandon (s : State) : State :=
  let s := match s.cmn.join with
    | some j => s.post 0xC008 j.inv.sponsor 0 j.inv.sponsor
    | none => s
  s.cmn.moves.foldl (fun s m => s.post 0xC008 m.1 1 m.1) s

/-- The module is no member any more: the Commons area is cleared, replica table included (R438). -/
def State.cmnNone (s : State) : State :=
  let s := s.cmnDown
  (s.setCmn { s.cmn with admitted := none }).setMember {}

/-! ### Roster changes (R438) -/

/-- A roster update goes to the peers of the open sessions, but the one it came from. -/
def State.tellAll (s : State) (but : Option Nat) (m : CmnMsg) : State :=
  ((s.cmn.sess.filter (fun x => !x.opening && some x.peer != but)).map CmnSess.peer).foldl (fun s p => s.send p m) s

/-- The sponsor sends the roster to the candidates it admitted (R437 step 4). -/
def State.sendAdmits (s : State) : State :=
  let (now, later) := s.cmn.admits.partition (fun a => s.entry a.1 == a.2)
  let s := s.setCmn { s.cmn with admits := later }
  now.foldl (fun s a => s.send a.1 (.roster s.root.cmn.gen s.rosterBytes)) s

/-- A change is made in the roster as generation `g` (R438). -/
def State.applyChange (s : State) (g keeper i : Nat) (b : Bytes) : State :=
  let old := s.entry i
  let s := ((s.putEntry i b).setGen g)
  (s.setCmn { s.cmn with last := some ⟨g, keeper, i, fit 32 b, old⟩ }).sendAdmits

/-- The session of a peer that has left the roster ends (R439). -/
def State.dropLeft (s : State) (i : Nat) : State := if allZero (s.entry i) then s.endSess i else s

/-- The keeper applies a change and tells its sessions, that of a member expelled included (R438). -/
def State.keep (s : State) (i : Nat) (b : Bytes) : State :=
  let s := s.applyChange (s.root.cmn.gen + 1) s.root.cmn.self i b
  (s.tellAll none (.update s.root.cmn.gen s.root.cmn.self i (fit 32 b) s.root.cmn.digest)).dropLeft i

/-- A change goes to the keeper (R438). -/
def State.change (s : State) (i : Nat) (b : Bytes) : State :=
  let k := s.keeper
  if k = s.root.cmn.self then s.keep i b else s.send k (.change i (fit 32 b))

/-- The peers a change is sent to first: the keeper, or from the keeper every open session (R438). -/
def State.changePeers (s : State) : List Nat :=
  if s.keeper = s.root.cmn.self then (s.cmn.sess.filter (fun x => !x.opening)).map CmnSess.peer else [s.keeper]

/-- The relay queue has room for one message to each of these peers (R441). -/
def State.relayRoom (s : State) (peers : List Nat) : Bool :=
  let n := (peers.filter s.byRelay).length
  n == 0 || decide (s.cmn.outQ.length + n ≤ 256)

/-- A change can leave the module at once. -/
def State.changeGoes (s : State) : Bool :=
  s.relayRoom s.changePeers && (s.changePeers.all s.byRelay || s.cmnChannel.isSome)

end Sys2Proof.Machine
end

