-- ==== Sys2Proof/Machine/CusOps.lean ====
section
/-! DEFINITION. The custodians' shared operations (spec/08): requests, the pending table, verdicts and their verification. -/

namespace Sys2Proof.Machine

/-- The custodian slots enrolled, as a bit set (R153). -/
def State.enrolled (s : State) : Nat :=
  (List.range 16).foldl (fun v k => if (s.cus k).st = 1 then setBit v k else v) 0

/-- The effective threshold of a class: k, and in Production at least 2 (R155). -/
def State.kEff (s : State) (c : Nat) : Nat := if s.lc.st = 2 then max (s.cls c).k 2 else (s.cls c).k

/-- n, the enrolled members of a class (R155). -/
def State.nMembers (s : State) (c : Nat) : Nat := popCount 16 ((s.cls c).members &&& s.enrolled)

/-- The 136-byte request record (R157). -/
def requestRecord (uid : Bytes) (opcode cls : Nat) (nonce : Bytes) (h : Nat × Nat × Nat) (inDigest : Bytes) (inLen : Nat) : Bytes :=
  let body := magic 0x45 0x5A 0x52 0x51 ++ le 2 opcode ++ le 1 cls ++ zeros 1 ++ fit 16 uid ++ fit 16 nonce ++ le 8 h.1 ++ le 8 h.2.1 ++
    le 8 h.2.2 ++ fit 32 inDigest ++ le 4 inLen ++ zeros 4
  body ++ sha256 body

/-- The entry a flagged descriptor matches (R158). -/
def State.matchPend (s : State) (d : Descriptor) (input : Bytes) : Option Nat :=
  (List.range 64).find? (fun e =>
    let p := s.pendE e
    p.st != 0 && p.opcode == d.opcode && p.handles == (d.key0, d.key1, d.key2) && p.inLen == d.inLen && p.inDigest == sha256 input)

/-- Complete a flagged descriptor with the request record (R157). -/
def State.completeRecord (s : State) (qid : Nat) (d : Descriptor) (record : Bytes) : State :=
  let (v, s) := s.free
  s.complete qid d.outAddr d.outLen record
    { tag := d.tag, status := St.quorumRequired, outLen := record.length, time := s.drv.tick, info := v % 8 }

/-- A flagged descriptor that has not begun its exchange waits in HIF in ring order (R310, R330): at the front where it was taken from there. -/
def State.putWaiting (s : State) (qid : Nat) (front : Bool) (w : Waiting) : State :=
  let q := s.queue qid
  s.setQueue qid { q with waiting := if front then w :: q.waiting else q.waiting ++ [w] }

/-- Open a request (R157, R159, R164). -/
def State.openPend (s : State) (qid : Nat) (front : Bool) (d : Descriptor) (t : Template) (input : Bytes) : State :=
  match s.draw 9 16 with
  | none => (s.stall (.queue qid)).putWaiting qid front ⟨d, t, input, none⟩
  | some (nonce, s1) =>
    let s1 := s1.unstall (.queue qid)
    match (List.range 64).find? (fun e => (s.pendE e).st == 0) with
    | none => (s1.setF Reg.CUS_EVENT_FULL 1).refuse qid d.tag St.busy
    | some e =>
      let c := t.quorum.getD 0
      let dg := sha256 input
      let rec_ := requestRecord s.lc.uid d.opcode c nonce (d.key0, d.key1, d.key2) dg d.inLen
      let life := 60000 * s.getF Reg.CUS_CFG_PEND_MIN
      let enrol := d.opcode == 0x0F03
      let p : Pend := {
        st := 1, cls := c, opcode := d.opcode, handles := (d.key0, d.key1, d.key2), inLen := d.inLen, inDigest := dg, nonce
        digest := rec_.drop 104, record := rec_, expiry := s.cairn.opTime + life
        enrolSlot := if enrol then some (byteAt input 0) else none
        enrolPk := if enrol then input.drop 4 else [], enrolAlg := if enrol then byteAt input 1 else 0 }
      let s2 := ((s1.timer 4 (s1.drv.tick + 1000 * life) (.pend e)).2.setPend e p).post 0xD001 e d.opcode c
      s2.completeRecord qid d rec_

/-- Admission check 6: the exchange of a flagged descriptor with the pending table (R157, R163). -/
def State.quorumExchange (s : State) (qid : Nat) (front : Bool) (d : Descriptor) (t : Template) (input : Bytes) : State :=
  if d.opcode = 0x0F03 && byteAt input 1 = 2 && !s.lc.variant.hasPqc then (s.unstall (.queue qid)).refuse qid d.tag St.unitAbsent
  else
    match s.matchPend d input with
    | none => s.openPend qid front d t input
    | some e =>
      let s := s.unstall (.queue qid)
      let p := s.pendE e
      if p.st = 1 then
        if p.waiting then s.refuse qid d.tag St.busy
        else (s.setPend e { p with waiting := true }).putWaiting qid front ⟨d, t, input, some e⟩
      else if p.st = 2 then s.refuse qid d.tag St.busy
      else (s.freePend e).refuse qid d.tag St.quorumRejected

/-! ### Verification -/

/-- The parameter set of a custodian signature type (R153, R160). -/
def cusSet (alg : Nat) : Nat := if alg = 1 then 0x50 else 0x48

/-- The candidate's approval of an enrolment, where it stands (R164). -/
def Pend.candidate (p : Pend) : Option Approval :=
  match p.enrolSlot with
  | some k => p.approvals.find? (fun a => a.slot == k)
  | none => none

/-- The approval verified next: the candidate's, then the unverified ones in ascending slot order (R163, R164). -/
def Pend.nextApproval (p : Pend) : Option Approval :=
  let open_ := p.approvals.filter (fun a => !bit p.verified a.slot)
  match p.candidate.filter (fun a => !bit p.verified a.slot) with
  | some a => some a
  | none => ((List.range 16).filterMap (fun k => open_.find? (fun a => a.slot == k))).head?

/-- Approvals that have passed and count toward k (R163, R164). -/
def Pend.passed (p : Pend) : Nat :=
  popCount 16 (match p.enrolSlot with
    | some k => clrBit p.verified k
    | none => p.verified)

/-- The candidate of an enrolment has approved, where one is needed (R164). -/
def Pend.candidateOk (p : Pend) : Bool :=
  match p.enrolSlot with
  | some k => bit p.verified k
  | none => true

/-- The key an approval is verified under: its slot's, or the candidate's own (R161, R164). -/
def State.approvalKey (s : State) (p : Pend) (a : Approval) : Bytes :=
  if p.enrolSlot = some a.slot && (s.cus a.slot).st != 1 then p.enrolPk else (s.cus a.slot).pk

/-- The quorum is met (R163). -/
def State.quorumMet (s : State) (p : Pend) : Bool := p.candidateOk && decide (s.kEff p.cls ≤ p.passed) && decide (0 < s.kEff p.cls)

/-- The approvals have run out: without the candidate's approval nothing more is verified (R164). -/
def Pend.exhausted (p : Pend) : Bool :=
  p.nextApproval.isNone || (p.enrolSlot.isSome && p.candidate.isNone)

/-- The next signature is verified: an SLH-DSA-SHA2-128s one by the hub, an ML-DSA-65 one in a node of the command's graph (R162, R163). -/
def State.nextSig (s : State) (e : Nat) : State :=
  let p := s.pendE e
  match p.graph, p.nextApproval with
  | some g, some a =>
    let s := s.setPend e { p with sig := some a }
    if a.alg = 2 then s.addVerify g else s
  | _, _ => s

/-- What follows a signature: the graph's nodes are placed, the command is aborted or rejected, the entry returns to PENDING and its
record is written again, or the next signature is verified (R163, R218). -/
def State.afterVerify (s : State) (e : Nat) : State :=
  let p := s.pendE e
  match p.graph with
  | none => s
  | some g =>
    match s.graph g with
    | none => s
    | some gr =>
      if p.aborting then s.endGraph g St.aborted none
      else if s.quorumMet p then ((s.freePend e).post 0xD002 e p.opcode p.cls).placeNodes g
      else if p.rejecting then ((s.freePend e).finishGraph g St.quorumRejected none)
      else if p.exhausted then
        let s := s.clearGraph g
        s.completeRecord gr.qid gr.desc p.record
      else s.nextSig e

/-- An approval that fails is discarded and counted (R163). -/
def State.badSig (s : State) (e : Nat) (a : Approval) : State :=
  let p := s.pendE e
  let s := s.setPend e { p with approvals := p.approvals.filter (fun x => x.slot != a.slot) }
  ((s.bump Reg.CUS_BAD_SIG_COUNT).setF Reg.CUS_EVENT_BAD_SIG 1).post 0xD003 a.slot e 0

/-- A verification node completes and leaves its cell (R162). -/
def State.endVerify (s : State) (g k : Nat) : State :=
  match s.graph g with
  | some gr =>
    let n := gr.nodes.length - 1
    ((s.bump (Reg.SWD_CELL_NODES_COUNT (k / 2))).setGraph g (some (gr.setNode n { gr.node n with phase := .done, status := some St.done }))).endSlot k
  | none => s

/-- Verification of one stored approval completes (R162, R163): the hub's, with `mis` mismatches of its digest engines (R285), or that of the node
that runs on a PQC cell. A verdict that was removed meanwhile leaves no mark (R165). -/
def State.verifyNext (s : State) (e mis : Nat) : State :=
  let p := s.pendE e
  match p.graph, p.sig with
  | some g, some a =>
    let slot := if a.alg = 2 then s.verifySlot g else none
    if a.alg = 2 && slot.isNone then s
    else
      let hub := if a.alg = 2 then 0 else mis
      let good := verifyPure (cusSet a.alg) (s.approvalKey p a) [] a.msg a.sig && decide (hub < 2)
      let s := (List.replicate hub ()).foldl (fun (s : State) _ => s.noteMismatch) s
      let s := match slot with
        | some k => s.endVerify g k
        | none => s
      let s := s.setPend e { p with sig := none }
      if !p.approvals.any (fun x => x.slot == a.slot) then s.afterVerify e
      else if good then (s.setPend e { p with sig := none, verified := setBit p.verified a.slot }).afterVerify e
      else (s.badSig e a).afterVerify e
  | _, _ => s

/-- Drover accepts a flagged resubmission: it takes its graph instance and deadline, and its entry becomes VERIFYING (R163). -/
def State.beginVerify (s : State) (qid e epoch : Nat) (w : Waiting) : State :=
  let g := s.drv.seqNo
  let p := s.pendE e
  let s := s.setPend e { p with st := 2, waiting := false, graph := some g }
  (s.newGraph qid w.desc w.tpl epoch (some w.input) (some e)).afterVerify e

/-- Rejects of a class's entries: they become REJECTED, one that is verified after its signature in progress (R161, R163, R166). -/
def State.reject (s : State) (e : Nat) : State :=
  let p := s.pendE e
  let s := s.setF Reg.CUS_EVENT_REJECTED 1
  if p.st = 1 then s.setPend e { p with st := 3 }
  else if p.st = 2 then s.setPend e { p with rejecting := true }
  else s

end Sys2Proof.Machine
end

