-- ==== Sys2Proof/Machine/Flash.lean ====
section
/-! DEFINITION. The bale flash (spec/04): its slots, the header and its form, and the section digests a reload checks. -/

namespace Sys2Proof.Machine

/-! ### The flash slots (R74, R80) -/

/-- The bytes of a 64 KiB chunk of a slot; an erased chunk reads as ones. -/
def State.chunk (s : State) (slot i : Nat) : Bytes :=
  let b := getC [] s.bale.flash (768 * slot + i)
  if b.isEmpty then List.replicate 65536 0xFF else fit 65536 b

/-- Program a chunk. -/
def State.setChunk (s : State) (slot i : Nat) (b : Bytes) : State :=
  { s with bale := { s.bale with flash := setC [] s.bale.flash (768 * slot + i) (if b.all (fun x => x == 0xFF) then [] else b) } }

/-- Erase the first `n` chunks of a slot (R80). -/
def State.eraseChunks (s : State) (slot n : Nat) : State :=
  (List.range (min n 768)).foldl (fun s i => s.setChunk slot i []) s

/-- `n` bytes of a slot from an offset. -/
def State.flashRead (s : State) (slot off n : Nat) : Bytes :=
  if n = 0 then []
  else
    let c0 := off / 65536
    slice ((List.range ((off + n - 1) / 65536 + 1 - c0)).flatMap (fun i => s.chunk slot (c0 + i))) (off % 65536) n

/-- The 4 KiB header of a slot (R74). -/
def State.header (s : State) (slot : Nat) : Bytes := (s.chunk slot 0).take 4096

/-! ### The header (R74, R75) -/

/-- A section entry (R74). -/
structure Sect where
  type : Nat
  role : Nat
  off : Nat
  len : Nat
  res : Nat
  digest : Bytes
deriving DecidableEq, Repr

def sectAt (h : Bytes) (i : Nat) : Sect :=
  let o := 0x40 + 48 * i
  ⟨leAt h o 2, leAt h (o + 2) 2, leAt h (o + 4) 4, leAt h (o + 8) 4, leAt h (o + 12) 4, slice h (o + 16) 32⟩

def hdrEpoch (h : Bytes) : Nat := leAt h 8 4
def hdrTotal (h : Bytes) : Nat := leAt h 0xC 4
def hdrStates (h : Bytes) : Nat := byteAt h 0x10
def hdrKey (h : Bytes) : Nat := byteAt h 0x11
def hdrCount (h : Bytes) : Nat := leAt h 0x12 2
def hdrOverlap (h : Bytes) : Nat := leAt h 0x14 2
def hdrSigner (h : Bytes) : Bytes := slice h 0x18 32

/-- The sections of a header. -/
def sects (h : Bytes) : List Sect := (List.range (min (hdrCount h) 64)).map (sectAt h)

/-- A section lies in its ranges, within TOTAL_LEN and above the signature (R74, R75). DESIGN CHOICE (log 207): a firmware section names a
role a cell can serve in, 1 to 6, and not FALLOW. -/
def sectOk (h : Bytes) (x : Sect) : Bool :=
  decide (1 ≤ x.type) && decide (x.type ≤ 7) && (if x.type = 2 then decide (1 ≤ x.role) && decide (x.role ≤ 6) else x.role == 0) &&
    x.off % 4096 == 0 && decide (0x3000 ≤ x.off) && decide (1 ≤ x.len) && x.res == 0 && decide (x.off + x.len ≤ hdrTotal h)

/-- Two sections share no byte. -/
def sectApart (x y : Sect) : Bool := decide (x.off + x.len ≤ y.off) || decide (y.off + y.len ≤ x.off)

/-- No two elements fail a test that is symmetric. -/
def pairwise {α : Type} (f : α → α → Bool) : List α → Bool
  | [] => true
  | x :: l => l.all (f x) && pairwise f l

/-- The sections R75 asks for: one each of types 1 and 3 to 7, at most one firmware section per role. -/
def sectsWhole (l : List Sect) : Bool :=
  ([1, 3, 4, 5, 6, 7] : List Nat).all (fun t => (l.filter (fun x => x.type == t)).length == 1) &&
    (List.range 8).all (fun r => decide ((l.filter (fun x => x.type == 2 && x.role == r)).length ≤ 1))

/-- Every field of the header lies in its range and every reserved byte is zero (R74, R75). -/
def hdrForm (h : Bytes) : Bool :=
  slice h 0 4 == magic 0x45 0x5A 0x42 0x4C && leAt h 4 2 == 1 && leAt h 6 2 == 0x1000 && hdrEpoch h != 0 && decide (hdrTotal h ≤ 0x3000000) &&
    decide (hdrStates h ≤ 3) && decide (hdrKey h ≤ 3) && decide (1 ≤ hdrCount h) && decide (hdrCount h ≤ 64) && decide (1 ≤ hdrOverlap h) &&
    decide (hdrOverlap h ≤ 4320) && leAt h 0x16 2 == 0 && allZero (slice h 0x38 8) && allZero (slice h (0x40 + 48 * hdrCount h) (48 * (64 - hdrCount h))) &&
    allZero (slice h 0xC40 960) && (sects h).all (sectOk h) && pairwise sectApart (sects h) && sectsWhole (sects h)

/-! ### Section digests (R75, R84) -/

/-- A section's bytes have the digest its entry gives. -/
def State.sectIntact (s : State) (slot : Nat) (x : Sect) : Bool := sha256 (s.flashRead slot x.off x.len) == x.digest

/-- The type of the first section of the adopted bale whose bytes fail their digest at a reload: its device does not answer, holds other
bytes now, or returned it wrong (`misread`); none where every digest matches (R84). -/
def State.badSection (s : State) (misread : Option Nat) : Option Nat :=
  let slot := s.bale.adoptedSlot
  let l := sects s.bale.adoptedHdr
  ((List.range l.length).find? (fun i => match l[i]? with
    | some x => misread == some i || getC false s.bale.deviceBad slot || !s.sectIntact slot x
    | none => false)).map (fun i => ((l[i]?).map Sect.type).getD 0)

end Sys2Proof.Machine
end

