-- ==== Sys2Proof/Machine/PowerOps.lean ====
section
/-! DEFINITION. Supply, power levels and hold-up (spec/03): effective levels and their steps, the counters behind
`LC_POWER_OK`, and what a sleep transition saves and restores. -/

namespace Sys2Proof.Machine

/-! ### Levels (R55 to R57) -/

/-- The requested level in force: a level written while the meadow sleeps or changes state waits until it is next ACTIVE (R68). -/
def State.levelInForce (s : State) (m : Nat) : Nat :=
  let req := s.getF (Reg.PWR_MDW_CTL_REQ_LEVEL m)
  if s.sleepState m = 0 then req else (getC none s.pwr.heldReq m).getD req

/-- The level a meadow moves toward (R56); P3 until step 6 and while a fuse write on the low-input path holds every meadow there
(R60). -/
def State.targetLevel (s : State) (m : Nat) : Nat :=
  if s.bale.step < 6 || s.pwr.holdP3 then 3
  else min 3 (max (s.levelInForce m) (s.getF Reg.PWR_STATUS_CAP_ACTIVE) + s.getF Reg.PWR_STATUS_SAG_ACTIVE)

/-- The direction of the level step a meadow makes: up (faster) or down; none between steps. -/
def State.stepping (s : State) (m : Nat) : Option Bool := getC none s.pwr.stepping m

/-- `PWR_STATUS.LEVEL_CHANGING` (R57). -/
def State.refreshChanging (s : State) : State := s.setF Reg.PWR_STATUS_LEVEL_CHANGING (b2n (s.pwr.stepping.any (fun x => x.2.isSome)))

/-- Begin a meadow's next step where its level is not the one it moves toward (R57): every meadow, in any sleep state, follows the cap and
a sag (R58, R59). -/
def State.beginStep (s : State) (m : Nat) : State :=
  let e := s.getF (Reg.PWR_MDW_STAT_EFF_LEVEL m)
  let t := s.targetLevel m
  if s.hasMeadow m && (s.stepping m).isNone && e ≠ t then
    { s with pwr := { s.pwr with stepping := setC none s.pwr.stepping m (some (decide (t < e))) } }
  else s

/-- Decide every meadow's level anew. -/
def State.refreshLevels (s : State) : State := ((List.range 8).foldl State.beginStep s).refreshChanging

/-- One step of a meadow ends, and the next begins in the direction the newest decision requires (R57). -/
def State.levelStep (s : State) (m : Nat) : State :=
  match s.stepping m with
  | some up =>
    let e := s.getF (Reg.PWR_MDW_STAT_EFF_LEVEL m)
    let s := s.setF (Reg.PWR_MDW_STAT_EFF_LEVEL m) (if up then e - 1 else min 3 (e + 1))
    { s with pwr := { s.pwr with stepping := setC none s.pwr.stepping m none } }.refreshLevels
  | none => s

/-- A fuse write on the low-input path holds every meadow at P3 until it ends (R60). -/
def State.fuseHold (s : State) : State :=
  if s.isSet Reg.PWR_STATUS_LC_LOW_PATH then
    let s : State := { s with pwr := { s.pwr with holdP3 := true, stepping := [] } }
    ((List.range 8).foldl (fun s m => if s.hasMeadow m then s.setF (Reg.PWR_MDW_STAT_EFF_LEVEL m) 3 else s) s).refreshChanging
  else s

/-- The fuse write has ended. -/
def State.fuseRelease (s : State) : State :=
  if s.pwr.holdP3 then { s with pwr := { s.pwr with holdP3 := false } }.refreshLevels else s

/-! ### Hold-up and `LC_POWER_OK` (R60) -/

/-- `HOLDUP_CHARGED`, `LC_POWER_OK` and `LC_LOW_PATH` from the store and the two counters (R60). -/
def State.refreshLcPower (s : State) : State :=
  let c := s.isSet Reg.PWR_HOLDUP_CHARGED
  let hi := decide (1000 ≤ s.getF Reg.PWR_STATUS_ABOVE16_MS)
  let lo := decide (1000 ≤ s.getF Reg.PWR_LC_STAB_STABLE_MS)
  ((s.setF Reg.PWR_STATUS_HOLDUP_CHARGED (b2n c)).setF Reg.PWR_STATUS_LC_POWER_OK (b2n (c && (hi || lo)))).setF
    Reg.PWR_STATUS_LC_LOW_PATH (b2n (c && lo && !hi))

/-- What the hold-up store holds at its fullest, in µJ (R60). -/
def storeFull : Nat := 6000000

/-- The energy the store takes in one millisecond, in µJ: a constant power of 4.0 W to 4.4 W that each module fixes (R60). -/
def chargePerMs : Nat := 4000 + Config.chargeRate % 401

/-- One millisecond of charging (R60). -/
def State.chargeStore (s : State) : State :=
  { s with pwr := { s.pwr with storeUj := if s.pwr.storeUj < storeFull then min storeFull (s.pwr.storeUj + chargePerMs) else s.pwr.storeUj } }

/-- `PWR_HOLDUP` shows the energy in units of 10 mJ: charged at 520, no longer below 500 (R60). -/
def State.showEnergy (s : State) : State :=
  let e := s.pwr.storeUj / 10000
  let s := s.setF Reg.PWR_HOLDUP_ENERGY e
  (if 520 ≤ e then s.setF Reg.PWR_HOLDUP_CHARGED 1 else if e < 500 then s.setF Reg.PWR_HOLDUP_CHARGED 0 else s).refreshLcPower

/-- A fuse write may start (R60). -/
def State.lcPower (s : State) : Bool := s.isSet Reg.PWR_STATUS_LC_POWER_OK

/-! ### Sleep (R64 to R68) -/

/-- Set a meadow's sleep state. -/
def State.setSleep (s : State) (m st : Nat) : State := s.setF (Reg.PWR_MDW_STAT_STATE m) st

/-- The transition of a meadow goes to or comes from S3. -/
def State.deep (s : State) (m : Nat) : Bool := getC false s.pwr.deep m
def State.setDeep (s : State) (m : Nat) (b : Bool) : State := { s with pwr := { s.pwr with deep := setC false s.pwr.deep m b } }

/-- Write the save list of a meadow (R64, R65). -/
def State.saveMeadow (s : State) (m : Nat) : State :=
  let v : Save := {
    cells := (cellsOf m).map (fun c => (s.cellRole c, s.roleEpoch c, s.nextRole c)), level := s.getF (Reg.PWR_MDW_CTL_REQ_LEVEL m)
    epoch := getC 0 s.bale.mdwEpoch m, valid := true }
  { s with pwr := { s.pwr with save := setC {} s.pwr.save m v } }

/-- Refuse a sleep command (R68, R71). -/
def State.sleepRefused (s : State) (m : Nat) : State := (s.setF Reg.PWR_EVENT_CMD_REFUSED 1).post 0x1004 m 0 0

/-- Every cell of a meadow is Fallow (R65). -/
def State.allFallow (s : State) (m : Nat) : Bool := (cellsOf m).all (fun c => s.cellState c == 3)

/-- Entry to S2 begins: prefetched nodes that have not started are taken back (R64). -/
def State.beginS2 (s : State) (m : Nat) : State :=
  (cellsOf m).foldl (fun s c => (s.reclaim (2 * c)).reclaim (2 * c + 1)) ((s.setSleep m 1).setDeep m false)

/-- Entry to S3 begins where every cell is Fallow, otherwise the command is refused (R65, R68). -/
def State.beginS3 (s : State) (m : Nat) : State :=
  if s.allFallow m then (s.setSleep m 3).setDeep m true else s.sleepRefused m

/-- The arbiters of a meadow's clumps restart: wait counters at zero (R65, R201). -/
def State.clearWaits (s : State) (m : Nat) : State :=
  (List.range 4).foldl (fun (s : State) i =>
    let k := 4 * m + i
    ((List.range 10).foldl (fun (s : State) r => s.setF (arbWait k r) 0) s).setPort k { s.port k with limited := [] }) s

/-- A meadow leaves S2 or S3 awake: counted, and its levels decided anew with the level requested last (R66, R68, R71). A wake that found
the save memory sound clears `SAVE_FAULT` (R71). -/
def State.wakeDone (s : State) (m : Nat) : State :=
  let s := (((s.setSleep m 0).setDeep m false).bump (Reg.PWR_MDW_STAT_WAKE_COUNT m)).clearWaits m
  let s := if getC false s.pwr.saveBad m then s else s.setF (Reg.PWR_MDW_STAT_SAVE_FAULT m) 0
  { s with pwr := { s.pwr with
      saveBad := setC false s.pwr.saveBad m false, heldReq := setC none s.pwr.heldReq m none, wiped := setC false s.pwr.wiped m false } }.refreshLevels.armIdle m

/-- No requester asserts at a memory port of the meadow's clumps: a clump sleeps only with every request dropped (R65). -/
def State.portsIdle (s : State) (m : Nat) : Bool := (List.range 4).all (fun i => (s.port (4 * m + i)).req.isEmpty)

/-- Nodes that stalled for the wake of a meadow run (R66). -/
def State.runStalled (s : State) (m : Nat) : State :=
  (cellsOf m).foldl (fun s c =>
    if (s.runningSlot c).isSome then s
    else if (s.slotOf c 0).isSome then s.wakeSlot (2 * c)
    else if (s.slotOf c 1).isSome then s.wakeSlot (2 * c + 1)
    else s) s

/-- The cells of a meadow after a wake from S3: their saved roles, a role epoch raised by one, Fallow with cause STEWARD; Drover
reads the meadow FALLOW (R65). -/
def State.wakeFallow (s : State) (m : Nat) : State :=
  let v := getC {} s.pwr.save m
  let s := (List.range 32).foldl (fun s i =>
    let c := 32 * m + i
    let w := (v.cells[i]?).getD (s.cellRole c, s.roleEpoch c, s.nextRole c)
    let s := ((s.setRole c w.1).setF (Reg.SWD_CELL_STAT_EPOCH c) (w.2.1 + 1)).setF (Reg.SWD_CELL_CTL_NEXT_ROLE c) w.2.2
    (s.setCell c 3).setCause c 0) s
  s.setMdw m 5

/-- A meadow begins a reload as at a wake from S3, its stalled nodes moving under R21 (R67, R68). -/
def State.reloadAsS3 (s : State) (m : Nat) : State :=
  let s := (s.setSleep m 5).setDeep m true
  (cellsOf m).foldl (fun s c =>
    let s := (if s.cellState c = 3 then s else s.takeFallow c 0).clearGoal c
    (s.requeue (2 * c)).requeue (2 * c + 1)) s

end Sys2Proof.Machine
end

