-- ==== Sys2Proof/Machine/Drover.lean ====
section
/-! DEFINITION. The commands and events of Drover and the Sward (spec/09, spec/10): nodes and graphs, meadows, cells, and the clump
memory ports. -/

namespace Sys2Proof.Machine

/-! ### Nodes -/

def execNodeDispatch (die role : Nat) (s : State) : Res := .next (s.whenLive (fun s => s.dispatch die role))

/-- A refusal by a channel whose island is in S3 or held in restart is seen by the sender (R17). -/
def State.channelRefused (s : State) (sender m : Nat) : State :=
  if s.sleepState m = 4 || s.mdwState m = 3 then s.emit (.refused sender) else s

def execChannelRefused (sender meadow : Nat) (s : State) : Res := .next (s.whenLive (fun s => s.channelRefused sender meadow))

/-- The slot a node stands in. -/
def State.nodeSlot (s : State) (g n : Nat) : Option Nat :=
  match s.graph g with
  | some gr => (match (gr.node n).phase with
    | .placed k => some k
    | _ => none)
  | none => none

/-- Keep a copy of an operand in the operand store of the sender's die (R177). -/
def State.keepCopy (s : State) (c : OpCopy) : State := { s with drv := { s.drv with copies := s.drv.copies ++ [c] } }.refreshBp

/-- A cell takes an operand into its operand RAM (R177). -/
def State.takeOperand (s : State) (c g n : Nat) (data : Bytes) : State :=
  { s with drv := { s.drv with oram := setC [] s.drv.oram c (getC [] s.drv.oram c ++ [(g, n, data)]) } }

/-- A node whose operand a cell rejected goes back to the head of its level, where it still stands in that cell under the epochs of the
message (R175). -/
def State.rejected (s : State) (x : OpMsg) : State :=
  match s.nodeSlot x.g x.dst with
  | some k =>
    if k / 2 = x.cell && (s.slot k).any (fun e => e.roleEpoch == x.roleEpoch && e.baleEpoch == x.baleEpoch) then
      (s.takeBack k).reclaimTo x.cell
    else s
  | none => s

/-- The operand node `src` made for node `dst` arrives at the cell it was sent to. The sender's die keeps a copy, and an operand sent again
comes from that copy; a cell whose role epoch or bale epoch differs from the message's rejects it (R175, R177). -/
def State.operandTransfer (s : State) (g src dst : Nat) (data : Bytes) : State :=
  match s.drv.msgs.find? (fun x => x.g == g && x.src == src && x.dst == dst) with
  | some x =>
    let s := { s with drv := { s.drv with msgs := s.drv.msgs.erase x } }
    let kept := s.drv.copies.find? (fun y => y.g == g && y.src == src && y.dst == dst)
    let s := match s.graph g with
      | some gr => if kept.isSome then s else s.keepCopy ⟨dieOf (gr.node src).cell, g, src, dst, data⟩
      | none => s
    if s.current x then s.takeOperand x.cell g dst ((kept.map OpCopy.data).getD data) else (s.staleNote x.cell).rejected x
  | none => s

def execOperandTransfer (g src dst : Nat) (data : Bytes) (s : State) : Res :=
  .next (s.whenLive (fun s => s.operandTransfer g src dst data))

/-- A node of the graph runs in a slot. -/
def State.hasRunning (s : State) (g : Nat) : Bool :=
  (s.slotsOfGraph g).any (fun k => match s.slot k with
    | some e => e.mode == .running
    | none => false)

/-- The input of a graph arrives at the node that asked for it; a buffer access that fails ends the command (R120), and data
of another length than declared ends it with LENGTH_MISMATCH (R221). -/
def State.inputArrives (s : State) (g : Nat) (data : Option Bytes) : State :=
  match s.graph g with
  | some gr =>
    if gr.input.isSome || gr.committed || !s.hasRunning g then s
    else match (if s.denies (allotOf gr.qid) gr.desc.inAddr gr.desc.inLen then none else data) with
      | some b =>
        if b.length = gr.desc.inLen then s.setGraph g (some { gr with input := some b })
        else s.endGraph g St.lengthMismatch none
      | none => s.endGraph g St.hostAccessFault none
  | none => s

def execHostBufferReadComplete (g : Nat) (data : Option Bytes) (s : State) : Res :=
  .next (s.whenLive (fun s => (s.inputArrives g data).pollRestarts))

/-- The status of a graph whose nodes all succeeded (R213). -/
def Graph.okEnd (gr : Graph) : Nat :=
  if gr.nodes.any (fun n => n.status == some St.doneInf) then St.doneInf else St.done

/-- The event of a mismatch, by the unit whose copies disagreed (R257, R278, R283). -/
def mismatchCode : CellUnit → Nat
  | .bignum => 0x5010
  | .lane => 0x5011
  | .digest => 0x5012

/-- A redundant-execution mismatch of a cell's unit is noted by Gorse, recorded by Cairn and counted by the cell within its window, which it
opens where none is open (R257, R278, R283). -/
def State.countMismatch (s : State) (c : Nat) (u : CellUnit) : State :=
  let s := (s.noteMismatch).post (mismatchCode u) c 0 0
  let s : State := if getC 0 s.drv.winOpen c = 0 then { s with drv := { s.drv with winOpen := setC 0 s.drv.winOpen c (s.drv.tick + 1) } } else s
  (s.setF (Reg.SWD_CELL_FAULT_MISMATCH_1S c) (min (s.getF (Reg.SWD_CELL_FAULT_MISMATCH_1S c) + 1) 16)).bump
    (Reg.SWD_CELL_FAULT_MISMATCH_TOTAL c)

/-- The node that met a mismatch ends with FAULT_DETECTED, unless its graph has passed its commit point (R216, R256). -/
def State.faultEnd (s : State) (k : Nat) : State :=
  match s.slot k with
  | some e => (match e.work with
    | .node g n => if ((s.graph g).map (fun gr => gr.committed)).getD false then s else s.endGraph g St.faultDetected (some n)
    | _ => s.endSlot k)
  | none => s

/-- The unit whose copies disagreed is cleared (R278, R283, R286). -/
def State.clearUnit (s : State) (c : Nat) (u : CellUnit) : State :=
  match u with
  | .bignum => s
  | .lane => s.setUnits c { s.units c with lane := {} }
  | .digest => s.setUnits c { s.units c with digest := {} }

/-- A mismatch in a cell, in the work of a slot or of one just stopped: counted, the unit cleared, the node ends, and the sixteenth in a window
makes the cell fault-Fallow. The cell is out of service before anything else is placed: the node of its other slot moves, and the one that met
the mismatch ends (R196, R256, R257). -/
def State.mismatchIn (s : State) (c : Nat) (u : CellUnit) (hit : Option Nat) : State :=
  let s := (s.countMismatch c u).clearUnit c u
  let full := decide (16 ≤ s.getF (Reg.SWD_CELL_FAULT_MISMATCH_1S c))
  match hit with
  | some k =>
    if full then (((s.cellDown c 2).requeue (otherSlot k)).faultEnd k).cellGone c 2 else s.faultEnd k
  | none => if full then s.cellFault c 2 else s

/-- A mismatch of the work that runs in a cell. -/
def State.cellMismatch (s : State) (c : Nat) (u : CellUnit) : State := s.mismatchIn c u (s.runningSlot c)

/-- Nodes that become ready once node `n` has completed (R213). -/
def Graph.nextReady (gr : Graph) (n : Nat) : List Nat :=
  (List.range gr.nodes.length).filter (fun k =>
    (gr.node k).phase == .waiting && bit (gr.tnode k).preds n &&
    (List.range gr.nodes.length).all (fun j => !bit (gr.tnode k).preds j || ((gr.node j).phase == .done)))

/-- The deadline timer of a graph falls due before its commit point (R184, R135). -/
def State.deadline (s : State) (g : Nat) : State :=
  match s.graph g with
  | some gr =>
    if decide (gr.deadline < s.drv.tick) && !gr.committed then
      let st := (s.allot (allotOf gr.qid)).st
      s.endGraph g (if st == .quiescing || st == .pendingEnable then St.quiesced else St.deadlinePassed) none
    else s
  | none => s

/-- A node in a slot completes with the status its work ended with: its successors become ready, or the graph ends (R213). A verification of
CUS_LODGE ends so too, that of a resubmission by APPROVAL_VERIFY_COMPLETE (R162). -/
def State.nodeEnds (s : State) (g n : Nat) : State :=
  match s.graph g, s.nodeSlot g n with
  | some gr, some k =>
    let c := k / 2
    match (if n < gr.tpl.nodes.length || gr.pend.isSome then (gr.node n).verdict else some St.done) with
    | none => s
    | some v =>
      let s := s.bump (Reg.SWD_CELL_NODES_COUNT c)
      if okStatus v then
        let s := s.freeSlot k
        let gr := (s.graph g).getD gr
        let gr1 := gr.setNode n { gr.node n with phase := .done, status := some v }
        let gr1 := { gr1 with lastDie := some (dieOf c), lastCell := some (c, s.roleEpoch c) }
        let s := s.setGraph g (some gr1)
        let s := { s with drv := { s.drv with
          copies := s.drv.copies.filter (fun x => !(x.g == g && x.dst == n))
          msgs := s.drv.msgs.filter (fun x => !(x.g == g && x.dst == n && s.current x)) } }
        if n = gr.sink then (s.finishGraph g gr1.okEnd (some n)).reclaimTo c
        else (((gr1.nextReady n).foldl (fun s k => s.makeReady g k false) s).refreshBp).reclaimTo c
      else s.endGraph g v (some n)
  | _, _ => s

/-- A node's completion reaches Drover. After the deadline tick the graph's timer has acted first (R184). Where redundant execution disagreed
at the end of the operation the mismatch ends the node, unless its graph is past its commit point (R216, R256, R257). The command of an
invalidation or of a fuse write completes only after its end (R22, R96). -/
def State.nodeComplete (s : State) (g n : Nat) (fault : Option CellUnit) : State :=
  match s.graph g, (if s.withheld g then none else s.nodeSlot g n) with
  | some gr, some k =>
    if decide (gr.deadline < s.drv.tick) && !gr.committed then s.deadline g
    else match (if s.runningSlot (k / 2) == some k then fault else none) with
      | some u => if gr.committed then (s.cellMismatch (k / 2) u).nodeEnds g n else s.cellMismatch (k / 2) u
      | none => s.nodeEnds g n
  | _, _ => s

def execNodeComplete (g n : Nat) (fault : Option CellUnit) (s : State) : Res :=
  .next (s.whenLive (fun s => (s.nodeComplete g n fault).pollRestarts))

/-- Nodes that waited AGE_US at their level move to the tail of the next higher level (R179). -/
def State.age (s : State) (die role : Nat) : State :=
  let age := s.getF Reg.DRV_CFG_AGE_US
  let k := readyKey die role
  let l := s.readyList k
  let old (e : Ready) : Bool := decide (e.since + age ≤ s.drv.tick) && decide (e.prio < 7)
  if age = 0 then s
  else s.setReady k (l.filter (fun e => !old e) ++ (l.filter old).map (fun e => { e with prio := e.prio + 1, since := s.drv.tick }))

def execAgeingTimer (die role : Nat) (s : State) : Res := .next (s.whenLive (fun s => s.age die role))

/-- The work of a slot yields at the points R258 gives it; an operation with none never yields (R181, R259). -/
def State.yields (s : State) (w : Work) : Bool :=
  match w with
  | .node g n => (s.graph g).any (fun gr => decide (n < gr.tpl.nodes.length) && !neverYields gr.desc.opcode)
  | _ => true

/-- A yield point, at which the copies of a unit are compared: they agree and a node of higher priority, or a short one of the same
priority, runs from the other slot, or they disagree (R181, R257). A mismatch in the tick in which ABORT or the deadline stopped the
operation is counted too (R272). -/
def State.yieldPoint (s : State) (c : Nat) (mismatch : Option CellUnit) : State :=
  match s.runningSlot c, mismatch with
  | r, some u =>
    if getC 0 s.drv.stopped c = s.drv.tick + 1 then s.mismatchIn c u none else if r.isSome then s.mismatchIn c u r else s
  | some k, none =>
    (match s.slot k, s.slot (otherSlot k) with
      | some e, some o =>
        if o.mode == .prefetched && s.yields e.work && (decide (e.prio < o.prio) || (e.prio == o.prio && o.short)) then
          ((s.setSlot k (some { e with mode := .yielded, ctx := s.units c })).setUnits c {}).wakeSlot (otherSlot k)
        else s
      | _, _ => s)
  | none, none => s

def execYieldPoint (cell : Nat) (mismatch : Option CellUnit) (s : State) : Res :=
  .next (s.whenLive (fun s => (s.yieldPoint cell mismatch).pollRestarts))

/-- The 1 s window of a cell's mismatches has lasted 1,000,000 ticks and closes (R257). -/
def execMismatchWindowClose (cell : Nat) (s : State) : Res :=
  .next (s.whenLive (fun s =>
    if getC 0 s.drv.winOpen cell ≠ 0 && decide (getC 0 s.drv.winOpen cell + 1000000 ≤ s.drv.tick + 1) then s.closeMismatch cell else s))

/-- A node of ADMIN role of the graph runs. -/
def State.adminRuns (s : State) (g : Nat) : Bool :=
  (s.slotsOfGraph g).any (fun k => (s.slot k).any (fun e => e.mode == .running) && s.cellRole (k / 2) == 5)

/-- A firmware timer of delay list 7: an ADMIN-role node of a graph takes one of so many microseconds, or one falls due and returns to
the pool (R182, R183). -/
def State.firmwareTimer (s : State) (g id : Nat) (set : Option Nat) : State :=
  match set with
  | some us => if s.adminRuns g then ((s.dropTimer (.firmware g id)).timer 7 (s.drv.tick + us) (.firmware g id)).2 else s
  | none => if s.isDue (.firmware g id) then s.dropTimer (.firmware g id) else s

def execAdminFirmwareTimer (g id : Nat) (set : Option Nat) (s : State) : Res := .next (s.whenLive (fun s => s.firmwareTimer g id set))

/-! ### Meadows (R191 to R193) -/

/-- A meadow in FALLOW goes to its reload (R192, R193). -/
def State.reloadFallow (s : State) (m : Nat) : State := ((s.setMdw m 3).setMdwGoal m .restart).noteRestart m

/-- The drain of a meadow is turned toward a restart: no second drain, and a held RETURN is dropped (R192). -/
def State.turnRestart (s : State) (m : Nat) : State :=
  if s.mdwGoal m == .restart then s else (((s.setMdw m 1).setMdwGoal m .restart).noteRestart m).s2Wake m

/-- A meadow is restarted because the overlap timer expired, event 0xE003; one whose reload or self-test runs is waited for (R84). -/
def State.expiryRestart (s : State) (m : Nat) : State :=
  let st := s.mdwState m
  if st = 3 || st = 4 then s
  else
    let s := s.post 0xE003 m 0 m
    if st = 0 then (if s.restartWaits m then s else s.restart m)
    else if st = 1 || st = 2 then s.turnRestart m
    else if s.sleepState m = 2 then s.restartAsleep m
    else s.reloadFallow m

/-- The restarts of an expired overlap go on: the lowest meadow not yet tried that still serves the older epoch and is not in S3, where
its wake loads the adopted one (R65, R84). -/
def State.expiryGo (s : State) : State :=
  match s.bale.expiryNext with
  | none => s
  | some k =>
    if !s.isSet Reg.HIF_BALE_STATUS_OVERLAP then s
    else
      let due (m : Nat) : Bool := decide (k ≤ m) && s.hasMeadow m && getC 0 s.bale.mdwEpoch m != s.bale.adoptedEpoch && s.sleepState m != 4
      match (List.range 8).find? due with
      | some m => { s with bale := { s.bale with expiryNext := some (m + 1) } }.expiryRestart m
      | none => { s with bale := { s.bale with expiryNext := some 8 } }

/-- The restart of meadow `m` has completed; where the expired overlap caused it, the next one begins (R84). -/
def State.expiryDone (s : State) (m : Nat) : State := if s.bale.expiryNext = some (m + 1) then s.expiryGo else s

/-- What the expired overlap's restart of meadow `m` waited for has ended without a reload: the restart begins (R84). -/
def State.expiryAgain (s : State) (m : Nat) : State := if s.bale.expiryNext = some (m + 1) then s.expiryRestart m else s

/-- DRV_MDW_CTL command RESTART (R192). -/
def State.cmdRestart (s : State) (m : Nat) : State :=
  let st := s.mdwState m
  let s := if s.hasMeadow m then s.setF (Reg.DRV_MDW_STAT_AUTO_HELD m) 0 else s
  if !s.hasMeadow m then s.drvResult St.unitAbsent
  else if s.sleepState m = 4 then s.drvResult St.stateConflict
  else if st = 0 then (s.restart m).drvBusy (.meadow m)
  else if st = 1 || st = 2 then (s.turnRestart m).drvBusy (.meadow m)
  else if st = 3 || st = 4 then s.drvResult St.busy
  else (if s.sleepState m = 2 then s.restartAsleep m else s.reloadFallow m).drvBusy (.meadow m)

def execMeadowRestart (m : Nat) (s : State) : Res := .next (s.whenOpen (fun s => s.cmdRestart m))

/-- The automatic restart of meadow `m` is no more: the next one that is due begins (R198). -/
def State.dropAuto (s : State) (m : Nat) : State :=
  if s.drv.mdwAuto = some m then { s with drv := { s.drv with mdwAuto := none } }.autoRestarts else s

/-- DRV_MDW_CTL command FALLOW (R192). -/
def State.cmdFallow (s : State) (m : Nat) : State :=
  let st := s.mdwState m
  if !s.hasMeadow m then s.drvResult St.unitAbsent
  else if st = 0 then ((s.drainMeadow m .fallow).dropAuto m).drvBusy (.meadow m)
  else if st = 1 then ((s.setMdwGoal m .fallow).dropAuto m).drvBusy (.meadow m)
  else if st = 3 || st = 4 then s.drvResult St.busy
  else s.drvResult St.done

def execMeadowFallow (m : Nat) (s : State) : Res := .next (s.whenOpen (fun s => s.cmdFallow m))

/-- Every cell of a FALLOW meadow goes to self-test (R192, R194). -/
def State.testMeadow (s : State) (m : Nat) (goal : Goal) : State :=
  (cellsOf m).foldl (fun s c => s.setCell c 4) (((s.setMdw m 4).setMdwGoal m goal).beginServe m)

/-- DRV_MDW_CTL command RETURN (R192). -/
def State.cmdReturn (s : State) (m : Nat) : State :=
  let st := s.mdwState m
  let s := if s.hasMeadow m then s.setF (Reg.DRV_MDW_STAT_AUTO_HELD m) 0 else s
  if !s.hasMeadow m then s.drvResult St.unitAbsent
  else if s.sleepState m = 4 then s.drvResult St.stateConflict
  else if st = 1 && s.mdwGoal m == .fallow then (s.setMdw m 2).drvBusy (.meadow m)
  else if st = 5 then (s.testMeadow m .retest).drvBusy (.meadow m)
  else s.drvResult St.done

def execMeadowReturn (m : Nat) (s : State) : Res := .next (s.whenOpen (fun s => s.cmdReturn m))

/-- The last node of a draining meadow has ended: its cells clear and take FALLOW, and the reload, the rest or the held RETURN
follows (R192, R193). -/
def State.mdwDrained (s : State) (m : Nat) : State :=
  let st := s.mdwState m
  if (st = 1 || st = 2) && (cellsOf m).all (fun c => s.slotsEmpty c && s.cellState c != 4) then
    let s := ((cellsOf m).filter (fun c => s.cellState c != 3)).foldl (fun s c => (s.takeFallow c 0).drvDone (.cell c)) s
    if s.mdwGoal m == .restart then (s.setMdw m 3).s2Wake m
    else if st = 2 then s.testMeadow m .retest
    else (((s.setMdw m 5).setMdwGoal m .none).drvDone (.meadow m)).expiryAgain m
  else s

def execMeadowDrainComplete (m : Nat) (s : State) : Res := .next (s.whenLive (fun s => s.mdwDrained m))

/-- The drain limit passes: nodes still running are aborted and moved (R193, R194). -/
def State.drainLimit (s : State) (m : Nat) (cell : Option Nat) : State :=
  let st := s.mdwState m
  match cell with
  | none =>
    if (st = 1 || st = 2) && decide (getC 0 s.drv.mdwDrain m < s.drv.tick) then
      (cellsOf m).foldl (fun s c => (s.requeue (2 * c)).requeue (2 * c + 1)) s
    else s
  | some c =>
    if (s.cellState c = 1 || s.cellState c = 2) && decide (getC 0 s.drv.cellDrain c < s.drv.tick) then
      (s.requeue (2 * c)).requeue (2 * c + 1)
    else s

def execDrainLimitExpire (m : Nat) (cell : Option Nat) (s : State) : Res := .next (s.whenLive (fun s => s.drainLimit m cell))

/-- The reload ends: every section digest of the adopted slot matches and self-test begins, or the cells stay Fallow (R84, R193); `misread`
is a section the flash device returned wrong. A meadow that was in S2 is then awake (R192). The self-test needs an expander instance of a
fresh seed; without one the restart waits, and the event comes again (R328). -/
def State.reloaded (s : State) (m : Nat) (misread : Option Nat) : State :=
  if s.mdwState m = 3 && (s.sleepState m = 0 || s.sleepState m = 5) then
    let up (s : State) : State := if s.sleepState m = 5 then s.wakeDone m else s
    match s.badSection misread with
    | none =>
      if s.sky.seeds = 0 then s.post 0x7009 m 0 m
      else
        let s := (up s).freshClient m
        let s := { s with bale := { s.bale with mdwEpoch := setC 0 s.bale.mdwEpoch m s.bale.adoptedEpoch } }
        s.testMeadow m .restart
    | some t =>
      let s := (cellsOf m).foldl (fun s c => (s.setCell c 3).setCause c 0) (up s)
      let s := (((s.setMdw m 5).setMdwGoal m .none).post 0xE004 m t 0).drvEnd (.meadow m) St.verifyFailed
      (s.dropAuto m).expiryDone m
  else s

def execMeadowReloadComplete (m : Nat) (misread : Option Nat) (s : State) : Res :=
  .next (s.whenLive (fun s => s.reloaded m misread))

/-- A cell fails self-test: it becomes fault-Fallow with cause SELFTEST (R193, R196). It holds no node, and a cell already Fallow
keeps its epoch's order by rising once more. -/
def State.failTest (s : State) (c : Nat) : State :=
  let s := (s.bump (Reg.SWD_CELL_FAULT_SELFTEST_FAILS c))
  (((s.takeFallow c 1).clearGoal c).setF Reg.DRV_EVENT_FAULT_FALLOW 1).post 0x5001 c 1 0

/-- A cell of a meadow passes: after a restart it takes the role it held before, and one Fallow by command stays Fallow with its cause unchanged;
after a RETURN it takes its NEXT_ROLE (R173, R193, R194). -/
def State.passTest (s : State) (m c : Nat) : State :=
  let p := getC 0 s.drv.prior c
  let s1 := s.setPrior c 0
  if s.mdwGoal m == .restart then
    if p ≤ 1 then (s1.setCell c 3).setCause c (if s.getF (Reg.SWD_CELL_STAT_FALLOW_CAUSE c) = 4 then 4 else 0)
    else (s1.takeRole c (p - 1)).reclaimTo c
  else (s1.takeRole c (s.nextRole c)).reclaimTo c

/-- More than four cells failed the test of an automatic restart: the meadow is held FALLOW (R198); a later restart gives its cells the roles
they held (R193). -/
def State.holdMeadow (s : State) (m : Nat) : State :=
  let s := ((cellsOf m).filter (fun c => s.cellState c != 3)).foldl (fun s c => (s.setPrior c (1 + s.cellRole c)).takeFallow c 0) s
  (((s.setMdw m 5).setF (Reg.DRV_MDW_STAT_AUTO_HELD m) 1).setF Reg.DRV_EVENT_AUTO_HELD 1).post 0x5004 m 0 0

/-- The self-test of a meadow ends (R193 step 6, R198, R84). -/
def State.mdwTested (s : State) (m : Nat) (failed : List Nat) : State :=
  if s.mdwState m = 4 && s.service then
    let restarted := s.mdwGoal m == .restart
    let auto := s.drv.mdwAuto == some m
    let s : State := (cellsOf m).foldl (fun s c => if failed.contains c then s.failTest c else s.passTest m c) s
    let s : State := ((if (cellsOf m).all (fun c => s.cellState c == 3) && !restarted then s.setMdw m 5 else s.setMdw m 0).setMdwGoal m .none)
    let s : State := s.endServe m
    let s : State := { s with drv := { s.drv with mdwAuto := if auto then none else s.drv.mdwAuto } }
    let s : State := if restarted then s.post 0x5003 m 0 m else s
    let s : State := if auto && decide (4 < s.faultCount m) then s.holdMeadow m else s
    let s : State := (s.overlapCheck.drvDone (.meadow m)).autoRestarts
    if restarted then s.expiryDone m else s.expiryAgain m
  else s

def execMeadowSelftestComplete (m : Nat) (failed : List Nat) (s : State) : Res :=
  .next (s.whenLive (fun s => s.mdwTested m failed))

/-! ### Cells (R194, R197) -/

/-- The command part of a SWD_CELL_CTL write (R194). -/
def State.cellCmd (s : State) (c cmd : Nat) : State :=
  let st := s.cellState c
  if s.mdwState (meadowOf c) ≠ 0 then s.drvResult St.stateConflict
  else if cmd = 1 then
    if st = 0 then (s.drainCell c .fallow).drvBusy (.cell c)
    else if st = 2 then (s.setCell c 1).drvBusy (.cell c)
    else if st = 4 then s.drvResult St.busy
    else s.drvResult St.done
  else if cmd = 2 then
    if st = 1 then (s.setCell c 2).drvBusy (.cell c)
    else if st = 3 then ((s.setCell c 4).beginServe (meadowOf c)).drvBusy (.cell c)
    else s.drvResult St.done
  else s.drvResult St.badOperand

def execCellFallow (cell : Nat) (s : State) : Res :=
  .next (s.whenOpen (fun s => s.cellWindow cell (fun s => s.cellCmd cell 1)))

def execCellReturn (cell : Nat) (s : State) : Res :=
  .next (s.whenOpen (fun s => s.cellWindow cell (fun s => s.cellCmd cell 2)))

/-- How a NEXT_ROLE is judged: none where it is taken or changes nothing, else the status of its refusal (R194). -/
def State.judgeRole (s : State) (c role : Nat) : Option Nat :=
  if role = s.nextRole c then none
  else if role = 6 || role = 7 then some St.badOperand
  else if s.cellState c = 3 then none
  else some St.stateConflict

/-- A write of SWD_CELL_CTL: NEXT_ROLE is judged first, then CMD acts (R194). -/
def State.cellCtl (s : State) (c role cmd : Nat) : State :=
  let j := s.judgeRole c role
  let s := if j.isNone then s.setF (Reg.SWD_CELL_CTL_NEXT_ROLE c) role else s
  if cmd = 0 then
    match j with
    | some x => s.drvRefused x
    | none => s
  else
    let s := if j.isSome then s.setF Reg.DRV_EVENT_CFG_REFUSED 1 else s
    s.cellCmd c cmd

def execNextRoleWrite (cell role cmd : Nat) (s : State) : Res :=
  .next (s.whenOpen (fun s => s.cellWindow cell (fun s => s.cellCtl cell (role % 8) (cmd % 16))))

/-- A draining cell's slots are empty: it clears and takes FALLOW, goes on to a held RETURN's test, or takes role SELFTEST for its
periodic test (R174, R194, R197). -/
def State.cellDrained (s : State) (c : Nat) : State :=
  let st := s.cellState c
  let goal := getC .none s.drv.cellGoal c
  if (st = 1 || st = 2) && goal != .none && s.slotsEmpty c then
    let s := s.clearGoal c
    if goal == .retest then (((s.raiseEpoch c).setRole c 6).setCell c 4).beginServe (meadowOf c)
    else
      let s := (s.takeFallow c 0).setPrior c 0
      if st = 2 then (s.setCell c 4).beginServe (meadowOf c) else s.drvDone (.cell c)
  else s

def execCellDrainComplete (cell : Nat) (s : State) : Res := .next (s.whenLive (fun s => s.cellDrained cell))

/-- A cell's own self-test ends (R194, R197); while its meadow drains, a cell that passed drains at once (R192). -/
def State.cellTested (s : State) (c : Nat) (pass : Bool) : State :=
  let m := meadowOf c
  if s.cellState c = 4 && s.mdwState m ≠ 4 && s.mdwState m ≠ 3 && s.service then
    let s := if (cellsOf m).any (fun x => x != c && s.cellState x == 4) then s else s.endServe m
    if pass then
      let r := if s.cellRole c = 6 then getC 0 s.drv.prior c - 1 else s.nextRole c
      let s := ((s.setPrior c 0).takeRole c r).reclaimTo c
      let s := if (s.mdwState m = 1 || s.mdwState m = 2) && s.cellState c = 0 then (s.drainCell c .none).clearGoal c else s
      s.drvDone (.cell c)
    else ((s.failTest c).drvDone (.cell c)).autoRestarts
  else s

def execCellSelftestComplete (cell : Nat) (pass : Bool) (s : State) : Res :=
  .next (s.whenLive (fun s => s.cellTested cell pass))

/-- The next periodic test of a cell is put on delay list 6 (R182, R197); without a free timer the cell is tested again once the interval is
set anew (log 216). -/
def State.armTest (s : State) (c due : Nat) : State := ((s.dropTimer (.selftest c)).timer 6 due (.selftest c)).2

/-- The periodic tests are spread evenly over the interval: of the 256 cells, cell `c` is tested first when (c + 1) / 256 of it has passed
(R197, log 216). -/
def State.spreadTests (s : State) : State :=
  let iv := 60000000 * s.getF Reg.DRV_CFG_ST_INTERVAL_MIN
  s.cells.foldl (fun s c => if iv = 0 then s.dropTimer (.selftest c) else s.armTest c (s.drv.tick + iv * (c + 1) / 256)) s

/-- The periodic self-test of a cell falls due (R197): postponed while another cell of the meadow is tested, and while it is the only ACTIVE
cell of its role on its die; a cell out of service waits for the next interval. -/
def State.periodicTest (s : State) (c : Nat) : State :=
  let iv := 60000000 * s.getF Reg.DRV_CFG_ST_INTERVAL_MIN
  let others := s.cells.filter (fun x => x != c && dieOf x == dieOf c && s.cellState x == 0 && s.cellRole x == s.cellRole c)
  let busy := (cellsOf (meadowOf c)).any (fun x => s.cellRole x == 6 || getC .none s.drv.cellGoal x == .retest)
  if !s.isDue (.selftest c) then s
  else if iv = 0 then s.dropTimer (.selftest c)
  else if s.cellState c ≠ 0 || s.mdwState (meadowOf c) ≠ 0 then s.armTest c (s.drv.tick + iv)
  else if busy || others.isEmpty then s
  else ((s.drainCell c .retest).s2Wake (meadowOf c)).armTest c (s.drv.tick + iv)

def execPeriodicSelftestDue (cell : Nat) (s : State) : Res :=
  .next (s.whenLive (fun s => if s.hasCell cell then s.periodicTest cell else s))

/-! ### Clump memory ports (R186 to R190) -/

/-- A requester asserts; where the port is free a decision follows (R188). -/
def State.portRequest (s : State) (k r : Nat) : State :=
  let p := s.port k
  if p.req.contains r then s
  else
    let s := s.setPort k { p with req := p.req ++ [r] }
    if s.getF (Reg.SWD_ARB_STAT_OWNER k) = 15 then s.arbitrate k else s

def execMemoryPortRequest (clump r : Nat) (s : State) : Res :=
  .next (s.whenLive (fun s => if s.hasMeadow (clump / 4) && decide (r < 10) then (s.s1Wake clump).portRequest clump r else s))

def execMemoryPortRelease (clump r : Nat) (s : State) : Res :=
  .next (s.whenLive (fun s => if (s.port clump).req.contains r then s.portDrop clump r else s))

/-- An emergency requester takes the port from a cell at a beat boundary (R189). -/
def State.preempt (s : State) (k r : Nat) : State :=
  let p := s.port k
  let o := s.getF (Reg.SWD_ARB_STAT_OWNER k)
  if p.req.contains r && (r == 8 || r == 9) && decide (o < 8) then
    let s := (s.setF (Reg.SWD_ARB_STAT_OWNER k) r).bump (Reg.SWD_ARB_STAT_PREEMPTS k)
    s.setPort k { p with preempted := some o, prev := r }
  else s

def execEmergencyPreempt (clump r : Nat) (s : State) : Res := .next (s.whenLive (fun s => s.preempt clump r))

/-- A grant held for more than 64 beats makes its owner fault-Fallow and ends the grant (R186). -/
def State.portHold (s : State) (c : Nat) : State :=
  let k := clumpOf c
  if s.getF (Reg.SWD_ARB_STAT_OWNER k) = c % 8 then
    let s := ((s.setF Reg.DRV_EVENT_PORT_HOLD 1).notePortHold).post 0x5005 c 0 0
    (s.cellFault c 3).portDrop k (c % 8)
  else s

def execPortHoldViolation (cell : Nat) (s : State) : Res :=
  .next (s.whenLive (fun s => (s.portHold cell).pollRestarts))

/-- The requesters whose wait counters have reached their limits, in the order they reached them, after the limit of one was written: it
joins or leaves them as its counter stands to the new limit (R188, R190). -/
def State.relimit (s : State) (k r : Nat) : State :=
  let p := s.port k
  let hit := p.req.contains r && decide (s.getF (arbLimit k r) ≤ s.getF (arbWait k r))
  s.setPort k { p with limited := if !hit then p.limited.filter (fun x => x != r) else if p.limited.contains r then p.limited else p.limited ++ [r] }

/-- A write of an arbiter register: priority and limit fields; a limit of 0 is refused (R187, R190, R201). -/
def State.arbWrite (s : State) (off val : Nat) : State :=
  let c := (off - 0x300000) / 0x1000
  let o := off % 0x1000
  let k := clumpOf c
  let r := if o = 0x10 then c % 8 else if o = 0x14 then 8 else 9
  let ok := (o = 0x10 || ((o = 0x14 || o = 0x18) && c % 8 = 0)) && decide (0x300000 ≤ off) && decide (off < 0x400000) && s.hasCell c
  if ok then
    let s := s.setF (arbPrio k r) (val % 16)
    let l := val / 16 % 1024
    if l = 0 then (s.setF Reg.DRV_EVENT_CFG_REFUSED 1).drvRefused St.badOperand
    else (s.setF (arbLimit k r) l).relimit k r
  else s

def execArbConfigWrite (off val : Nat) (s : State) : Res :=
  .next (s.whenOpen (fun s =>
    if 0x300000 ≤ off && off < 0x400000 then s.cellWindow ((off - 0x300000) / 0x1000) (fun s => s.arbWrite off val) else s))

end Sys2Proof.Machine
end

