-- ==== Sys2Proof/Machine/Hif.lean ====
section
/-! DEFINITION. The commands and events of the queues (spec/06, spec/10): doorbells, fetch, admission, acceptance, NOP and ABORT,
deadlines, MSI-X and the link. -/

namespace Sys2Proof.Machine

/-! ### Doorbells (R114 to R116) -/

/-- A write to a doorbell page of a queue that is not enabled is discarded and counted (R114). -/
def State.stray (s : State) : State := (s.bump Reg.HIF_BAR2_STRAY_WRITES).hifEvent Reg.HIF_EVENT_BAR2_STRAY

/-- A tail write is judged against the head and the old tail; in ERROR it is discarded (R115, log 22). -/
def State.sqTail (s : State) (qid tail : Nat) : State :=
  let q := s.queue qid
  let t := tail % 4096
  if s.hif.perst || q.st == .error then s
  else if !q.open then s.stray
  else if q.depth ≤ t then s.queueError qid 1
  else if ringDist q.depth q.sqHead t < ringDist q.depth q.sqHead q.sqTail then s.queueError qid 2
  else s.setQueue qid { q with sqTail := t }

def execSqTailWrite (qid tail : Nat) (s : State) : Res := .next (s.whenLive (fun s => s.sqTail qid tail))

/-- A head write releases completions, unless it would pass `CQ_TAIL` under the rule of R115 (R116). -/
def State.cqHeadW (s : State) (qid head : Nat) : State :=
  let q := s.queue qid
  let h := head % 4096
  if s.hif.perst || q.st == .error then s
  else if !q.open then s.stray
  else if q.depth ≤ h || decide (ringDist q.depth q.cqHead q.cqTail < ringDist q.depth q.cqHead h) then s.queueError qid 3
  else s.setQueue qid { q with cqHead := h }

def execCqHeadWrite (qid head : Nat) (s : State) : Res := .next (s.whenLive (fun s => s.cqHeadW qid head))

def execBar2StrayWrite (qid _off : Nat) (s : State) : Res :=
  .next (s.whenLive (fun s => if s.hif.perst || (s.queue qid).open || (s.queue qid).st == .error then s else s.stray))

/-! ### Fetch (R116 to R118, R127, R143, R150) -/

/-- The allotment of a queue lets it fetch: it is ACTIVE; the steward's queues belong to no allotment (R131, R144). -/
def State.altActive (s : State) (a : Nat) : Bool := a == 2048 || (s.allot a).st == .active

/-- A stream that carried DMA is Insecure, or the policy tables require IDE and no stream is Secure (R127, log 40). -/
def State.ideStops (s : State) (a : Nat) : Bool :=
  s.ideDrops ||
    (s.narrowed a .ideRequired && !s.hif.ide.any (fun x => x.2.secure && x.2.carriesDma))

/-- `HIF_DB_QSTAT.FETCH_STOPPED` (R114). -/
def State.fetchStopped (s : State) (qid : Nat) : Bool :=
  let q := s.queue qid
  let a := allotOf qid
  s.isSet Reg.HIF_STATUS_HOLD || !s.altActive a || s.hif.d3hot || decide (q.depth - 1 ≤ q.outstanding) || s.ideStops a

/-- The allotment is at its quota of graphs (R143). -/
def State.atQuota (s : State) (a : Nat) : Bool := (s.allot a).quota != 0 && decide ((s.allot a).quota ≤ s.inFlight a)

/-- A flagged descriptor at the front that has not begun its exchange holds the queue (R310, R330). -/
def Queue.parked (q : Queue) : Bool :=
  match q.waiting with
  | w :: _ => w.tpl.quorum.isSome && w.pend.isNone
  | [] => false

/-- HIF may fetch from a queue. -/
def State.fetchable (s : State) (qid : Nat) : Bool :=
  let q := s.queue qid
  let a := allotOf qid
  q.st == .enabled && q.sqHead != q.sqTail && !s.fetchStopped qid && !s.atQuota a && !((s.allot a).log.en && (s.allot a).log.full) && !s.backPressure &&
    !q.parked && s.service && !s.hif.perst

/-- The first of `l` after position `p` in round-robin order that passes a test. -/
def rrFind (n p : Nat) (f : Nat → Bool) : Option Nat := ((List.range n).map (fun i => (p + 1 + i) % n)).find? f

/-- Read `n` descriptors of a queue from its head: in two reads where they cross the end of the ring (R117). -/
def State.readDescs (s : State) (qid n : Nat) : State :=
  let q := s.queue qid
  let a := allotOf qid
  let k := min n (q.depth - q.sqHead)
  let read (s : State) (i m : Nat) : State :=
    if m = 0 then s else (s.translate a (q.sqBase + 64 * i) (64 * m)).dma (.descRead qid (q.sqBase + 64 * i) (64 * m) (s.readAttr a))
  read (read s q.sqHead k) 0 (n - k)

/-- One visit (R117): the next allotment with fetchable work, its next fetchable queue, and up to eight descriptors as far as the
credit rule of R116 reaches. -/
def State.fetch (s : State) : State :=
  match rrFind 2049 s.hif.rrAllot (fun a => (queuesOf a).any s.fetchable) with
  | none => s
  | some a =>
    match rrFind 8 (getC 7 s.hif.rrQueue a) (fun k => s.fetchable (8 * a + k)) with
    | none => s
    | some k =>
      let qid := 8 * a + k
      let q := s.queue qid
      let n := min 8 (min (ringDist q.depth q.sqHead q.sqTail) (q.depth - 1 - q.outstanding))
      let s := { s with hif := { s.hif with rrAllot := a, rrQueue := setC 7 s.hif.rrQueue a k } }
      (s.readDescs qid n).setQueue qid { q with sqHead := (q.sqHead + n) % q.depth, inAir := q.inAir + n, fetched := q.fetched + n }

def execDescriptorFetch (s : State) : Res := .next (s.whenLive State.fetch)

/-! ### Admission (R202 to R206) -/

/-- A descriptor from its 64 bytes (R202, R204). -/
def parseDesc (b : Bytes) : Descriptor :=
  let flags := leAt b 2 2
  let prio := byteAt b 6
  { opcode := leAt b 0 2, flags, template := leAt b 4 2, prio := prio % 8, deadline := leAt b 7 3, inLen := leAt b 10 3
    outLen := leAt b 13 3, key0 := leAt b 16 8, key1 := leAt b 24 8, key2 := leAt b 32 8, inAddr := leAt b 40 8, outAddr := leAt b 48 8
    tag := leAt b 56 8, reserved := decide (4 ≤ flags) || decide (8 ≤ prio) }

/-- The descriptor asks for a custodian exchange (R204). -/
def Descriptor.custodian (d : Descriptor) : Bool := bit d.flags 0

/-- The descriptor is an ordering point of its queue (R204, R215). -/
def Descriptor.fence (d : Descriptor) : Bool := bit d.flags 1

/-- Handles stand where the command uses them and nowhere else (R203). -/
def Descriptor.keysFit (d : Descriptor) : Bool :=
  (List.range 3).all (fun k =>
    bit (handleMask d.opcode) k == (d.handle k != 0))

/-- The buffers lie in the address space and share no byte (R203). -/
def Descriptor.buffersFit (d : Descriptor) : Bool :=
  (d.inLen == 0 || decide (d.inAddr + d.inLen ≤ 2 ^ 64)) && (d.outLen == 0 || decide (d.outAddr + d.outLen ≤ 2 ^ 64)) &&
    (d.inLen == 0 || d.outLen == 0 || decide (d.inAddr + d.inLen ≤ d.outAddr) || decide (d.outAddr + d.outLen ≤ d.inAddr))

/-- Check 1: the descriptor is well formed (R203); that the library holds a template for it is judged before. -/
def Descriptor.wellFormed (d : Descriptor) : Bool := !d.reserved && opcodeInRange d.opcode && d.keysFit && d.buffersFit

/-- The units an opcode needs by its range: Furrow for 0x0Bxx; the post-quantum roles for 0x08xx, and for 0x0Cxx but CMN_EVIDENCE
(R4, R6, R356). -/
def State.rangeFits (s : State) (x : Nat) : Bool :=
  (x / 256 != 0x0B || s.lc.variant.hasFurrow) && ((x / 256 != 0x08 && (x / 256 != 0x0C || x == 0x0C02)) || s.lc.variant.hasPqc)

/-- Check 4: the units and roles a template needs are fitted (R205, R458). -/
def State.unitsFit (s : State) (t : Template) : Bool :=
  s.rangeFits t.opcode && t.nodes.all (fun n =>
    s.roleFits n.role && (!n.furrow || s.lc.variant.hasFurrow) && (!n.pqc || s.lc.variant.hasPqc))

/-- Check 5: the lengths lie in the template's limits (R205). -/
def Descriptor.lengthsFit (d : Descriptor) (t : Template) : Bool :=
  decide (t.inMin ≤ d.inLen) && decide (d.inLen ≤ t.inMax) && decide (t.outMin ≤ d.outLen) && decide (d.outLen ≤ t.outMax) &&
    (t.quorum.isNone || decide (136 ≤ d.outLen))

/-- Checks 1 to 5 in their order: the status of the first that fails (R205). -/
def State.admission (s : State) (qid : Nat) (d : Descriptor) (t : Template) : Option Nat :=
  if !d.wellFormed then some St.badDescriptor
  else if !(if isSteward qid then t.steward else t.tenant) then some St.accessDenied
  else if d.custodian != t.quorum.isSome then some St.badDescriptor
  else if !s.unitsFit t then some St.unitAbsent
  else if !d.lengthsFit t then some St.badLength
  else none

/-- A refusal at checks 1 to 5 (R206). -/
def State.refuseAdmission (s : State) (qid : Nat) (d : Descriptor) (status : Nat) : State :=
  (s.post 0x4004 (allotOf qid) status d.opcode).refuse qid d.tag status

/-- Admission of a descriptor that has arrived, with the input a flagged one is read for (R205, R206). -/
def State.judgeArrival (s : State) (qid : Nat) (d : Descriptor) (input : Option Bytes) : State :=
  match s.chooseBank d.opcode d.template with
  | none => s.refuseAdmission qid d St.badDescriptor
  | some (_, t) =>
    match s.admission qid d t with
    | some x => s.refuseAdmission qid d x
    | none =>
      if t.quorum.isNone then s.putWaiting qid false ⟨d, t, [], none⟩
      else
        let s := s.readInput qid d.inAddr d.inLen
        match (if d.inLen = 0 then some [] else if s.denies (allotOf qid) d.inAddr d.inLen then none else input) with
        | none => s.refuse qid d.tag St.hostAccessFault
        | some b =>
          if b.length ≠ d.inLen then s.refuse qid d.tag St.lengthMismatch
          else if !s.isSet Reg.BAR_STATUS_ROOT_OPEN || (s.queue qid).parked then s.putWaiting qid false ⟨d, t, b, none⟩
          else s.quorumExchange qid false d t b

/-- The address of the descriptor in the air that was asked for first. -/
def Queue.airAddr (q : Queue) : Nat := q.sqBase + 64 * ((q.sqHead + q.depth - q.inAir) % q.depth)

/-- A fetched descriptor arrives, or its read fails (R119, R135, R205). While an Insecure stream would carry its further traffic it ends with
HOST_ACCESS_FAULT (R127). -/
def State.arrive (s : State) (qid : Nat) (data input : Option Bytes) : State :=
  let q := s.queue qid
  if q.inAir = 0 then s
  else
    let s := s.setQueue qid { q with inAir := q.inAir - 1 }
    match (if s.denies (allotOf qid) q.airAddr 64 then none else data) with
    | none => (s.setQueue qid { s.queue qid with fetched := q.fetched - 1 }).queueError qid 4
    | some b =>
      let d := parseDesc (fit 64 b)
      let a := (s.allot (allotOf qid)).st
      if a == .quiescing || a == .pendingEnable then s.refuse qid d.tag St.quiesced
      else if s.ideDrops then s.refuse qid d.tag St.hostAccessFault
      else s.judgeArrival qid d input

def execDescriptorArrival (qid : Nat) (data input : Option Bytes) (s : State) : Res :=
  .next (s.whenLive (fun s => s.arrive qid data input))

/-! ### Acceptance (R205, R211, R214, R215) -/

/-- Descriptors of the queue that are past HIF and whose completions are not written. -/
def Queue.running (q : Queue) : Nat := q.fetched - q.waiting.length - q.inAir

/-- The order FENCE asks for lets the front descriptor be offered (R215). -/
def Queue.fenceOk (q : Queue) (d : Descriptor) : Bool := (!d.fence && !q.fenced) || q.running == 0

/-- Drover accepts the front descriptor of a queue now (R26, R143, R185, R205, R215). -/
def State.accepts (s : State) (qid : Nat) (d : Descriptor) : Bool :=
  (s.queue qid).fenceOk d && !s.backPressure && !s.atQuota (allotOf qid) && !s.isSet Reg.HIF_STATUS_HOLD && s.service

/-- The front descriptor of a queue completes without having been accepted: the order of the last accepted one stands (R215). -/
def State.dropWaiting (s : State) (qid : Nat) : State :=
  let q := s.queue qid
  s.setQueue qid { q with waiting := q.waiting.tail }

/-- Drover takes the front descriptor of a queue; a fenced one is an ordering point from now on (R215). -/
def State.popWaiting (s : State) (qid : Nat) : State :=
  let q := s.queue qid
  match q.waiting with
  | w :: rest => s.setQueue qid { q with waiting := rest, fenced := w.desc.fence }
  | [] => s

/-- Acceptance of a flagged resubmission: verification begins, or the entry was rejected, or it is gone, another request in its place, and the
exchange is made anew (R158, R163, R168). -/
def State.acceptFlagged (s : State) (qid e : Nat) (w : Waiting) : State :=
  let p := s.pendE e
  if s.matchPend w.desc w.input ≠ some e then s.quorumExchange qid true w.desc w.tpl w.input
  else if p.st = 3 then (s.freePend e).refuse qid w.desc.tag St.quorumRejected
  else if p.st = 1 && p.waiting then s.beginVerify qid e (s.bankFor w).1 w
  else s.quorumExchange qid true w.desc w.tpl w.input

/-- Drover accepts the descriptor at the front of a queue (R205, R213, R214). -/
def State.accept (s : State) (qid : Nat) : State :=
  match (s.queue qid).waiting with
  | [] => s
  | w :: _ =>
    if w.desc.opcode = 0x01F0 || w.desc.opcode = 0x01F1 then s
    else if w.tpl.quorum.isSome && w.pend.isNone then
      if s.isSet Reg.BAR_STATUS_ROOT_OPEN && (s.draw 9 16).isSome then (s.dropWaiting qid).quorumExchange qid true w.desc w.tpl w.input else s
    else if !s.accepts qid w.desc then s
    else
      match w.pend with
      | some e => (s.popWaiting qid).acceptFlagged qid e w
      | none =>
        let bt := s.bankFor w
        (s.popWaiting qid).instantiate qid w.desc bt.2 bt.1 none

def execGraphAccept (qid : Nat) (s : State) : Res := .next (s.whenLive (fun s => (s.accept qid).pollRestarts))

/-- The front descriptor of a queue, where it is this opcode and Drover accepts it. -/
def State.frontSelf (s : State) (qid opcode : Nat) : Option Waiting :=
  match (s.queue qid).waiting with
  | w :: _ => if w.desc.opcode = opcode && s.accepts qid w.desc then some w else none
  | [] => none

def execNopCmd (qid : Nat) (s : State) : Res :=
  .next (s.whenLive (fun s => match s.frontSelf qid 0x01F0 with
    | some w => (s.popWaiting qid).completeSelf qid w St.done
    | none => s))

/-! ### ABORT (R211, R217, R218) -/

/-- A waiting descriptor ends with ABORTED and starts no graph; a pending entry it matched waits for the next one (R217). -/
def State.abortWaiting (s : State) (qid : Nat) (w : Waiting) : State :=
  let s := match w.pend with
    | some e => s.setPend e { s.pendE e with waiting := false }
    | none => s
  (s.post 0x4005 (allotOf qid) 0 (qid % 8)).refuse qid w.desc.tag St.aborted

/-- A graph ends with ABORTED before its commit point; where its deadline has fallen due, the timer acts first. One whose approvals are verified
ends after the current signature (R218). -/
def State.abortGraph (s : State) (g : Nat) : State :=
  match s.graph g with
  | some gr =>
    if gr.committed then s
    else if gr.deadline < s.drv.tick then s.deadline g
    else
      let t := s.post 0x4005 (allotOf gr.qid) 0 (gr.qid % 8)
      match gr.pend with
      | some e =>
        if (s.pendE e).aborting then s
        else if (s.pendE e).sig.isSome then t.setPend e { t.pendE e with aborting := true }
        else t.endGraph g St.aborted none
      | none => t.endGraph g St.aborted none
  | none => s

/-- Abort every descriptor of a queue that carries a tag (R211). -/
def State.abortTag (s : State) (qid tag : Nat) : State :=
  let q := s.queue qid
  let hit (w : Waiting) : Bool := w.desc.tag == tag
  let s := if q.waiting.head?.any hit then s.unstall (.queue qid) else s
  let s := s.setQueue qid { q with waiting := q.waiting.filter (fun w => !hit w) }
  let s := (q.waiting.filter hit).foldl (fun s w => s.abortWaiting qid w) s
  let gs := s.drv.graphs.filterMap (fun x => match x.2 with
    | some gr => if gr.qid = qid && gr.desc.tag = tag then some x.1 else none
    | none => none)
  gs.foldl State.abortGraph s

/-- The queue an ABORT input names, or the status its input ends it with (R211). -/
def abortTarget (qid : Nat) (b : Bytes) : Nat ⊕ Nat :=
  let other := bit (byteAt b 9) 0
  let a := leAt b 10 2
  if decide (2 ≤ byteAt b 9) || decide (8 ≤ byteAt b 8) || leAt b 12 4 != 0 then .inr St.badOperand
  else if other && !isSteward qid then .inr St.accessDenied
  else if (!other && a != 0) || decide (2048 ≤ a) then .inr St.badOperand
  else .inl (8 * (if other then a else allotOf qid) + byteAt b 8)

/-- ABORT: it completes once every descriptor it aborted has its completion written (R211). -/
def State.abortDo (s : State) (qid : Nat) (w : Waiting) (input : Option Bytes) : State :=
  let s := (s.popWaiting qid).readInput qid w.desc.inAddr w.desc.inLen
  match (if s.denies (allotOf qid) w.desc.inAddr w.desc.inLen then none else input) with
  | none => s.completeSelf qid w St.hostAccessFault
  | some b =>
    if b.length ≠ 16 then s.completeSelf qid w St.lengthMismatch
    else
      match abortTarget qid b with
      | .inr x => s.completeSelf qid w x
      | .inl q =>
        let s := s.abortTag q (leAt b 0 8)
        let t : State := { s with hif := { s.hif with aborts := s.hif.aborts ++ [⟨qid, w, q, leAt b 0 8⟩] } }
        t.pollAborts

def execAbortCmd (qid : Nat) (input : Option Bytes) (s : State) : Res :=
  .next (s.whenLive (fun s => match s.frontSelf qid 0x01F1 with
    | some w => (s.abortDo qid w input).pollRestarts
    | none => s))

def execDeadlineExpire (g : Nat) (s : State) : Res := .next (s.whenLive (fun s => (s.deadline g).pollRestarts))

/-! ### ATS, MSI-X and the link (R105, R108, R121, R139) -/

/-- An ATS invalidation of `count` pages from `page` of a PASID is answered once every request that used the translation has been issued: the
model issues each at the moment it asks for its translation, so none is left. From then on the host denies the translation of these pages,
or grants it again (R108, log 223). -/
def State.atsInvalidate (s : State) (tag : Nat) (pasid : Option Nat) (page count : Nat) (deny : Bool) : State :=
  let hit (x : Option Nat × Nat) : Bool := x.1 == pasid && decide (page ≤ x.2) && decide (x.2 < page + count)
  let l := s.hif.atsDenied.filter (fun x => !hit x)
  let l := if deny then l ++ (List.range count).map (fun i => (pasid, page + i)) else l
  { s with hif := { s.hif with atsDenied := l } }.emit (.atsDone tag)

def execAtsInvalidation (tag : Nat) (pasid : Option Nat) (page count : Nat) (deny : Bool) (s : State) : Res :=
  .next (s.whenLive (fun s => if s.hif.endpoint && !s.hif.perst then s.atsInvalidate tag pasid page count deny else s))

/-- The vectors of the MSI-X table (R106). -/
def msixVectors : Nat := 8192

/-- Send the message of a vector whose pending bit is set and which nothing masks any more (R121). -/
def State.msixRelease (s : State) (v : Nat) : State :=
  let e := getC {} s.hif.msix v
  if e.pending && !e.masked && !s.hif.msixMask && s.hif.msixEn then
    { s with hif := { s.hif with msix := setC {} s.hif.msix v { e with pending := false } } }.emit (.msix v)
  else s

/-- A vector is unmasked; number 8,192 stands for the function's mask (R121). -/
def State.msixUnmask (s : State) (v : Nat) : State :=
  if v < msixVectors then
    let e := getC {} s.hif.msix v
    { s with hif := { s.hif with msix := setC {} s.hif.msix v { e with masked := false } } }.msixRelease v
  else if v = msixVectors then
    (s.hif.msix.map Prod.fst).foldl State.msixRelease { s with hif := { s.hif with msixMask := false } }
  else s

def execMsixUnmask (vector : Nat) (s : State) : Res :=
  .next (s.whenLive (fun s => if s.hif.perst then s else s.msixUnmask vector))

/-- The coalescing time of a queue has passed since its first completion not yet signalled (R139). -/
def State.coalesce (s : State) (qid : Nat) : State :=
  let q := s.queue qid
  if q.coalUs != 0 && q.unsig != 0 && q.vector != 0 && decide (q.unsigAt + q.coalUs ≤ s.drv.tick) then
    (s.setQueue qid { q with unsig := 0 }).sendMsix q.vector
  else s

def execCoalesceTimerExpire (qid : Nat) (s : State) : Res := .next (s.whenLive (fun s => s.coalesce qid))

/-- The link has trained, retrained or gone down (R105, R130). DESIGN CHOICE (log 208): LINK_DEGRADED reads 0 while there is no link. -/
def State.linkChange (s : State) (speed width : Nat) (flit : Bool) : State :=
  let down := decide (speed < 4) || width != 16
  let s := ((s.setF Reg.HIF_LINK_SPEED speed).setF Reg.HIF_LINK_WIDTH width).setF Reg.HIF_LINK_FLIT (b2n flit)
  let s := (s.bump Reg.HIF_LINK_RETRAINS).setF Reg.HIF_STATUS_LINK_DEGRADED (b2n (speed != 0 && down))
  (s.hifEvent Reg.HIF_EVENT_LINK_CHANGE).post 0x2005 0 speed width

def execLinkChange (speed width : Nat) (flit : Bool) (s : State) : Res :=
  .next (s.whenLive (fun s =>
    if decide (speed ≤ 6) && ([0, 4, 8, 16] : List Nat).contains width && !s.hif.perst then s.linkChange speed width flit else s))

end Sys2Proof.Machine
end

