-- ==== Sys2Proof/Machine/Allot.lean ====
section
/-! DEFINITION. Allotments (spec/07): their commands, their queues, mailboxes and dirty logs, and the ALT_ registers. -/

namespace Sys2Proof.Machine

/-! ### Selection and results (R132, R144, R152) -/

/-- The selected allotment; 2,048 for the steward selection (R144). -/
def State.altSel (s : State) : Nat := if s.isSet Reg.ALT_SEL_STEWARD then 2048 else s.getF Reg.ALT_SEL_ALLOT

/-- The selected queue. -/
def State.altQ (s : State) : Nat := 8 * s.altSel + s.getF Reg.ALT_SEL_QUEUE

/-- Post a result in `ALT_RESULT`; no command is in progress. -/
def State.altResult (s : State) (x : Nat) : State :=
  { (s.setF Reg.ALT_RESULT_STATUS x).setF Reg.ALT_RESULT_IN_PROGRESS 0 with hif := { s.hif with altBusy := none } }

/-- The command is in progress; `key` names the allotment, or the queue plus 65,536, whose event ends it. -/
def State.altBegin (s : State) (key : Nat) : State :=
  { s.setF Reg.ALT_RESULT_IN_PROGRESS 1 with hif := { s.hif with altBusy := some key } }

/-- End the command that waits on `key`, where it is the last one. -/
def State.altEnd (s : State) (key x : Nat) : State := if s.hif.altBusy == some key then s.altResult x else s

/-- A refused write reports its status; a command in progress goes on (R152). -/
def State.altRefused (s : State) (x : Nat) : State := s.setF Reg.ALT_RESULT_STATUS x

/-- The selected allotment is FREE: its registers are written under R134 alone (R152). -/
def State.selFree (s : State) : Bool := s.altSel != 2048 && (s.allot s.altSel).st == .free

/-- A write to a selected register: refused in FREE (R152). -/
def State.selected (s : State) (f : State → State) : State := if s.selFree then s.altRefused St.stateConflict else f s

/-- A queue command: refused where the allotment is FREE (R152). -/
def State.queueCmd (s : State) (f : State → State) : State := if s.selFree then s.altResult St.stateConflict else f s

/-! ### Dirty logs and mailboxes (R146, R149, R150) -/

/-- Both mailbox pages empty (R133, R142, R147). -/
def Allot.emptyMbx (x : Allot) : Allot := { x with t2s := [], s2t := [], t2sFull := false, s2tFull := false }

/-- Logging stops, what is cached being written as far as the ring takes it; FULL stays 1 while records wait for its space (R150). -/
def State.stopLog (s : State) (a : Nat) : State :=
  let s := s.flushAll a
  let x := s.allot a
  (s.setAllot a { x with log := { x.log with en := false, full := !x.log.cache.isEmpty } }).releaseHeld x.log.held.length a

/-- Logging is lost through a swale or a host reset (R150). -/
def State.loseLog (s : State) (a : Nat) : State :=
  let x := s.allot a
  if x.log.en then
    let s := (s.setAllot a { x with log := { x.log with en := false, lost := true, cache := [], full := false } }).post 0x3007 a 0 0
    s.releaseHeld x.log.held.length a
  else s

/-- Send the steward mailbox vector; 0 sends none. -/
def State.stewardMsg (s : State) : State :=
  let v := s.getF Reg.ALT_GLB_CFG_STW_MBX_VEC
  if v = 0 then s else s.sendMsix v

/-- Set the allotment's bit of `ALT_MBX_EVT` and signal the steward (R146). -/
def State.mbxEvent (s : State) (a : Nat) : State :=
  (s.setFBit (Reg.ALT_MBX_EVT_EVT (a / 32)) (a % 32) true).stewardMsg

/-- The mailbox serves (R146). -/
def State.mbxServes (s : State) (a : Nat) : Bool :=
  let st := (s.allot a).st
  a != 2048 && (st == .active || st == .quiescing || st == .pendingEnable || st == .quiesced)

/-- A dword stored into a 256-byte page; bits 31 to 24 of its header are reserved and stay 0 (R145). -/
def putDword (page : Bytes) (off val : Nat) : Bytes :=
  let p := fit 256 page
  let o := off % 256 / 4 * 4
  p.take o ++ le 4 (if o = 0 then val % 2 ^ 24 else val) ++ p.drop (o + 4)

/-- A tenant's write reaches its mailbox through the page of queue 0 (R114, R146). -/
def State.tenantPage (s : State) (a : Nat) (f : State → State) : State :=
  if s.hif.perst then s
  else if !(s.queue (8 * a)).open then s.stray
  else if s.mbxServes a then f s else s

/-- A tenant acknowledges the steward's message (R146). -/
def State.tenantAck (s : State) (a : Nat) : State :=
  let x := s.allot a
  if x.s2tFull then (s.setAllot a { x with s2t := [], s2tFull := false, s2tAcked := true }).mbxEvent a else s

/-- A tenant write to a mailbox page at an offset of its doorbell page (R146). -/
def State.tenantWrite (s : State) (a off val : Nat) : State :=
  let x := s.allot a
  if 0x800 ≤ off && off < 0x900 then
    if x.t2sFull then s.setAllot a { x with t2sOver := true } else s.setAllot a { x with t2s := putDword x.t2s off val }
  else if off = 0x900 && val = 0 then s.tenantAck a
  else s

def execTenantMbxWrite (a off val : Nat) (s : State) : Res :=
  .next (s.whenLive (fun s => if a < 2048 then s.tenantPage a (fun s => s.tenantWrite a off val) else s))

/-- `HIF_DB_MBX.RING` (R146). -/
def State.tenantRing (s : State) (a : Nat) : State :=
  let x := s.allot a
  if x.t2sFull then s.setAllot a { x with t2sOver := true } else (s.setAllot a { x with t2sFull := true }).mbxEvent a

def execTenantMbxRing (a : Nat) (s : State) : Res :=
  .next (s.whenLive (fun s => if a < 2048 then s.tenantPage a (fun s => s.tenantRing a) else s))

def execTenantMbxAck (a : Nat) (s : State) : Res :=
  .next (s.whenLive (fun s => if a < 2048 then s.tenantPage a (fun s => s.tenantAck a) else s))

/-- A steward command to the selected mailbox. -/
def State.stewardMbx (s : State) (f : State → Nat → Allot → State) : State :=
  s.selected (fun s => if s.mbxServes s.altSel then f s s.altSel (s.allot s.altSel) else s)

/-- `ALT_MBX_CTL.ACK` (R146). -/
def State.mbxAck (s : State) : State := s.stewardMbx (fun s a x => s.setAllot a { x with t2s := [], t2sFull := false })

def execStewardMbxAck (s : State) : Res := .next (s.whenOpen State.mbxAck)

/-- A steward write to the steward-to-tenant window (R146). -/
def State.mbxWrite (s : State) (off val : Nat) : State :=
  s.stewardMbx (fun s a x =>
    if x.s2tFull then s.setAllot a { x with s2tOver := true } else s.setAllot a { x with s2t := putDword x.s2t off val })

def execStewardMbxWrite (off val : Nat) (s : State) : Res :=
  .next (s.whenOpen (fun s => if 0x1100 ≤ off && off < 0x1200 then s.mbxWrite off val else s))

/-- `ALT_MBX_CTL.RING` (R146). -/
def State.mbxRing (s : State) : State :=
  s.stewardMbx (fun s a x =>
    if x.s2tFull then s
    else
      let s := s.setAllot a { x with s2tFull := true }
      if x.mbxVec = 0 then s else s.sendMsix x.mbxVec)

def execStewardMbxRing (s : State) : Res := .next (s.whenOpen State.mbxRing)

/-! ### Allotment commands (R131 to R136, R147, R148) -/

/-- The PASID differs from that of every other allotment in use and from the steward's, where that is enabled (R133). -/
def State.pasidFree (s : State) (a p : Nat) : Bool :=
  !s.allots.any (fun x => x.1 != a && x.2.pasid == p && (if x.1 = 2048 then x.2.pasidEn else x.2.st != .free))

/-- CREATE (R132, R133). -/
def State.altCreate (s : State) (a : Nat) : State :=
  let x := s.allot a
  match x.st with
  | .free =>
    if s.pasidFree a x.pasid then
      ((s.setAllot a { x.emptyMbx with st := .active, log := { x.log with en := false } }).post 0x3001 a 0 0).altResult St.done
    else s.altResult St.badOperand
  | .removing => s.altResult St.busy
  | _ => s.altResult St.stateConflict

/-- A command of `ALT_CTL` on the selected allotment; none on the steward selection (R144). -/
def State.altCmd (s : State) (f : State → Nat → State) : State :=
  if s.altSel = 2048 then s.altResult St.stateConflict else f s s.altSel

def execAltCreate (s : State) : Res := .next (s.whenOpen (fun s => s.altCmd State.altCreate))

/-- Every descriptor of a queue that HIF holds completes with QUIESCED (R135 step 2). -/
def State.refuseUnstarted (s : State) (qid : Nat) : State :=
  let q := s.queue qid
  let s := (s.setQueue qid { q with waiting := [] }).unstall (.queue qid)
  q.waiting.foldl (fun s w =>
    let s := match w.pend with
      | some e => s.setPend e { s.pendE e with waiting := false }
      | none => s
    s.refuse qid w.desc.tag St.quiesced) s

/-- QUIESCE (R132, R135 steps 1 and 2). -/
def State.altQuiesce (s : State) (a : Nat) : State :=
  let x := s.allot a
  match x.st with
  | .active => ((queuesOf a).foldl State.refuseUnstarted (s.setAllot a { x with st := .quiescing })).altBegin a
  | .pendingEnable => (s.setAllot a { x with st := .quiescing }).altBegin a
  | .quiescing | .quiesced => s.altResult St.done
  | _ => s.altResult St.stateConflict

def execAltQuiesce (s : State) : Res := .next (s.whenOpen (fun s => s.altCmd State.altQuiesce))

/-- Send the message for completions of a queue not yet signalled (R139). -/
def State.signalRest (s : State) (qid : Nat) : State :=
  let q := s.queue qid
  if q.unsig = 0 || q.vector = 0 then s else (s.setQueue qid { q with unsig := 0 }).sendMsix q.vector

/-- The state an allotment's quiesce ends in, with its record (R135, R136). -/
def State.quiesceEnd (s : State) (a : Nat) : State :=
  let x := s.allot a
  if x.st == .quiescing || x.st == .pendingEnable then
    ((s.setAllot a { x with st := if x.st == .pendingEnable then .active else .quiesced }).post 0x3003 a 0 0).altEnd a St.done
  else s

/-- The fence after the last graph (R135 step 4): it waits while the log ring, which reads FULL, has no room for a record or a write is held
(R150). -/
def State.fence (s : State) (a : Nat) : State :=
  let x := s.allot a
  if (x.st == .quiescing || x.st == .pendingEnable) && s.inFlight a = 0 && (queuesOf a).all (fun q => (s.queue q).waiting.isEmpty && (s.queue q).inAir = 0)
  then
    let s := (s.releaseHeld x.log.held.length a).flushAll a
    let y := (s.allot a).log
    if !y.cache.isEmpty || !y.held.isEmpty then s
    else ((queuesOf a).foldl State.signalRest s).quiesceEnd a
  else s

def execQuiesceFence (a : Nat) (s : State) : Res := .next (s.whenLive (fun s => s.fence a))

/-- RESUME (R132, R136). -/
def State.altResume (s : State) (a : Nat) : State :=
  let x := s.allot a
  match x.st with
  | .active | .pendingEnable => s.altResult St.done
  | .quiescing => (s.setAllot a { x with st := .pendingEnable }).altBegin a
  | .quiesced => (s.setAllot a { x with st := .active }).altResult St.done
  | .resetting => s.altResult St.busy
  | _ => s.altResult St.stateConflict

def execAltResume (s : State) : Res := .next (s.whenOpen (fun s => s.altCmd State.altResume))

/-- A queue with its positions zeroed and `PHASE` 1 (R140, R141). -/
def Queue.zeroed (q : Queue) : Queue := { q with sqHead := 0, sqTail := 0, cqTail := 0, cqHead := 0, phase := true, heldReset := false }

/-- Disable every queue of an allotment with its positions zeroed, empty its mailboxes and stop its log (R147). -/
def State.strip (s : State) (a : Nat) : State :=
  let s := (queuesOf a).foldl (fun s q => s.setQueue q { (s.queue q).zeroed with st := .disabled, errKind := 0 }) s
  let s := s.stopLog a
  s.setAllot a (s.allot a).emptyMbx

/-- No queue of the allotment is enabled, draining or in error (R132). -/
def State.noQueue (s : State) (a : Nat) : Bool := (queuesOf a).all (fun q => (s.queue q).st == .disabled)

/-- RESET or REMOVE may act: the allotment is QUIESCED, or ACTIVE with no queue enabled (R132). -/
def State.mayStrip (s : State) (a : Nat) : Bool :=
  (s.allot a).st == .quiesced || ((s.allot a).st == .active && s.noQueue a)

/-- RESET (R132, R147). -/
def State.altReset (s : State) (a : Nat) : State :=
  if (s.allot a).st == .free then s.altResult St.stateConflict
  else if s.mayStrip a then
    let s := s.strip a
    (s.setAllot a { s.allot a with st := .resetting }).altBegin a
  else s.altResult St.busy

def execAltReset (s : State) : Res := .next (s.whenOpen (fun s => s.altCmd State.altReset))

def execAltResetComplete (a : Nat) (s : State) : Res :=
  .next (s.whenLive (fun s =>
    if (s.allot a).st == .resetting then ((s.setAllot a { s.allot a with st := .active }).post 0x3004 a 0 0).altEnd a St.done else s))

/-- REMOVE: what RESET does, then the master's generation rises and its chain is invalidated (R132, R147). -/
def State.altRemove (s : State) (a : Nat) : State :=
  if (s.allot a).st == .free then s.altResult St.stateConflict
  else if (s.allot a).st == .removing then s.altResult St.done
  else if s.mayStrip a then
    let s := s.strip a
    let s := s.setAllot a { s.allot a with st := .removing }
    ((s.raiseGen a).invalidate { root := .master a, removing := some a }).altBegin a
  else s.altResult St.busy

def execAltRemove (s : State) : Res := .next (s.whenOpen (fun s => s.altCmd State.altRemove))

/-- Barrow's invalidation has ended: the PASID is cleared and the identifier is free (R147, R148). -/
def State.altRemoved (s : State) (a : Nat) : State :=
  if (s.allot a).st == .removing && !s.bar.inval.any (fun i => i.removing == some a) then
    let s := s.removeKeys a
    ((s.setAllot a { s.allot a with st := .free, pasid := 0 }).post 0x3005 a 0 0).altEnd a St.done
  else s

def execAltRemoveComplete (a : Nat) (s : State) : Res := .next (s.whenLive (fun s => s.altRemoved a))

/-- A write of `ALT_PASID` or `ALT_CFG` (R134, R143, R144). -/
def State.altConfig (s : State) (off val : Nat) : State :=
  let a := s.altSel
  let x := s.allot a
  if a = 2048 then
    if off = 0x10 then s.setAllot a { x with pasid := val % 2 ^ 20, pasidEn := bit val 31 } else s
  else if x.st != .free && x.st != .quiesced then s.altRefused St.stateConflict
  else if off = 0x10 then
    if x.st == .quiesced && !s.pasidFree a (val % 2 ^ 20) then s.altRefused St.badOperand
    else s.setAllot a { x with pasid := val % 2 ^ 20 }
  else if off = 0x14 then
    if 4096 < val % 8192 then s.altRefused St.badOperand else s.setAllot a { x with quota := val % 8192 }
  else s

def execAltConfigWrite (off val : Nat) (s : State) : Res :=
  .next (s.whenOpen (fun s => if off = 0x10 || off = 0x14 then s.altConfig off val else s))

/-! ### Queue commands (R137 to R142) -/

/-- A configuration register of the selected queue (R137, R152). -/
def Queue.config (q : Queue) (off val : Nat) : Queue :=
  match off with
  | 0x40 => { q with sqBase := q.sqBase / 2 ^ 32 * 2 ^ 32 + val / 4096 * 4096 }
  | 0x44 => { q with sqBase := q.sqBase % 2 ^ 32 + val * 2 ^ 32 }
  | 0x48 => { q with cqBase := q.cqBase / 2 ^ 32 * 2 ^ 32 + val / 4096 * 4096 }
  | 0x4C => { q with cqBase := q.cqBase % 2 ^ 32 + val * 2 ^ 32 }
  | 0x50 => { q with depthLog2 := val % 16, vector := val / 16 % 8192, coalCount := val / 2 ^ 17 % 256, coalUs := val / 2 ^ 25 % 128 }
  | 0x58 => { q with sqHead := val % 4096, sqTail := val / 65536 % 4096 }
  | 0x5C => { q with cqTail := val % 4096, cqHead := val / 65536 % 4096, phase := bit val 31 }
  | _ => q

/-- A write of a queue's configuration is accepted only while it is DISABLED (R137). -/
def State.queueConfig (s : State) (off val : Nat) : State :=
  s.selected (fun s =>
    let q := s.queue s.altQ
    if q.st == .disabled then s.setQueue s.altQ (q.config off (val % 2 ^ 32)) else s.altRefused St.stateConflict)

def execQueueConfigWrite (off val : Nat) (s : State) : Res :=
  .next (s.whenOpen (fun s =>
    if ([0x40, 0x44, 0x48, 0x4C, 0x50, 0x58, 0x5C] : List Nat).contains off then s.queueConfig off val else s))

/-- The conditions of ENABLE (R138). -/
def State.enableOk (s : State) (qid : Nat) : Bool :=
  let q := s.queue qid
  let a := allotOf qid
  (a == 2048 || (s.allot a).st == .active || (s.allot a).st == .quiesced) && q.sqBase % 4096 == 0 && q.cqBase % 4096 == 0 &&
    decide (4 ≤ q.depthLog2) && decide (q.depthLog2 ≤ 12) && decide (q.vector < msixVectors) && decide (q.sqHead < q.depth) &&
    decide (q.sqTail < q.depth) && decide (q.cqTail < q.depth) && decide (q.cqHead < q.depth)

/-- ENABLE (R138, R140). -/
def State.queueEnable (s : State) (qid : Nat) : State :=
  let q := s.queue qid
  match q.st with
  | .disabled =>
    if s.enableOk qid then (s.setQueue qid { q with st := .enabled, errKind := 0, fenced := false }).altResult St.done
    else s.altResult St.badOperand
  | .enabled | .pendingEnable => s.altResult St.done
  | .draining => (s.setQueue qid { q with st := .pendingEnable }).altBegin (65536 + qid)
  | .error => s.altResult St.stateConflict

def execQueueEnable (s : State) : Res := .next (s.whenOpen (fun s => s.queueCmd (fun s => s.queueEnable s.altQ)))

/-- DISABLE (R140, R141). -/
def State.queueDisable (s : State) (qid : Nat) : State :=
  let q := s.queue qid
  match q.st with
  | .enabled | .pendingEnable => (s.setQueue qid { q with st := .draining }).altBegin (65536 + qid)
  | .disabled | .draining => s.altResult St.done
  | .error => s.altResult St.stateConflict

def execQueueDisable (s : State) : Res := .next (s.whenOpen (fun s => s.queueCmd (fun s => s.queueDisable s.altQ)))

/-- RESET of a queue (R119, R140). -/
def State.queueReset (s : State) (qid : Nat) : State :=
  let q := s.queue qid
  if q.st == .disabled then (s.setQueue qid q.zeroed).altResult St.done
  else (s.setQueue qid { q with st := .draining, heldReset := true }).altBegin (65536 + qid)

def execQueueReset (s : State) : Res := .next (s.whenOpen (fun s => s.queueCmd (fun s => s.queueReset s.altQ)))

/-- The last completion of a draining queue is written: it is DISABLED, and a held RESET and a held ENABLE take effect (R140, R141). -/
def State.queueDrained (s : State) (qid : Nat) : State :=
  let q := s.queue qid
  if (q.st == .draining || q.st == .pendingEnable) && q.fetched = 0 then
    let q1 := if q.heldReset then q.zeroed else q
    (s.setQueue qid { q1 with st := if q.st == .pendingEnable then .enabled else .disabled, errKind := 0, fenced := false }).altEnd (65536 + qid) St.done
  else s

def execQueueDrainComplete (qid : Nat) (s : State) : Res := .next (s.whenLive (fun s => s.queueDrained qid))

/-! ### Dirty-log commands (R149, R150) -/

/-- A write of `ALT_LOG_CFG` (R150, R152). Records that an earlier clearing of EN left cached for want of ring space stay cached (log 224). -/
def State.logConfig (s : State) (val : Nat) : State :=
  s.selected (fun s =>
    let a := s.altSel
    let x := s.allot a
    let d := val / 16 % 32
    let f := val / 65536 % 256
    let en := bit val 0
    if a = 2048 then s
    else if d < 6 || 16 < d then s.altRefused St.badOperand
    else if x.log.en && x.log.depthLog2 ≠ d then s.altRefused St.stateConflict
    else
      let l := { x.log with depthLog2 := d, flushUs := f }
      if en && !x.log.en then
        s.setAllot a { x with log := { l with en := true, head := 0, tail := 0, phase := true, seq := 0, full := false } }
      else if !en && x.log.en then (s.setAllot a { x with log := l }).stopLog a
      else s.setAllot a { x with log := l })

def execLogEnable (val : Nat) (s : State) : Res := .next (s.whenOpen (fun s => if bit val 0 then s.logConfig val else s))

def execLogDisable (val : Nat) (s : State) : Res := .next (s.whenOpen (fun s => if bit val 0 then s else s.logConfig val))

/-- Write the records that have been open for `FLUSH_US`, oldest first, as far as the ring takes them (R150). -/
def State.flushAged : Nat → State → Nat → State
  | 0, s, _ => s
  | n + 1, s, a =>
    let l := (s.allot a).log
    match l.cache with
    | r :: _ => if decide (r.opened + max l.flushUs 1 ≤ s.drv.tick) && !l.ringFull then State.flushAged n (s.flushOne a) a else s
    | [] => s

def execLogFlushTimer (a : Nat) (s : State) : Res :=
  .next (s.whenLive (fun s => s.flushAged (s.allot a).log.cache.length a))

/-- Issue the held writes of every allotment that now have a place (R150). -/
def State.releaseAll (s : State) : State :=
  (s.allots.map Prod.fst).foldl (fun (s : State) a => s.releaseHeld (s.allot a).log.held.length a) s

/-- A write of `ALT_LOG_HEAD`: records are released and held writes go on, or the head would pass the tail (R150). -/
def State.logHead (s : State) (head : Nat) : State :=
  s.selected (fun s =>
    let a := s.altSel
    let x := s.allot a
    let h := head % 65536
    if a = 2048 then s
    else if x.log.depth ≤ h || ringDist x.log.depth x.log.head x.log.tail < ringDist x.log.depth x.log.head h then
      s.setAllot a { x with log := { x.log with headErr := true } }
    else
      let l := { x.log with head := h }
      let s := s.setAllot a { x with log := { l with full := x.log.full && l.ringFull } }
      if x.log.en then s.releaseAll.pollRestarts
      else
        let s := s.flushAll a
        let y := s.allot a
        s.setAllot a { y with log := { y.log with full := y.log.full && !y.log.cache.isEmpty } })

def execLogHeadWrite (head : Nat) (s : State) : Res := .next (s.whenOpen (fun s => s.logHead head))

/-- A write of the ring base is refused while logging is on (R150). -/
def State.logBase (s : State) (hi : Bool) (val : Nat) : State :=
  s.selected (fun s =>
    let a := s.altSel
    let x := s.allot a
    let b := x.log.base
    if a = 2048 then s
    else if x.log.en then s.altRefused St.stateConflict
    else s.setAllot a { x with log := { x.log with
      base := if hi then b % 2 ^ 32 + val * 2 ^ 32 else b / 2 ^ 32 * 2 ^ 32 + val / 4096 * 4096 } })

/-! ### Host resets (R118, R136, R142) -/

/-- Tear a queue down: its positions are kept, nothing is drained (R142). -/
def Queue.torn (q : Queue) : Queue :=
  { q with st := .disabled, heldReset := false, errKind := 0, fetched := 0, inAir := 0, waiting := [], unsig := 0, fenced := false }

/-- A queue command in progress ends where a host reset tears its queue down: a DISABLE has what it asked for, any other is given up (log
225). -/
def State.queueCmdTorn (s : State) : State :=
  match s.hif.altBusy with
  | some k =>
    if k < 65536 then s
    else
      let q := s.queue (k - 65536)
      s.altResult (if q.st == .draining && !q.heldReset then St.done else St.aborted)
  | none => s

/-- Every queue is torn down and the graphs bound to host memory end, their completions discarded: how many, and the state (R26,
R142). -/
def State.tearDown (s : State) : Nat × State :=
  let lost := (s.queues.map (fun x => x.2.fetched)).sum
  let s := s.graphIds.foldl State.dropGraph s.queueCmdTorn
  let s : State := { s with hif := { s.hif with aborts := [] } }
  let s : State := (s.pends.map Prod.fst).foldl (fun s e => s.setPend e { s.pendE e with waiting := false }) s
  let s : State := (s.queues.map Prod.fst).foldl (fun s q => (s.setQueue q (s.queue q).torn).unstall (.queue q)) s
  let as := s.allots.map Prod.fst
  let s := as.foldl (fun s a =>
    let x := s.allot a
    let s := s.setAllot a { x with log := { x.log with held := [], full := false } }
    let s := s.loseLog a
    (s.setAllot a (s.allot a).emptyMbx).quiesceEnd a) s
  (lost, s)

/-! ### The ALT_ registers (R152) -/

/-- `ALT_STATUS.STATE`. -/
def ASt.code : ASt → Nat
  | .free => 0
  | .active => 1
  | .quiescing => 2
  | .quiesced => 3
  | .pendingEnable => 4
  | .resetting => 5
  | .removing => 6

/-- `ALT_Q_CTL.QSTATE`. -/
def QSt.code : QSt → Nat
  | .disabled => 0
  | .enabled => 1
  | .draining => 2
  | .pendingEnable => 3
  | .error => 4

/-- The largest remaining deadline among the graphs of an allotment (R152). -/
def State.remainUs (s : State) (a : Nat) : Nat :=
  s.drv.graphs.foldl (fun m x => match x.2 with
    | some gr => if allotOf gr.qid = a then max m (gr.deadline - s.drv.tick) else m
    | none => m) 0

/-- A read of a register of the block that shows a selection. -/
def State.altRead (s : State) (off : Nat) : Nat :=
  let a := s.altSel
  let x := s.allot a
  let q := s.queue s.altQ
  if off = 0x08 then
    let qs := (List.range 8).foldl (fun v k =>
      let st := (s.queue (8 * a + k)).st
      if st == .enabled || st == .draining then setBit v k else v) 0
    (if a = 2048 then 0 else x.st.code) + 8 * qs + 2 ^ 11 * b2n x.log.en + 2 ^ 12 * b2n (a != 2048 && x.st != .free && (s.master a).present)
  else if off = 0x10 then x.pasid + 2 ^ 31 * b2n (if a = 2048 then x.pasidEn else x.st != .free)
  else if off = 0x14 then x.quota
  else if off = 0x18 then s.inFlight a % 8192 + 65536 * min 65535 (s.remainUs a)
  else if off = 0x1C then x.mbxVec
  else if off = 0x24 then b2n x.t2sFull + 2 * b2n x.s2tFull + 4 * b2n x.t2sOver + 8 * b2n x.s2tOver + 16 * b2n x.s2tAcked
  else if off = 0x40 then q.sqBase % 2 ^ 32
  else if off = 0x44 then q.sqBase / 2 ^ 32
  else if off = 0x48 then q.cqBase % 2 ^ 32
  else if off = 0x4C then q.cqBase / 2 ^ 32
  else if off = 0x50 then q.depthLog2 + 16 * q.vector + 2 ^ 17 * q.coalCount + 2 ^ 25 * q.coalUs
  else if off = 0x54 then 16 * q.st.code
  else if off = 0x58 then q.sqHead + 65536 * q.sqTail
  else if off = 0x5C then q.cqTail + 65536 * q.cqHead + 2 ^ 31 * b2n q.phase
  else if off = 0x80 then x.log.base % 2 ^ 32
  else if off = 0x84 then x.log.base / 2 ^ 32
  else if off = 0x88 then b2n x.log.en + 16 * x.log.depthLog2 + 65536 * x.log.flushUs
  else if off = 0x8C then x.log.head
  else if off = 0x90 then x.log.tail + 65536 * b2n x.log.phase
  else if off = 0x94 then
    b2n (!x.log.cache.isEmpty) + 2 * b2n x.log.full + 4 * b2n x.log.lost + 8 * b2n x.log.headErr + 65536 * x.log.stalls
  else if 0x1000 ≤ off && off < 0x1100 then leAt (fit 256 x.t2s) (off - 0x1000) 4
  else if 0x1100 ≤ off && off < 0x1200 then leAt (fit 256 x.s2t) (off - 0x1100) 4
  else 0

/-- Reading `ALT_LOG_STAT` clears `FULL_STALLS` (R152). -/
def State.altClear (s : State) (off : Nat) : State :=
  if off = 0x94 then
    let x := s.allot s.altSel
    s.setAllot s.altSel { x with log := { x.log with stalls := 0 } }
  else s

/-- The commands of `ALT_CTL` (R132, R152). -/
def State.altCtl (s : State) (cmd : Nat) : State :=
  match cmd with
  | 0 => s
  | 1 => s.altCmd State.altCreate
  | 2 => s.altCmd State.altQuiesce
  | 3 => s.altCmd State.altResume
  | 4 => s.altCmd State.altReset
  | 5 => s.altCmd State.altRemove
  | _ => s.altResult St.badOperand

/-- The commands of `ALT_Q_CTL` (R140, R152). -/
def State.queueCtl (s : State) (cmd : Nat) : State :=
  if cmd = 0 then s
  else s.queueCmd (fun s => match cmd with
    | 1 => s.queueEnable s.altQ
    | 2 => s.queueDisable s.altQ
    | 3 => s.queueReset s.altQ
    | _ => s.altResult St.badOperand)

/-- A selected register of the block that is only read; a write to it is refused in FREE like one to any other (R152). -/
def altReadOnly (off : Nat) : Bool :=
  off == 0x08 || off == 0x18 || off == 0x90 || (decide (0x1000 ≤ off) && decide (off < 0x1100))

/-- A write of a register of the block that acts on the selection, or carries a command. -/
def State.altWrite (s : State) (off val : Nat) : State :=
  if off = 0x04 then s.altCtl (val % 16)
  else if off = 0x10 || off = 0x14 then s.altConfig off val
  else if off = 0x1C then
    s.selected (fun s => if s.altSel = 2048 then s else s.setAllot s.altSel { s.allot s.altSel with mbxVec := val % 8192 })
  else if off = 0x20 then
    let s := if bit val 0 then s.mbxRing else s
    if bit val 1 then s.mbxAck else s
  else if off = 0x24 then
    s.selected (fun s =>
      let x := s.allot s.altSel
      s.setAllot s.altSel { x with
        t2sOver := x.t2sOver && !bit val 2, s2tOver := x.s2tOver && !bit val 3, s2tAcked := x.s2tAcked && !bit val 4 })
  else if off = 0x54 then s.queueCtl (val % 16)
  else if 0x40 ≤ off && off < 0x60 then s.queueConfig off val
  else if off = 0x80 || off = 0x84 then s.logBase (off = 0x84) val
  else if off = 0x88 then s.logConfig val
  else if off = 0x8C then s.logHead val
  else if off = 0x94 then
    s.selected (fun s =>
      let x := s.allot s.altSel
      s.setAllot s.altSel { x with log := { x.log with lost := x.log.lost && !bit val 2, headErr := x.log.headErr && !bit val 3 } })
  else if 0x1100 ≤ off && off < 0x1200 then s.mbxWrite off val
  else if altReadOnly off then s.selected (fun s => s)
  else s

end Sys2Proof.Machine
end

