-- ==== Sys2Proof/Machine/BaleOps.lean ====
section
/-! DEFINITION. Bales (spec/04): the flash slots, the header and its checks, what a bale configures, and the bale record. -/

namespace Sys2Proof.Machine

/-! ### The checks of a slot (R75) -/

/-- The STATES bit a bale needs: that of Test or of Production, and in Blank that of Test; End of Life and Lost have none (R74, R75, R81). -/
def State.stateBit (s : State) : Option Nat := if s.lc.st = 2 then some 1 else if s.lc.st < 2 then some 0 else none

/-- The signer key of the header is the one an unrevoked slot holds the hash of (R75, R92). -/
def State.signerOk (s : State) (h : Bytes) : Bool :=
  (match s.lc.signers[hdrKey h]? with
    | some (some d) => d == sha256 (hdrSigner h)
    | _ => false) && !bit s.lc.revoked (hdrKey h)

/-- Step 4, the epoch rule apart (R75). -/
def State.headerOk (s : State) (h : Bytes) : Bool := hdrForm h && s.stateBit.any (fun k => bit (hdrStates h) k) && s.signerOk h

/-- Step 5: the signature over the header (R74, R75). -/
def State.signatureOk (s : State) (slot : Nat) : Bool :=
  let h := s.header slot
  verifyPure 0x50 (hdrSigner h) [] h (s.flashRead slot 0x1000 7856)

/-- Step 6: every section's digest (R75). -/
def State.digestsOk (s : State) (slot : Nat) : Bool := (sects (s.header slot)).all (fun x => s.sectIntact slot x)

/-! ### What a bale configures (R72, R208, R403, R427) -/

/-- What the sections of a slot configure (log 6). -/
def State.contentOf (s : State) (slot : Nat) : BaleContent :=
  Config.baleContent ((sects (s.header slot)).map (fun x => (x.type, x.role, s.flashRead slot x.off x.len)))

/-- The library: identifiers unique, one default per opcode (R208). -/
def libraryOk (l : List Template) : Bool :=
  l.all templateOk && pairwise (fun a b => a.id != b.id && !(a.opcode == b.opcode && a.isDefault && b.isDefault)) l &&
    l.all (fun t => l.any (fun u => u.opcode == t.opcode && u.isDefault))

/-- A rate entry (R427). -/
def rateOk (r : Nat × Nat × Nat) : Bool :=
  !unlimited r.1 && decide (1 ≤ r.2.1) && decide (r.2.1 ≤ 60000) && decide (1 ≤ r.2.2) && decide (r.2.2 ≤ 255)

/-- The configuration of the monitors: no monitor above 25, no response below the minimum, none undefined, none but the default for a
fixed one (R403). -/
def monitorOk (e : Nat × Nat) : Bool :=
  let a := e.1 / 8
  if 0xD00040 ≤ a && a < 0xD000C0 && e.1 % 32 < 3 then
    let m := (a - 0xD00040) / 4
    let r := monitorRow m
    decide (m < 26) && decide (e.2 < 7) && decide (r.1 ≤ e.2) && (r.2.2.1 == 0 || e.2 == r.2.1)
  else true

/-- A class of the custodian section names filled seed slots only, and its k lies between 1 and its member count (R154). -/
def classOk (c : BaleContent) (e : Nat × Nat × Nat) : Bool :=
  (List.range 16).all (fun k => !bit e.2.1 k || c.custodians.any (fun x => x.1 == k)) && decide (1 ≤ e.2.2) && decide (e.2.2 ≤ popCount 16 e.2.1)

/-- What step 6 checks beyond the digests (R73, R154, R208, R396, R403, R427). -/
def contentOk (c : BaleContent) : Bool :=
  libraryOk c.templates && decide (c.rates.length ≤ 512) && c.rates.all rateOk && c.regs.all monitorOk && c.roleMap.all (fun r => decide (r ≤ 6)) && c.classes.all (classOk c) &&
    c.hedge.all (fun x => setOk x.2)

/-- A second mismatch of a hub digest engine within one check fails it (R285). -/
def failsTwice (mis : List HubCheck) (c : HubCheck) : Bool := decide (2 ≤ (mis.filter (fun x => x == c)).length)

/-- Steps 4 to 6 on a slot under an epoch rule: the result code of R86 they end with, 0 where the slot passes (R73, R75); `mis` are the
mismatches the hub digest engines show in its checks (R285). DESIGN CHOICE (log 206): a section whose digest matches and whose content fails
another check of step 6 ends with SECTION_DIGEST. -/
def State.judgeSlot (s : State) (slot : Nat) (epochOk : Nat → Bool) (epochCode : Nat) (mis : List HubCheck) : Nat :=
  let h := s.header slot
  if getC false s.bale.deviceBad slot then 7
  else if !s.headerOk h || failsTwice mis .signer then 3
  else if !epochOk (hdrEpoch h) then epochCode
  else if !s.signatureOk slot || failsTwice mis .signature then 4
  else if !s.digestsOk slot || failsTwice mis .sections || !contentOk (s.contentOf slot) then 5
  else 0

/-- The checks a slot reached, by the code it ended with: each mismatch of a hub engine in them raises a Gorse Note (R285). -/
def State.hubNotes (s : State) (code : Nat) (mis : List HubCheck) : State :=
  (mis.filter (fun c => match c with
    | .signer => code != 7
    | .signature => code == 4 || code == 5 || code == 0
    | .sections => code == 5 || code == 0)).foldl (fun (s : State) _ => s.noteMismatch) s

/-! ### The bale record, the selector and the write counts (R76, R82, R83) -/

/-- E_PREV. -/
def State.ePrev (s : State) : Nat := (s.root.baleRec.map Prod.snd).getD 0

/-- The slot the selector names: B while an odd number of its bits are blown (R83). -/
def State.selSlot (s : State) : Nat := s.lc.selBlown % 2

/-- `FALLBACK` reads 1 while a slot runs that the selector does not name (R76, R86). -/
def State.showFallback (s : State) : State := s.setF Reg.HIF_BALE_STATUS_FALLBACK (b2n (s.bale.running.any (fun r => r != s.selSlot)))

/-- A slot's write count: the larger of the root store's and of the copy in its flash device (R82). -/
def State.wcnt (s : State) (slot : Nat) : Nat := max (if slot = 0 then s.root.wcntA else s.root.wcntB) (getC 0 s.bale.flashCnt slot)

def State.setWcnt (s : State) (slot n : Nat) : State :=
  let s : State := if slot = 0 then { s with root := { s.root with wcntA := n } } else { s with root := { s.root with wcntB := n } }
  { s with bale := { s.bale with flashCnt := setC 0 s.bale.flashCnt slot n } }

/-- The section of a type in a slot: its bytes. -/
def State.sectBytes (s : State) (slot type : Nat) : Bytes :=
  match (sects (s.header slot)).find? (fun x => x.type == type) with
  | some x => s.flashRead slot x.off x.len
  | none => []

/-- The firmware sections of a slot. -/
def State.firmware (s : State) (slot : Nat) : Bytes :=
  ((sects (s.header slot)).filter (fun x => x.type == 2)).flatMap (fun x => s.flashRead slot x.off x.len)

end Sys2Proof.Machine
end

