-- ==== Sys2Proof/Machine/Spdm.lean ====
section
/-! DEFINITION. The SPDM responder, IDE and the MCTP endpoint (spec/06). A request names what it asks for and carries its bytes, which
the signatures cover; a response goes out as its code and its content (log 41). -/

namespace Sys2Proof.Machine

/-! ### Responses -/

/-- The path of a request is open: DOE while the host interface is out of reset, SMBus while its port is enabled (R122, R128). -/
def State.pathOpen (s : State) (mctp : Bool) : Bool :=
  if mctp then s.isSet Reg.HIF_SMB_ENABLE else s.hif.endpoint && !s.hif.perst

/-- The largest body a transfer carries (R122). -/
def spdmMax : Nat := 4096

/-- Send a response; one larger than a transfer is kept for CHUNK_GET and announced as such (R122). -/
def State.reply (s : State) (mctp : Bool) (code : Nat) (body : Bytes) : State :=
  if spdmMax < body.length then
    { s with hif := { s.hif with spdm := { s.hif.spdm with large := body } } }.emit (.spdm mctp 0x7F [0x0F])
  else s.emit (.spdm mctp code body)

/-- An ERROR response. -/
def State.spdmError (s : State) (mctp : Bool) (e : Nat) : State := s.reply mctp 0x7F (le 1 e)

/-- The error codes of SPDM the model uses (log 41). -/
def errDecrypt : Nat := 0x06
def errInvalid : Nat := 0x01
def errBusy : Nat := 0x03
def errUnexpected : Nat := 0x04
def errUnsupported : Nat := 0x07
def errSessions : Nat := 0x0A
def errVersion : Nat := 0x41

/-- The responder answers every request: after step 9, in Test or Production, with an attestation key (R125). DESIGN CHOICE
(log 211): a Swale-R destroys the key, and until the next start makes another the responder answers Busy. -/
def State.spdmReady (s : State) : Bool :=
  decide (9 ≤ s.bale.step) && !s.isSet Reg.HIF_BALE_STATUS_NO_BALE && (s.lc.st == 1 || s.lc.st == 2) && s.root.attKey.isSome

/-- Add a message to the transcript. -/
def State.transcribe (s : State) (b : Bytes) : State :=
  { s with hif := { s.hif with spdm := { s.hif.spdm with transcript := s.hif.spdm.transcript ++ b } } }

/-- A request other than GET_VERSION and GET_CAPABILITIES: Busy until the responder is ready (R125). -/
def State.spdmReq (s : State) (mctp : Bool) (req : Bytes) (f : State → State) : State :=
  s.whenLive (fun s =>
    if !s.pathOpen mctp then s
    else if !s.spdmReady then s.spdmError mctp errBusy
    else f (s.transcribe req))

/-- A request that needs the negotiation to be complete. -/
def State.spdmNeg (s : State) (mctp : Bool) (req : Bytes) (f : State → State) : State :=
  s.spdmReq mctp req (fun s => if s.hif.spdm.algs then f s else s.spdmError mctp errUnexpected)

/-! ### Negotiation (R122) -/

/-- GET_VERSION: the versions supported; the connection starts anew. -/
def execSpdmGetVersion (mctp : Bool) (req : Bytes) (s : State) : Res :=
  .next (s.whenLive (fun s =>
    if s.pathOpen mctp then
      let s : State := { s with hif := { s.hif with spdm := { s.hif.spdm with caps := false, algs := false, transcript := req } } }
      s.reply mctp 0x04 (le 2 0x1200 ++ le 2 0x1300)
    else s))

/-- GET_CAPABILITIES: the sizes supported, and the version the connection takes. -/
def execSpdmGetCapabilities (mctp : Bool) (req : Bytes) (minor : Nat) (s : State) : Res :=
  .next (s.whenLive (fun s =>
    if !s.pathOpen mctp then s
    else if minor ≠ 2 && minor ≠ 3 then s.spdmError mctp errVersion
    else
      let s : State := { s with hif := { s.hif with spdm := { s.hif.spdm with caps := true } } }
      ((s.transcribe req).setF Reg.HIF_SPDM_STATUS_VERSION (minor - 1)).reply mctp 0x61 (le 4 4096 ++ le 4 65536)))

/-- The algorithms a requester offers among those of R122: SLH-DSA-SHA2-128f, ECDSA P-384, SHA-384 as hash and as measurement hash, secp384r1,
AES-256-GCM. -/
structure SpdmOffer where
  ext : Bool
  base : Bool
  hash : Bool
  measHash : Bool
  dhe : Bool
  aead : Bool
deriving DecidableEq, Repr

/-- NEGOTIATE_ALGORITHMS: a signature algorithm and both hashes are needed; SLH-DSA-SHA2-128f is taken where it is offered, otherwise ECDSA
P-384. A key exchange group and an AEAD are taken where they are offered. The response names each choice. -/
def State.spdmNegotiate (s : State) (mctp : Bool) (req : Bytes) (o : SpdmOffer) : State :=
  s.spdmReq mctp req (fun s =>
    if !s.hif.spdm.caps then s.spdmError mctp errUnexpected
    else if (!o.ext && !o.base) || !o.hash || !o.measHash then s.spdmError mctp errInvalid
    else
      let s : State := { s with hif := { s.hif with spdm := { s.hif.spdm with algs := true, dhe := o.dhe, aead := o.aead } } }
      (s.setF Reg.HIF_SPDM_STATUS_EXT_ASYM (b2n o.ext)).reply mctp 0x63
        (le 2 (b2n o.ext) ++ le 1 (b2n (!o.ext)) ++ le 1 1 ++ le 1 1 ++ le 1 (b2n o.dhe) ++ le 1 (b2n o.aead)))

def execSpdmNegotiateAlgorithms (mctp : Bool) (req : Bytes) (ext base hash measHash dhe aead : Bool) (s : State) : Res :=
  .next (s.spdmNegotiate mctp req ⟨ext, base, hash, measHash, dhe, aead⟩)

/-! ### Certificates, challenge and measurements (R123, R124) -/

/-- The attestation public key (R96, R123). -/
def State.attPub (s : State) : Bytes := attPublic (s.root.attKey.getD [])

/-- The public key of the SPDM ECDSA P-384 key (R123). -/
def State.spdmPub (s : State) : Bytes := fit 96 (Config.publicOf 0x21 s.spdmKey)

/-- The self-signed certificate of the attestation key: the module identity in its subject, and whether its key is a test key
(R123, log 41). -/
def State.cert0 (s : State) : Bytes := Config.derive 30 [s.lc.uid, s.attPub, le 1 (b2n s.root.attTest), s.root.attKey.getD []]

/-- The certificate of the ECDSA P-384 key, signed by the attestation key (R123). -/
def State.cert1 (s : State) : Bytes := Config.derive 31 [s.lc.uid, s.spdmPub, le 1 (b2n s.root.attTest), s.root.attKey.getD []]

/-- The chain of a certificate slot (R123). -/
def State.certChain (s : State) (slot : Nat) : Bytes := if slot = 0 then s.cert0 else s.cert0 ++ s.cert1

/-- GET_DIGESTS: the digests of both chains. -/
def State.spdmDigests (s : State) (mctp : Bool) (req : Bytes) : State :=
  s.spdmNeg mctp req (fun s => s.reply mctp 0x01 (le 1 3 ++ sha384 (s.certChain 0) ++ sha384 (s.certChain 1)))

def execSpdmGetDigests (mctp : Bool) (req : Bytes) (s : State) : Res := .next (s.spdmDigests mctp req)

/-- GET_CERTIFICATE: a portion of a chain and how much remains. -/
def State.spdmCertificate (s : State) (mctp : Bool) (req : Bytes) (slot off len : Nat) : State :=
  s.spdmNeg mctp req (fun s =>
    let c := s.certChain slot
    if 2 ≤ slot || c.length < off then s.spdmError mctp errInvalid
    else
      let p := slice c off len
      s.reply mctp 0x02 (le 1 slot ++ le 4 p.length ++ le 4 (c.length - off - p.length) ++ p))

def execSpdmGetCertificate (mctp : Bool) (req : Bytes) (slot off len : Nat) (s : State) : Res :=
  .next (s.spdmCertificate mctp req slot off len)

/-- A signature over the transcript: with the attestation key under ExtAsym, otherwise with the ECDSA P-384 key (R123). -/
def State.spdmSign (s : State) : Bytes × State :=
  let (r, s) := s.freeBytes 32
  let h := sha384 s.hif.spdm.transcript
  if s.isSet Reg.HIF_SPDM_STATUS_EXT_ASYM then ((sign 0x51 17088 (s.root.attKey.getD []) h r).getD [], s)
  else ((sign 0x21 96 s.spdmKey h r).getD [], s)

/-- The certificate slot of the negotiated signature algorithm (R123). -/
def State.signSlot (s : State) : Nat := if s.isSet Reg.HIF_SPDM_STATUS_EXT_ASYM then 0 else 1

/-- A block that gives an epoch and a digest, in SHA-384 digest form: DESIGN CHOICE (log 222), the digest of the two together. -/
def digestForm (epoch : Nat) (d : Bytes) : Bytes := sha384 (le 4 epoch ++ d)

/-- A measurement block: raw for 1 and 2, otherwise in SHA-384 digest form (R124). -/
def State.measurement (s : State) (i : Nat) : Bytes :=
  let run := s.bale.running.getD 0
  if i = 1 then le 2 (s.getF Reg.HIF_ROM_VER_ROM) ++ le 2 (s.getF Reg.HIF_ROM_VER_IFACE)
  else if i = 2 then
    le 1 s.lc.st ++ le 1 ((List.range 4).foldl (fun v k => if (s.lc.signers[k]?).join.isSome then setBit v k else v) 0 + 16 * s.lc.revoked) ++
      le 1 (s.getF Reg.LCS_STATUS_ATT_NEW)
  else if i = 3 then digestForm s.eAdopt (sha384 (s.header s.bale.adoptedSlot))
  else if i = 4 then digestForm (s.getF Reg.HIF_BALE_EPOCH_HUB_EPOCH) (sha384 (s.sectBytes run 1))
  else if i ≤ 12 then
    let m := i - 5
    if s.hasMeadow m then
      let e := getC 0 s.bale.mdwEpoch m
      digestForm e (sha384 (s.firmware (if e = s.bale.adoptedEpoch then s.bale.adoptedSlot else run)))
    else zeros 48
  else if i = 13 then (if s.lc.variant.hasFurrow then sha384 (s.sectBytes run 3) else zeros 48)
  else sha384 (s.sectBytes run 7)

/-- CHALLENGE: the negotiated chain, a nonce and the digest of the measurements, signed. -/
def State.spdmChallenge (s : State) (mctp : Bool) (req : Bytes) (slot : Nat) : State :=
  s.spdmNeg mctp req (fun s =>
    if slot ≠ s.signSlot then s.spdmError mctp errInvalid
    else
      let (n, s) := s.freeBytes 32
      let m := sha384 ((List.range 14).flatMap (fun i => s.measurement (i + 1)))
      let body := le 1 slot ++ sha384 (s.certChain slot) ++ n ++ m
      let (g, s) := (s.transcribe body).spdmSign
      s.reply mctp 0x03 (body ++ g))

def execSpdmChallenge (mctp : Bool) (req : Bytes) (slot : Nat) (s : State) : Res := .next (s.spdmChallenge mctp req slot)

/-- GET_MEASUREMENTS: index 0 asks how many there are, 255 for all, and any other for that block (R124). -/
def State.spdmMeasurements (s : State) (mctp : Bool) (req : Bytes) (index : Nat) (signed : Bool) : State :=
  s.spdmNeg mctp req (fun s =>
    if 14 < index && index ≠ 255 then s.spdmError mctp errInvalid
    else
      let blk (i : Nat) : Bytes := le 1 i ++ le 2 (s.measurement i).length ++ s.measurement i
      let body := if index = 0 then le 1 14 else if index = 255 then (List.range 14).flatMap (fun i => blk (i + 1)) else blk index
      let s := s.transcribe body
      if signed then
        let (g, s) := s.spdmSign
        s.reply mctp 0x60 (body ++ g)
      else s.reply mctp 0x60 body)

def execSpdmGetMeasurements (mctp : Bool) (req : Bytes) (index : Nat) (signed : Bool) (s : State) : Res :=
  .next (s.spdmMeasurements mctp req index signed)

/-! ### Sessions (R122, R125) -/

/-- Store the open sessions, with their count in the status register. -/
def State.setSessions (s : State) (l : List Session) : State :=
  { s with hif := { s.hif with spdm := { s.hif.spdm with sessions := l } } }.setF Reg.HIF_SPDM_STATUS_SESSIONS l.length

/-- End every session, with event 0x2004 where one was open (R125). -/
def State.endSessions (s : State) : State :=
  if s.hif.spdm.sessions.isEmpty then s
  else ((s.setSessions []).hifEvent Reg.HIF_EVENT_SPDM_END).post 0x2004 0 0 s.hif.spdm.sessions.length

/-- An open session. -/
def State.session (s : State) (sid : Nat) : Option Session := s.hif.spdm.sessions.find? (fun x => x.id == sid)

/-- KEY_EXCHANGE: a session opens, at most four at once; it needs the group and the AEAD negotiated. -/
def State.spdmKeyExchange (s : State) (mctp : Bool) (req : Bytes) (slot : Nat) (peer : Bytes) : State :=
  s.spdmNeg mctp req (fun s =>
    let sp := s.hif.spdm
    if !sp.dhe || !sp.aead then s.spdmError mctp errUnexpected
    else if 4 ≤ sp.sessions.length then s.spdmError mctp errSessions
    else if slot ≠ s.signSlot || peer.length ≠ 96 then s.spdmError mctp errInvalid
    else
      let (k, s) := s.freeBytes 48
      let pub := fit 96 (Config.publicOf 0x21 k)
      let x : Session := { id := sp.nextId, secret := fit 48 (Config.agree 0x21 k peer) }
      let s : State := { s with hif := { s.hif with spdm := { s.hif.spdm with nextId := sp.nextId + 1 } } }
      let s := s.setSessions (sp.sessions ++ [x])
      let body := le 2 x.id ++ pub
      let (g, s) := (s.transcribe body).spdmSign
      s.reply mctp 0x64 (body ++ g))

def execSpdmKeyExchange (mctp : Bool) (req : Bytes) (slot : Nat) (peer : Bytes) (s : State) : Res :=
  .next (s.spdmKeyExchange mctp req slot peer)

/-- The AES-256-GCM key of a session for one direction: 0 requests, 1 responses (R122, log 41). -/
def Session.key (x : Session) (dir : Nat) : Bytes := fit 32 (Config.derive 41 [x.secret, le 4 x.keyGen, le 1 dir])

/-- The content of a secured request: its tag must verify under the session's key and the number due (R122, log 41). -/
def Session.unseal (x : Session) (req : Bytes) : Option Bytes :=
  gcmOpen (x.key 0) (le 12 x.seqIn) (le 4 x.id ++ le 8 x.seqIn) req

/-- Change an open session. -/
def State.mapSession (s : State) (sid : Nat) (f : Session → Session) : State :=
  s.setSessions (s.hif.spdm.sessions.map (fun y => if y.id = sid then f y else y))

/-- Send a response inside a session, protected by AES-256-GCM (R122). -/
def State.replyIn (s : State) (mctp : Bool) (sid code : Nat) (body : Bytes) : State :=
  match s.session sid with
  | some x =>
    (s.mapSession sid (fun y => { y with seqOut := y.seqOut + 1 })).emit
      (.secured mctp sid (gcmSeal (x.key 1) (le 12 x.seqOut) (le 4 x.id ++ le 8 x.seqOut) (le 1 code ++ body)))
  | none => s.reply mctp code body

/-- A secured request of a session: one that does not open is answered with DecryptError, otherwise `f` acts on its content. -/
def State.secured (s : State) (mctp : Bool) (x : Session) (req : Bytes) (f : Bytes → State → State) : State :=
  match x.unseal req with
  | some b => f b (s.mapSession x.id (fun y => { y with seqIn := y.seqIn + 1 }))
  | none => s.spdmError mctp errDecrypt

/-- FINISH: the handshake completes where the requester's verification data is right. -/
def execSpdmFinish (mctp : Bool) (req : Bytes) (sid : Nat) (ok : Bool) (s : State) : Res :=
  .next (s.spdmNeg mctp req (fun s =>
    match s.session sid with
    | some x =>
      if x.established then s.spdmError mctp errUnexpected
      else s.secured mctp x req (fun _ s =>
        if ok then (s.replyIn mctp sid 0x65 []).mapSession sid (fun y => { y with established := true, seqIn := 0, seqOut := 0 })
        else (s.setSessions (s.hif.spdm.sessions.filter (fun y => y.id != sid))).spdmError mctp errInvalid)
    | none => s.spdmError mctp errUnexpected))

/-- A request inside an established session, whose secured message is `req`. -/
def State.inSession (s : State) (mctp : Bool) (req : Bytes) (sid : Nat) (f : Session → Bytes → State → State) : State :=
  match s.session sid with
  | some x => if x.established then s.secured mctp x req (f x) else s.spdmError mctp errUnexpected
  | none => s.spdmError mctp errUnexpected

def execSpdmHeartbeat (mctp : Bool) (req : Bytes) (sid : Nat) (s : State) : Res :=
  .next (s.spdmNeg mctp req (fun s => s.inSession mctp req sid (fun _ _ s => s.replyIn mctp sid 0x68 [])))

/-- KEY_UPDATE: after its answer both directions go on under new keys. -/
def execSpdmKeyUpdate (mctp : Bool) (req : Bytes) (sid : Nat) (s : State) : Res :=
  .next (s.spdmNeg mctp req (fun s => s.inSession mctp req sid (fun _ _ s =>
    (s.replyIn mctp sid 0x69 []).mapSession sid (fun y => { y with keyGen := y.keyGen + 1, seqIn := 0, seqOut := 0 }))))

def execSpdmEndSession (mctp : Bool) (req : Bytes) (sid : Nat) (s : State) : Res :=
  .next (s.spdmNeg mctp req (fun s => s.inSession mctp req sid (fun _ _ s =>
    let s := s.replyIn mctp sid 0x6C []
    s.setSessions (s.hif.spdm.sessions.filter (fun y => y.id != sid)))))

/-! ### Chunks and unsupported requests (R122) -/

/-- A large request, all its chunks gathered, by its request code and fields as SPDM lays them out (log 41): one that no message of more than a
transfer can be is not supported. -/
def State.spdmLarge (s : State) (mctp : Bool) (b : Bytes) : State :=
  match byteAt b 1 with
  | 0x81 => s.spdmDigests mctp b
  | 0x82 => s.spdmCertificate mctp b (byteAt b 2) (leAt b 4 2) (leAt b 6 2)
  | 0x83 => s.spdmChallenge mctp b (byteAt b 2)
  | 0xE0 => s.spdmMeasurements mctp b (byteAt b 3) (bit (byteAt b 2) 0)
  | 0xE4 => s.spdmKeyExchange mctp b (byteAt b 3) (slice b 40 96)
  | _ => s.spdmReq mctp b (fun s => s.spdmError mctp errUnsupported)

/-- CHUNK_SEND: a chunk of a large request is gathered, up to the largest message; after the last one the request itself is carried out. -/
def execSpdmChunkSend (mctp : Bool) (last : Bool) (data : Bytes) (s : State) : Res :=
  .next (s.spdmNeg mctp [] (fun s =>
    let b := s.hif.spdm.chunkIn ++ data
    let put (b : Bytes) : State := { s with hif := { s.hif with spdm := { s.hif.spdm with chunkIn := b } } }
    if spdmMax < data.length || 65536 < b.length then (put []).spdmError mctp errInvalid
    else
      let s := (put (if last then [] else b)).reply mctp 0x05 (le 4 b.length)
      if last then s.spdmLarge mctp b else s))

/-- CHUNK_GET: chunk `seq` of the large response kept. -/
def execSpdmChunkGet (mctp : Bool) (seq : Nat) (s : State) : Res :=
  .next (s.spdmNeg mctp [] (fun s =>
    let b := s.hif.spdm.large
    if b.length ≤ spdmMax * seq then s.spdmError mctp errInvalid
    else s.reply mctp 0x06 (slice b (spdmMax * seq) spdmMax)))

/-- Any request not supported: UnsupportedRequest; before the responder is ready it is Busy too (R122, R125). -/
def execSpdmUnsupportedRequest (mctp : Bool) (req : Bytes) (s : State) : Res :=
  .next (s.spdmReq mctp req (fun s => s.spdmError mctp errUnsupported))

/-! ### IDE (R126, R127) -/

def State.ide (s : State) (n : Nat) : IdeStream := getC {} s.hif.ide n
def IdeStream.subAt (x : IdeStream) (k : Nat) : IdeSub := (x.sub[k]?).getD {}

/-- The slot of a key set of a sub-stream. -/
def IdeSub.key (x : IdeSub) (kset : Nat) : Option Nat := if kset = 0 then x.k0 else x.k1

/-- Set the slot of a key set. -/
def IdeSub.setKey (x : IdeSub) (kset : Nat) (v : Option Nat) : IdeSub := if kset = 0 then { x with k0 := v } else { x with k1 := v }

/-- `HIF_IDE_STATUS` and `HIF_STATUS.IDE_INSECURE` follow the streams (R126, R127). DESIGN CHOICE (log 209): LINK_KSET shows the set in use on
sub-stream 0 of the link stream. -/
def State.refreshIde (s : State) : State :=
  let sel := (List.range 8).foldl (fun v k => if (s.ide (k + 1)).secure then setBit v k else v) 0
  (((s.setF Reg.HIF_IDE_STATUS_LINK_SECURE (b2n (s.ide 0).secure)).setF Reg.HIF_IDE_STATUS_SEL_SECURE sel).setF
    Reg.HIF_IDE_STATUS_LINK_KSET ((s.ide 0).subAt 0).cur).setF Reg.HIF_STATUS_IDE_INSECURE (b2n s.ideDrops)

def State.setIde (s : State) (n : Nat) (x : IdeStream) : State :=
  { s with hif := { s.hif with ide := setC {} s.hif.ide n x } }.refreshIde

/-- The descriptors of a queue that wait in HIF end with HOST_ACCESS_FAULT: their input or output would use an Insecure stream (R127). -/
def State.faultWaiting (s : State) (qid : Nat) : State :=
  let q := s.queue qid
  let s := (s.setQueue qid { q with waiting := [] }).unstall (.queue qid)
  q.waiting.foldl (fun (s : State) w =>
    let s := match w.pend with
      | some e => s.setPend e { s.pendE e with waiting := false }
      | none => s
    s.refuse qid w.desc.tag St.hostAccessFault) s

/-- A stream becomes Insecure: its traffic drops, fetch stops on the queues whose requests it carried, and each command in flight that
would still use it, past Drover or waiting in HIF, ends with HOST_ACCESS_FAULT (R127). -/
def State.ideInsecure (s : State) (n : Nat) : State :=
  let x := s.ide n
  let s := s.setIde n { x with secure := false, insecure := true }
  let s := (s.hifEvent Reg.HIF_EVENT_IDE_INSECURE).post 0x2003 n 0 n
  if x.carriesDma then
    let s := (s.queues.map Prod.fst).foldl State.faultWaiting s
    s.graphIds.foldl (fun s g => s.finishGraph g St.hostAccessFault none) s
  else s

/-- An IDE_KM message, inside an established session over DOE (R126, R128). -/
def State.ideKm (s : State) (req : Bytes) (sid : Nat) (f : Session → Bytes → State → State) : State :=
  s.spdmNeg false [] (fun s => s.inSession false req sid f)

/-- The answer to an IDE_KM message, in its session. -/
def State.ideReply (s : State) (sid : Nat) (body : Bytes) : State := s.replyIn false sid 0x7E body

/-- QUERY: the streams supported, with what each is doing (R126). -/
def execIdeKmQuery (req : Bytes) (sid : Nat) (s : State) : Res :=
  .next (s.ideKm req sid (fun _ _ s =>
    s.ideReply sid ((List.range 9).flatMap (fun n => le 1 n ++ le 1 (b2n (s.ide n).secure) ++ le 1 (b2n (s.ide n).insecure)))))

/-- The attribute record of an IDE key: it may be taken by the IDE engine alone (R295, R297). -/
def State.ideAttr (s : State) : Bytes :=
  let a := s.mkAttr true (usage2 'D' '0') (letter 'A') (letter 'N') (letter 'N') kvnNone 0x50 256 0
  a.take 12 ++ [0x04] ++ a.drop 13

/-- The stream, sub-stream and key set of a message exist (R126). -/
def ideNames (stream sub kset : Nat) : Bool := decide (stream < 9) && decide (sub < 3) && decide (kset < 2)

/-- KEY_PROG: the key, the content of the secured message, is decrypted inside the session and placed in a slot; a key the set held before is
released (R126). -/
def State.keyProg (s : State) (sid stream sub kset : Nat) (content : Bytes) : State :=
  if !ideNames stream sub kset then s.spdmError false errInvalid
  else
    let st := s.ide stream
    let u := st.subAt sub
    let s := match u.key kset with
      | some k => s.freeKey k
      | none => s
    match s.makeKey stewardQ 0x0A 0x50 s.ideAttr (fit 32 content) [] .none with
    | (some h, s) => (s.setIde stream { st with sub := st.sub.set sub (u.setKey kset (some (Handle.ofNat h).slot)) }).ideReply sid [0x00]
    | (none, s) => (s.setIde stream { st with sub := st.sub.set sub (u.setKey kset none) }).ideReply sid [0x01]

def execIdeKmKeyProg (req : Bytes) (sid stream sub kset : Nat) (s : State) : Res :=
  .next (s.ideKm req sid (fun _ b s => s.keyProg sid stream sub kset b))

/-- K_SET_GO: the sub-stream switches to the named set; the stream is Secure once every sub-stream runs (R126, R127). -/
def State.kSetGo (s : State) (sid stream sub kset : Nat) : State :=
  let st := s.ide stream
  let u := st.subAt sub
  if !ideNames stream sub kset || (u.key kset).isNone then s.spdmError false errInvalid
  else
    let l := st.sub.set sub { u with cur := kset, go := true }
    let all := l.all (fun v => v.go)
    (s.setIde stream { st with sub := l, secure := all, insecure := st.insecure && !all }).ideReply sid []

def execIdeKmKSetGo (req : Bytes) (sid stream sub kset : Nat) (s : State) : Res :=
  .next (s.ideKm req sid (fun _ _ s => s.kSetGo sid stream sub kset))

/-- K_SET_STOP: the set is cleared from Barrow (R126). -/
def State.kSetStop (s : State) (sid stream sub kset : Nat) : State :=
  let st := s.ide stream
  let u := st.subAt sub
  if !ideNames stream sub kset then s.spdmError false errInvalid
  else
    let s := match u.key kset with
      | some k => s.freeKey k
      | none => s
    let stops := u.go && u.cur == kset
    let u := { u.setKey kset none with go := u.go && !stops }
    (s.setIde stream { st with sub := st.sub.set sub u, secure := st.secure && !stops }).ideReply sid []

def execIdeKmKSetStop (req : Bytes) (sid stream sub kset : Nat) (s : State) : Res :=
  .next (s.ideKm req sid (fun _ _ s => s.kSetStop sid stream sub kset))

/-- An integrity check of a Secure stream fails (R127). -/
def execIdeIntegrityFailure (stream : Nat) (s : State) : Res :=
  .next (s.whenLive (fun s =>
    if (s.ide stream).secure then (s.bump Reg.HIF_IDE_STATUS_FAILS).ideInsecure stream |>.pollRestarts else s))

/-- Every stream ends and its keys are cleared, at a host reset (R127). -/
def State.ideEnd (s : State) : State :=
  let ks := s.hif.ide.flatMap (fun x => x.2.sub.flatMap (fun u => u.k0.toList ++ u.k1.toList))
  { ks.foldl State.freeKey s with hif := { s.hif with ide := [] } }.refreshIde

/-- A swale clears the keys of every stream: one that was Secure becomes Insecure (R127). -/
def State.ideSwale (s : State) : State :=
  let secure := (s.hif.ide.filter (fun x => x.2.secure)).map Prod.fst
  let s := secure.foldl State.ideInsecure s
  let s : State := (s.hif.ide.map Prod.fst).foldl (fun s n => s.setIde n { s.ide n with sub := [{}, {}, {}] }) s
  s

/-! ### MCTP (R128, R129) -/

/-- The SMBus port answers from step 3 on while it is enabled (R128). -/
def State.smb (s : State) (f : State → State) : State := s.whenLive (fun s => if s.isSet Reg.HIF_SMB_ENABLE then f s else s)

def execMctpSetEndpointId (eid : Nat) (s : State) : Res :=
  .next (s.smb (fun s => { s with hif := { s.hif with eid := eid % 256 } }.emit (.mctp 0x01 (le 1 eid))))

def execMctpGetEndpointId (s : State) : Res := .next (s.smb (fun s => s.emit (.mctp 0x02 (le 1 s.hif.eid))))

/-- Get MCTP Version Support: the spec names no version, so the four bytes are free (log 41). -/
def execMctpGetVersionSupport (s : State) : Res :=
  .next (s.smb (fun s =>
    let (b, s) := s.freeBytes 4
    s.emit (.mctp 0x04 b)))

/-- Get Message Type Support: SPDM and vendor-defined messages of PCI type (R128). -/
def execMctpGetMessageTypeSupport (s : State) : Res := .next (s.smb (fun s => s.emit (.mctp 0x05 [0x05, 0x7E])))

/-- The module answers the Alert Response Address: `SMB_ALERT_N` is released (R129). -/
def execSmbAlertResponse (s : State) : Res :=
  .next (s.smb (fun s =>
    if s.pins.smbAlertLow then
      ({ s with hif := { s.hif with alertMuted := true, alertAt := s.drv.tick } }.refreshAlert).emit (.mctp 0x0C (le 1 (s.getF Reg.HIF_SMB_ADDR)))
    else s))

/-- 1 s after its release `SMB_ALERT_N` is driven again if the condition persists (R129). -/
def execSmbAlertReassert (s : State) : Res :=
  .next (s.whenLive (fun s =>
    if s.hif.alertMuted && s.hif.alertAt + 1000000 ≤ s.drv.tick then { s with hif := { s.hif with alertMuted := false } }.refreshAlert else s))

end Sys2Proof.Machine
end

