-- ==== Sys2Proof/Machine/Commons.lean ====
section
/-! DEFINITION. The 0x0Cxx commands and the events of the Commons (spec/21). -/

namespace Sys2Proof.Machine

/-! ### What the commands share -/

/-- A join whose graph has ended is over, and the candidate stays NONE (R437). -/
def State.cmnTidy (s : State) : State :=
  match s.cmn.join with
  | some j => if (s.graph j.g).isSome then s else (s.endSess j.inv.sponsor).setCmn { (s.endSess j.inv.sponsor).cmn with join := none, waiting := [] }
  | none => s

/-- A Commons command: from the steward alone, with input of a length (R446). -/
def cmnCmd (n : Nat) (f : Graph → State → OpRes) : OpWork := fun gr s =>
  if !isSteward gr.qid then .form s St.accessDenied
  else if gr.inp.length ≠ n then .form s St.badLength
  else f gr s.cmnTidy

/-- A command of a member with its roster loaded (R436, R446). -/
def State.asMember (s : State) (r : OpRes) : OpRes := if s.root.cmn.member && s.rosterIn then r else .fail s St.stateConflict

/-! ### Founding, evidence, invitations (R437, R446) -/

/-- CMN_FOUND: the Commons ID and the roster key are drawn; the founder takes index 0 at generation 0 (log 46). -/
def cmnFound : OpWork := cmnCmd 0 (fun gr s =>
  if s.root.cmn.member || s.cmn.join.isSome then .fail s St.stateConflict
  else gr.withDraw s 48 (fun b s =>
    let s := ((s.setCmn { s.cmn with roster := [] }).putEntry 0 s.selfEntry).setF Reg.CMN_STATUS_ROSTER_LOADED 1
    let s := s.setMember { member := true, self := 0, gen := 0, id := b.take 16, rosterKey := b.drop 16, replicas := [] }
    .ok (s.setGen 0) (b.take 16)))

def execCmnFound (g : Nat) (s : State) : Res := .next (s.whenLive (fun s => s.runOp 0x0C01 g cmnFound))

/-- The measurement blocks of evidence (R124, R437). -/
def State.cmnMeas (s : State) : Bytes := (List.range 14).flatMap (fun i => s.measurement (i + 1))

/-- The evidence of this module against a nonce (R437). -/
def State.evidence (s : State) (nonce : Bytes) : Bytes × State :=
  let b := fit 192 (Config.evidenceBody { uid := s.lc.uid, pk := s.cmnPub, state := s.lc.st, meas := s.cmnMeas, nonce })
  let (g, s) := s.attSign b
  (b ++ g, s)

/-- What evidence says, where its signature verifies (R437). -/
def evidenceOk (b : Bytes) : Option CmnEvidence :=
  match Config.evidenceRead (b.take 192) with
  | some e => if verifyPure 0x51 e.pk [] (b.take 192) (slice b 192 17088) then some e else none
  | none => none

def cmnEvidence : OpWork := cmnCmd 32 (fun gr s =>
  let (b, s) := s.evidence gr.inp
  .ok s b)

def execCmnEvidence (g : Nat) (s : State) : Res := .next (s.whenLive (fun s => s.runOp 0x0C02 g cmnEvidence))

/-- CMN_INVITE: the candidate's evidence verifies, its life-cycle state is this module's, its index is free (R437). -/
def cmnInvite : OpWork := cmnCmd 17284 (fun gr s =>
  let b := gr.inp
  let i := leAt b 0 2
  if leAt b 2 2 ≠ 0 || cmnSize ≤ i then .form s St.badOperand
  else s.asMember (
    if !allZero (s.entry i) then .fail s St.stateConflict
    else match evidenceOk (b.drop 4) with
      | none => .fail s St.verifyFailed
      | some e =>
        if e.state ≠ s.lc.st then .fail s St.verifyFailed
        else
          let x := entryOf e.uid e.pk
          let body := fit 192 (Config.inviteBody { cid := s.root.cmn.id, index := i, gen := s.root.cmn.gen, sponsor := s.root.cmn.self })
          let (n, s) := s.freeBytes 32
          let (ev, s) := s.evidence n
          let (g, s) := s.attSign (body ++ ev)
          let inv : Invited := ⟨i, x, s.cairn.opTime + 3600000⟩
          .ok (s.setCmn { s.cmn with invites := s.cmn.invites.filter (fun y => y.index != i) ++ [inv] }) (body ++ ev ++ g)))

def execCmnInvite (g : Nat) (s : State) : Res := .next (s.whenLive (fun s => s.runOp 0x0C03 g cmnInvite))

/-- What an invitation says, with the sponsor's roster entry, where its signature and the sponsor's evidence verify (R437). -/
def inviteOk (b : Bytes) : Option (CmnInvite × Bytes) :=
  match Config.inviteRead (b.take 192), evidenceOk (slice b 192 17280) with
  | some i, some e =>
    if verifyPure 0x51 e.pk [] (b.take 17472) (b.drop 17472) then some (i, entryOf e.uid e.pk) else none
  | _, _ => none

/-- CMN_JOIN: the invitation is checked, a session to the sponsor opened and a join request sent; the command waits for its commit
(R437). -/
def cmnJoin : OpWork := cmnCmd 34560 (fun gr s =>
  if s.root.cmn.member then .fail s St.stateConflict
  else match s.cmn.join with
    | some j =>
      if j.g ≠ gr.order then .fail s St.stateConflict
      else if s.cmn.failed.any (fun f => f.1 == gr.order) then
        .fail ((s.setCmn { s.cmn with join := none, failed := s.cmn.failed.filter (fun f => f.1 != gr.order) })) St.verifyFailed
      else .waiting s.pump
    | none =>
      match inviteOk gr.inp with
      | none => .fail s St.verifyFailed
      | some (i, x) =>
        if cmnSize ≤ i.index || cmnSize ≤ i.sponsor then .fail s St.verifyFailed
        else
          let s := s.setCmn { s.cmn with join := some ⟨gr.order, i, x⟩, openers := s.cmn.openers ++ [(gr.order, i.sponsor)] }
          .waiting (s.send i.sponsor .join))

def execCmnJoin (g : Nat) (s : State) : Res := .next (s.whenLive (fun s => s.runOp 0x0C04 g cmnJoin))

/-! ### Leaving, expulsion, the roster image (R436, R438) -/

def cmnLeave : OpWork := cmnCmd 0 (fun _ s =>
  if !s.root.cmn.member then .fail s St.stateConflict
  else if !s.rosterIn then .ok s.cmnNone
  else if !s.changeGoes then .waiting s
  else .ok (s.change s.root.cmn.self (zeros 32)).cmnNone)

def execCmnLeave (g : Nat) (s : State) : Res := .next (s.whenLive (fun s => s.runOp 0x0C06 g cmnLeave))

def cmnExpel : OpWork := cmnCmd 4 (fun gr s =>
  let i := leAt gr.inp 0 2
  if leAt gr.inp 2 2 ≠ 0 || cmnSize ≤ i then .form s St.badOperand
  else s.asMember (
    if allZero (s.entry i) || i = s.root.cmn.self then .fail s St.stateConflict
    else if !s.relayRoom s.changePeers then .waiting s
    else .ok (s.change i (zeros 32))))

def execCmnExpel (g : Nat) (s : State) : Res := .next (s.whenLive (fun s => s.runOp 0x0C07 g cmnExpel))

/-- The header of a roster image (R436). -/
def State.imageHead (s : State) : Bytes := fit 16 s.root.cmn.id ++ le 4 s.root.cmn.gen ++ le 4 s.memberCount ++ zeros 8

/-- The nonce of a roster image (log 45). -/
def imageNonce (head : Bytes) : Bytes := fit 12 (Config.derive 52 [head.take 20])

def cmnRosterExport : OpWork := cmnCmd 0 (fun _ s =>
  s.asMember (OpRes.sealed s s.root.cmn.rosterKey (imageNonce s.imageHead) s.imageHead s.rosterBytes))

def execCmnRosterExport (g : Nat) (s : State) : Res := .next (s.whenLive (fun s => s.runOp 0x0C08 g cmnRosterExport))

/-- CMN_ROSTER_LOAD: the tag verifies and the roster is the one recorded (R436). -/
def cmnRosterLoad : OpWork := cmnCmd 524336 (fun gr s =>
  let b := gr.inp
  if !s.root.cmn.member then .fail s St.stateConflict
  else match gcmOpen s.root.cmn.rosterKey (imageNonce b) (b.take 32) (b.drop 32) with
    | none => .fail s St.verifyFailed
    | some r =>
      if leAt b 16 4 ≠ s.root.cmn.gen || sha256 r ≠ s.root.cmn.digest then .fail s St.verifyFailed
      else .ok (s.takeRoster r))

def execCmnRosterLoad (g : Nat) (s : State) : Res := .next (s.whenLive (fun s => s.runOp 0x0C09 g cmnRosterLoad))

/-! ### Sessions and relay (R439 to R441) -/

/-- CMN_SESSION_OPEN: the command waits for the session (R439). -/
def cmnSessionOpen : OpWork := cmnCmd 4 (fun gr s =>
  let p := leAt gr.inp 0 2
  if leAt gr.inp 2 2 ≠ 0 || cmnSize ≤ p then .form s St.badOperand
  else s.asMember (
    if p = s.root.cmn.self || (s.peerEntry p).isNone then .fail s St.stateConflict
    else if s.cmn.failed.contains (gr.order, p) then .fail (s.setCmn { s.cmn with failed := s.cmn.failed.filter (fun f => f != (gr.order, p)) }) St.verifyFailed
    else match s.cmnSess p with
      | some x =>
        if x.opening then .waiting (s.setCmn { s.cmn with openers := s.cmn.openers.filter (fun o => o.1 != gr.order) ++ [(gr.order, p)] })
        else .ok (s.setCmn { s.cmn with openers := s.cmn.openers.filter (fun o => o.1 != gr.order) })
      | none =>
        if cmnMax ≤ s.cmn.sess.length then .fail s St.busy
        else .waiting ((s.setCmn { s.cmn with openers := s.cmn.openers.filter (fun o => o.1 != gr.order) ++ [(gr.order, p)] }).dial p)))

def execCmnSessionOpen (g : Nat) (s : State) : Res := .next (s.whenLive (fun s => s.runOp 0x0C10 g cmnSessionOpen))

/-- CMN_RELAY_IN (R440, R441). -/
def cmnRelayIn : OpWork := fun gr s0 =>
  let b := gr.inp
  let s := s0.cmnTidy
  if !isSteward gr.qid then .form s St.accessDenied
  else if b.length < 49 || 8240 < b.length then .form s St.badLength
  else
    match s.takeMessage b with
    | (x, t) => if x = St.done then .ok t.pump else .fail t x

def execCmnRelayIn (g : Nat) (s : State) : Res := .next (s.whenLive (fun s => s.runOp 0x0C11 g cmnRelayIn))

/-- CMN_RELAY_OUT: the oldest messages of the relay queue, each behind its length (R441). -/
def cmnRelayOut : OpWork := cmnCmd 4 (fun gr s =>
  let n := byteAt gr.inp 0
  if n = 0 || 64 < n || leAt gr.inp 1 3 ≠ 0 then .form s St.badOperand
  else
    let l := s.cmn.outQ.take n
    .ok (s.setCmn { s.cmn with outQ := s.cmn.outQ.drop n }).pump (l.flatMap (fun m => le 4 m.length ++ m)))

def execCmnRelayOut (g : Nat) (s : State) : Res := .next (s.whenLive (fun s => s.runOp 0x0C12 g cmnRelayOut))

/-- A write of `CMN_PEER_SEL` (R441, R447); messages that waited for a stopped port group go by the new route (R445). -/
def State.peerSel (s : State) (val : Nat) : State :=
  let i := val % 16384
  let s := s.setF Reg.CMN_PEER_SEL_INDEX i
  if bit val 15 then (s.setCmn { s.cmn with routes := setC false s.cmn.routes i (bit val 14) }).pump else s

def execCmnPeerSelWrite (val : Nat) (s : State) : Res :=
  .next (s.whenOpen (fun s => if s.lc.variant.hasPqc then s.peerSel val else s.absentHit))

/-! ### Replicas (R442, R443) -/

/-- CMN_REPLICATE. `full`: the peer answers that its replica table is full (log 47). -/
def cmnReplicate (full : Bool) : OpWork := cmnCmd 8 (fun gr s =>
  let b := gr.inp
  let p := leAt b 2 2
  if 1 < byteAt b 4 || leAt b 5 3 ≠ 0 || cmnSize ≤ p then .form s St.badOperand
  else match masterEntry b with
    | none => .form s St.badOperand
    | some e => s.asMember (
      let m := s.master e
      let move := byteAt b 4 == 1
      if !m.present || p = s.root.cmn.self || allZero (s.entry p) || (move && (s.allot e).st != .quiesced) then .fail s St.stateConflict
      else if full then .fail s St.busy
      else match s.cmnSess p with
        | none => .waiting (s.dial p)
        | some x =>
          if x.opening then .waiting s
          else match s.sendNow x (.replica e m.gen m.id m.key) with
            | none => .waiting s
            | some t => .ok (if move then t.setCmn { t.cmn with moves := t.cmn.moves ++ [(p, m.id)] } else t)))

def execCmnReplicate (g : Nat) (full : Bool) (s : State) : Res := .next (s.whenLive (fun s => s.runOp 0x0C20 g (cmnReplicate full)))

def State.setReplicas (s : State) (l : List Replica) : State := s.setMember { s.root.cmn with replicas := l }

/-- CMN_REPLICA_BIND: the replica becomes the master of a local allotment, generation and MASTER_ID kept (R442). -/
def cmnReplicaBind : OpWork := cmnCmd 12 (fun gr s =>
  let b := gr.inp
  let a := leAt b 8 2
  if leAt b 10 2 ≠ 0 || 2048 ≤ a then .form s St.badOperand
  else match s.root.cmn.replicas.find? (fun r => r.id == b.take 8) with
    | none => .fail s St.keyAbsent
    | some r =>
      let st := (s.allot a).st
      if (s.master a).present || (st != .active && st != .quiesced) then .fail s St.stateConflict
      else
        let s := (s.setMaster a { present := true, gen := r.gen, id := r.id, key := r.key }).setReplicas (s.root.cmn.replicas.filter (fun x => x.id != r.id))
        .ok (s.send r.src (.bound r.id)) (le 2 r.gen))

def execCmnReplicaBind (g : Nat) (s : State) : Res := .next (s.whenLive (fun s => s.runOp 0x0C21 g cmnReplicaBind))

def cmnReplicaDrop : OpWork := cmnCmd 8 (fun gr s =>
  if s.root.cmn.replicas.any (fun r => r.id == gr.inp) then .ok (s.setReplicas (s.root.cmn.replicas.filter (fun r => r.id != gr.inp)))
  else .fail s St.keyAbsent)

def execCmnReplicaDrop (g : Nat) (s : State) : Res := .next (s.whenLive (fun s => s.runOp 0x0C22 g cmnReplicaDrop))

/-- The generation of a master this module holds, bound or as a replica. -/
def State.heldGen (s : State) (id : Bytes) : Option Nat :=
  match s.root.masters.find? (fun x => x.2.present && x.2.id == id) with
  | some x => some x.2.gen
  | none => (s.root.cmn.replicas.find? (fun r => r.id == id)).map Replica.gen

/-- CMN_GEN_NOTIFY: a notice to every member named (R442). -/
def cmnGenNotify : OpWork := fun gr s0 =>
  let b := gr.inp
  let s := s0.cmnTidy
  let n := byteAt b 8
  let l := (List.range n).map (fun i => leAt b (12 + 2 * i) 2)
  if !isSteward gr.qid then .form s St.accessDenied
  else if b.length < 14 || b.length ≠ 12 + 2 * n then .form s St.badLength
  else if 64 < n || leAt b 9 3 ≠ 0 || l.any (fun i => decide (cmnSize ≤ i)) then .form s St.badOperand
  else s.asMember (
    match s.heldGen (b.take 8) with
    | none => .fail s St.keyAbsent
    | some v =>
      if !s.relayRoom l then .waiting s
      else .ok (l.foldl (fun s i => s.send i (.notice (b.take 8) v)) s))

def execCmnGenNotify (g : Nat) (s : State) : Res := .next (s.whenLive (fun s => s.runOp 0x0C23 g cmnGenNotify))

/-! ### Handshakes (R439) -/

/-- The first message of the handshake store whose segments are all in: its sender, session number, TYPE and body. -/
def State.wholeHs (s : State) : Option (Nat × Nat × Nat × Bytes) :=
  s.cmn.hs.findSome? (fun h =>
    let l := s.cmn.hs.filter (fun x => x.peer == h.peer && x.num == h.num && x.type == h.type && x.last == h.last)
    let parts := (List.range (h.last + 1)).map (fun i => (l.find? (fun x => x.seg == i)).map HsSeg.body)
    if parts.all Option.isSome then some (h.peer, h.num, h.type, parts.flatMap (fun o => o.getD [])) else none)

/-- The responder's side (R439 step 2). -/
def State.takeHello (s : State) (peer num : Nat) (uid pk ek nonce sig body : Bytes) : State :=
  let mineFirst := match s.cmnSess peer with
    | some x => x.opening && x.mine && decide (s.cmnSelf < peer)
    | none => false
  if mineFirst then s
  else if !verifyPure 0x51 pk [] (uid ++ pk ++ ek ++ nonce) sig || some (entryOf uid pk) != s.peerEntry peer || ek.length ≠ 1568 then
    s.post 0xC005 peer 0 peer
  else
    let s := s.endSess peer
    if cmnMax ≤ s.cmn.sess.length then s
    else match s.draw 9 64 with
      | none => s
      | some (r, s) =>
        let (ct, z) := Config.encaps 0x41 ek (r.take 32)
        let tr := body ++ s.lc.uid ++ s.cmnPub ++ fit 1568 ct ++ r.drop 32
        let (g, s) := s.attSign tr
        let msgs := s.hsMsgs peer num (.reply s.lc.uid s.cmnPub (fit 1568 ct) (r.drop 32) g)
        if s.routeTakes peer msgs.length then
          (s.route peer msgs).openSess { peer, num, mine := false, since := s.drv.tick } (fit 32 z) tr
        else s

/-- The initiator's side (R439 step 3). -/
def State.takeReply (s : State) (peer num : Nat) (uid pk ct nonce sig : Bytes) : State :=
  match s.cmnSess peer with
  | some x =>
    if !x.opening || !x.mine || x.num ≠ num then s
    else
      let tr := x.hello ++ uid ++ pk ++ ct ++ nonce
      if !verifyPure 0x51 pk [] tr sig || some (entryOf uid pk) != s.peerEntry peer || ct.length ≠ 1568 then s.failSess peer
      else s.openSess x (fit 32 (Config.decaps 0x41 x.eph ct)) tr
  | none => s

/-- A second handshake message that is none: the attempt it belongs to ends (R439). -/
def State.badReply (s : State) (peer num : Nat) : State :=
  match s.cmnSess peer with
  | some x => if x.opening && x.mine && x.num == num then s.failSess peer else s
  | none => s

/-- HANDSHAKE_RECEIVE: a whole handshake message is checked, on cells of PQC role (R439, R446). -/
def State.handshake (s : State) : State :=
  let s := s.cmnTidy.intake
  match s.wholeHs with
  | none => s
  | some (peer, num, type, body) =>
    if !s.roleUp 3 then s
    else
      let s := s.setCmn { s.cmn with hs := s.cmn.hs.filter (fun h => !(h.peer == peer && h.num == num && h.type == type)) }
      match Config.cmnRead type body with
      | some (.hello uid pk ek nonce sig) => if type = 1 then s.takeHello peer num uid pk ek nonce sig body else s.badReply peer num
      | some (.reply uid pk ct nonce sig) => if type = 2 then s.takeReply peer num uid pk ct nonce sig else s.post 0xC005 peer 0 peer
      | _ => if type = 2 then s.badReply peer num else s.post 0xC005 peer 0 peer

def execHandshakeReceive (s : State) : Res := .next (s.whenLive State.handshake)

/-! ### Messages (R437, R438, R441 to R443) -/

/-- Act on the first message of the inbox that passes a test, while a roster is loaded or a join runs (R436). -/
def State.onMessage (s : State) (p : CmnMsg → Bool) (f : CmnIn → State → State) : State :=
  let s := s.cmnTidy.intake
  match s.takeInbox p with
  | some (x, s) => if (s.peerEntry x.peer).isSome then f x s else s
  | none => s

def execHeartbeatReceive (s : State) : Res :=
  .next (s.whenLive (fun s => (s.onMessage (fun m => m == .heartbeat) (fun _ s => s)).pump))

/-- The sponsor admits its candidate (R437 step 4). -/
def execJoinRequestReceive (s : State) : Res :=
  .next (s.whenLive (fun s => s.onMessage (fun m => m == .join) (fun x s =>
    match s.cmn.invites.find? (fun i => i.index == x.peer && decide (s.cairn.opTime ≤ i.until_)) with
    | some i =>
      let s := s.setCmn { s.cmn with invites := s.cmn.invites.filter (fun y => y.index != i.index), admits := s.cmn.admits ++ [(i.index, i.entry)] }
      s.change i.index i.entry
    | none => s)))

/-- The roster no longer holds this module, whose generation was `own`: it was expelled, or the admission it joined by was discarded, event
0xC004 (R438). -/
def State.stillIn (s : State) (own : Nat) : State :=
  if s.entry s.root.cmn.self = s.selfEntry then s
  else (if s.cmn.admitted = some own then s.post 0xC004 s.root.cmn.self 0 s.root.cmn.gen else s).cmnNone

/-- Two updates of one generation (R438). -/
def State.conflict (s : State) (i : Nat) : State := (s.setF Reg.CMN_EVENT_ROSTER_CONFLICT 1).post 0xC003 i 0 s.root.cmn.gen

/-- A roster update from a peer (R438). -/
def State.takeUpdate (s : State) (p g k i : Nat) (b digest : Bytes) : State :=
  let own := s.root.cmn.gen
  if g = own + 1 then
    let t := s.applyChange g k i b
    if t.root.cmn.digest = digest then ((t.tellAll (some p) (.update g k i b digest)).dropLeft i).stillIn own else s.send p .request
  else if own < g then s.send p .request
  else match s.cmn.last with
    | some l =>
      if g ≠ own || l.gen ≠ g || (l.keeper = k && l.index = i && l.entry = b) then s
      else if k < l.keeper then
        let t := ((s.putEntry l.index l.old).applyChange g k i b).conflict l.index
        (((t.tellAll (some p) (.update g k i b digest)).dropLeft i).dropLeft l.index).stillIn own
      else s.conflict i
    | none => s

/-- ROSTER_UPDATE_RECEIVE: an update, or a change on its way to the keeper (R438). -/
def execRosterUpdateReceive (s : State) : Res :=
  .next (s.whenLive (fun s => s.onMessage (fun m => match m with
    | .update .. => true
    | .change .. => true
    | _ => false) (fun x s =>
    match x.msg with
    | .update g k i b d => s.takeUpdate x.peer g k i b d
    | .change i b => if allZero b || allZero (s.entry i) then s.change i b else s
    | _ => s)))

def execRosterRequestReceive (s : State) : Res :=
  .next (s.whenLive (fun s => s.onMessage (fun m => m == .request) (fun x s => s.send x.peer (.roster s.root.cmn.gen s.rosterBytes))))

/-- The join commits: membership is recorded and CMN_JOIN completes with `DONE` (R437 step 5). -/
def State.joined (s : State) (j : Joining) (gen : Nat) (image : Bytes) : State :=
  let t := s.takeRoster image
  if t.entry j.inv.index = t.selfEntry then
    let (k, t) := t.freeBytes 32
    let t := t.setMember { member := true, self := j.inv.index, gen, id := fit 16 j.inv.cid, digest := sha256 image, rosterKey := k }
    let t := (t.setCmn { t.cmn with join := none, admitted := some gen }).setF Reg.CMN_EVENT_ROSTER_CHANGE 1
    match t.graph j.g, t.openNode j.g with
    | some gr, some n => t.setGraph j.g (some { gr.setNode n { gr.node n with verdict := some St.done } with committed := true })
    | _, _ => t
  else ((s.endSess j.inv.sponsor).setCmn { (s.endSess j.inv.sponsor).cmn with join := none }).post 0xC004 j.inv.index 0 gen

/-- A full roster of a later generation is applied; sessions with peers it no longer holds end (R438, R439). -/
def State.rosterTaken (s : State) (gen : Nat) (image : Bytes) : State :=
  let t := (s.takeRoster image).setGen gen
  (t.cmn.sess.map CmnSess.peer).foldl (fun (t : State) p => if (t.peerEntry p).isSome then t else t.endSess p)
    (t.setCmn { t.cmn with last := none }).sendAdmits

/-- ROSTER_SEGMENT_RECEIVE: a roster that is whole is applied, or the join commits (R437, R438). -/
def execRosterSegmentReceive (s : State) : Res :=
  .next (s.whenLive (fun s => s.onMessage (fun m => match m with
    | .roster .. => true
    | _ => false) (fun x s =>
    match x.msg, s.cmn.join with
    | .roster gen image, some j => s.joined j gen image
    | .roster gen image, none =>
      if s.root.cmn.gen < gen then (s.rosterTaken gen image).stillIn s.root.cmn.gen else s
    | _, _ => s)))

/-- REPLICA_RECEIVE: stored as an unbound replica; one of the same MASTER_ID is replaced (R442). -/
def execReplicaReceive (s : State) : Res :=
  .next (s.whenLive (fun s => s.onMessage (fun m => match m with
    | .replica .. => true
    | _ => false) (fun x s =>
    match x.msg with
    | .replica a gen id key =>
      let l := s.root.cmn.replicas.filter (fun r => r.id != fit 8 id)
      if l.length < 192 then (s.setReplicas (l ++ [⟨x.peer, a, gen, fit 8 id, key⟩])).setF Reg.CMN_EVENT_REPLICA_IN 1 else s
    | _ => s)))

/-- GEN_NOTICE_RECEIVE: a higher generation is adopted under R312, for a bound master and for a replica (R442). -/
def execGenNoticeReceive (s : State) : Res :=
  .next (s.whenLive (fun s => s.onMessage (fun m => match m with
    | .notice .. => true
    | _ => false) (fun x s =>
    match x.msg with
    | .notice id gen =>
      let s := s.setReplicas (s.root.cmn.replicas.map (fun r => if r.id = fit 8 id && r.gen < gen then { r with gen } else r))
      let es := s.root.masters.filterMap (fun m => if m.2.present && m.2.id == fit 8 id && decide (m.2.gen < gen) then some m.1 else none)
      es.foldl (fun s e => ((s.setMaster e { s.master e with gen }).invalidate { root := .master e }).post 0x6002 e 0 e) s
    | _ => s)))

/-- BIND_ACK_RECEIVE: the move is done (R443). -/
def execBindAckReceive (s : State) : Res :=
  .next (s.whenLive (fun s => s.onMessage (fun m => match m with
    | .bound .. => true
    | _ => false) (fun x s =>
    match x.msg with
    | .bound id =>
      if s.cmn.moves.contains (x.peer, id) then
        ((s.setCmn { s.cmn with moves := s.cmn.moves.erase (x.peer, id) }).setF Reg.CMN_EVENT_MOVE_DONE 1).post 0xC007 x.peer 0 x.peer
      else s
    | _ => s)))

/-! ### Timers (R441) -/

/-- HEARTBEAT_TIMER: a session sends its heartbeat and the timer is set again. -/
def State.heartbeat (s : State) (peer : Nat) : State :=
  if s.isDue (.cmn 0 peer) then
    let s := (s.dropTimer (.cmn 0 peer))
    match s.cmnSess peer with
    | some x =>
      let s := (s.timer 5 (s.drv.tick + 1000 * s.getF Reg.CMN_CFG_HB_MS) (.cmn 0 peer)).2
      ((s.sendNow { x with beat := s.drv.tick } .heartbeat).getD s).pump
    | none => s
  else s

def execHeartbeatTimer (peer : Nat) (s : State) : Res := .next (s.whenLive (fun s => s.heartbeat peer))

/-- PEER_TIMEOUT: nothing came for five intervals: the peer is UNREACHABLE (R441); an attempt that got no answer ends (R439). -/
def State.peerTimeout (s : State) (peer : Nat) : State :=
  if s.isDue (.cmn 1 peer) then
    let s := s.dropTimer (.cmn 1 peer)
    let w := 5000 * s.getF Reg.CMN_CFG_HB_MS
    match s.cmnSess peer with
    | some x =>
      if x.opening then s.failSess peer
      else if x.heard + w ≤ s.drv.tick then
        let s := (s.timer 5 (s.drv.tick + w) (.cmn 1 peer)).2
        if x.lost then s
        else ((s.putSess { x with lost := true }).setF Reg.CMN_EVENT_PEER_LOST 1).post 0xC006 peer 0 peer
      else (s.timer 5 (x.heard + w) (.cmn 1 peer)).2
    | none => s
  else s

def execPeerTimeout (peer : Nat) (s : State) : Res := .next (s.whenLive (fun s => s.peerTimeout peer))

end Sys2Proof.Machine
end

