-- ==== Sys2Proof/Machine/Custodian.lean ====
section
/-! DEFINITION. The custodian commands and the events of the pending table (spec/08). -/

namespace Sys2Proof.Machine

/-- The length a record of a signature algorithm has (R160). -/
def approvalLen (alg : Nat) : Nat := if alg = 1 then 7896 else 3349

/-- The entry a request digest names (R161, R167). -/
def State.pendByDigest (s : State) (dg : Bytes) : Option Nat :=
  (List.range 64).find? (fun e => (s.pendE e).st != 0 && (s.pendE e).digest == dg)

/-- Store an approval unverified (R161). -/
def State.storeApproval (s : State) (e : Nat) (a : Approval) : State :=
  let p := s.pendE e
  s.setPend e { p with approvals := p.approvals ++ [a] }

/-- A verified reject counts, and beyond n − k rejects the entry becomes REJECTED (R161). -/
def State.storeReject (s : State) (e slot : Nat) : State :=
  let p := s.pendE e
  let r := setBit p.rejects slot
  let s := s.setPend e { p with rejects := r }
  if s.nMembers p.cls - s.kEff p.cls < popCount 16 r then (s.reject e).post 0xD004 e p.opcode p.cls else s

/-- CUS_LODGE (R161): the checks in their order. A reject is verified at once, an ML-DSA-65 one in a further node of the command's graph (R162). -/
def cusLodge : OpWork := fun gr s =>
  let b := gr.inp
  let slot := byteAt b 4
  let verdict := byteAt b 5
  let alg := byteAt b 6
  if b.length < 0x28 || ((alg = 1 || alg = 2) && b.length ≠ approvalLen alg) then .fail s St.badLength
  else if b.take 4 ≠ magic 0x45 0x5A 0x41 0x50 || 15 < slot || (verdict ≠ 1 && verdict ≠ 2) || (alg ≠ 1 && alg ≠ 2) || byteAt b 7 ≠ 0 then
    .fail s St.badOperand
  else
    match s.pendByDigest (slice b 8 32) with
    | none => .fail s St.requestUnknown
    | some e =>
      let p := s.pendE e
      let cand := p.enrolSlot == some slot && (s.cus slot).st != 1 && verdict == 1 && alg == p.enrolAlg
      let member := (s.cus slot).st == 1 && bit (s.cls p.cls).members slot && (s.cus slot).alg == alg
      if p.st = 3 then .fail s St.requestUnknown
      else if !cand && !member then .fail s St.badOperand
      else if p.approvals.any (fun a => a.slot == slot) || bit p.rejects slot then .fail s St.approvalDuplicate
      else if verdict = 1 then .ok (s.storeApproval e ⟨slot, alg, b.take 0x28, b.drop 0x28⟩)
      else if alg = 2 && !gr.verified then .verifying s
      else if verifyPure (cusSet alg) (s.cus slot).pk [] (b.take 0x28) (b.drop 0x28) then .ok (s.storeReject e slot)
      else .fail ((s.bump Reg.CUS_BAD_SIG_COUNT).setF Reg.CUS_EVENT_BAD_SIG 1) St.verifyFailed

def execCusLodge (g : Nat) (s : State) : Res := .next (s.whenLive (fun s => s.runOp 0x0F01 g cusLodge))

/-- CUS_CANCEL (R167). -/
def cusCancel : OpWork := fun gr s =>
  if gr.inp.length ≠ 32 then .fail s St.badLength
  else match s.pendByDigest gr.inp with
    | none => .fail s St.requestUnknown
    | some e => if (s.pendE e).st = 2 then .fail s St.busy else .ok (s.freePend e)

def execCusCancel (g : Nat) (s : State) : Res := .next (s.whenLive (fun s => s.runOp 0x0F02 g cusCancel))

/-- The length of a custodian key of an algorithm (R153). -/
def cusKeyLen (alg : Nat) : Nat := if alg = 1 then 32 else 1952

/-- CUS_ENROL (R164). -/
def cusEnrol : OpWork := fun gr s =>
  let b := gr.inp
  let slot := byteAt b 0
  let alg := byteAt b 1
  if b.length < 4 || ((alg = 1 || alg = 2) && b.length ≠ 4 + cusKeyLen alg) then .fail s St.badLength
  else if 15 < slot || (alg ≠ 1 && alg ≠ 2) || leAt b 2 2 ≠ 0 || (s.cus slot).st = 1 then .fail s St.badOperand
  else .ok ((s.setCus slot ⟨1, alg, b.drop 4⟩).post 0xD006 slot alg 0)

def execCusEnrol (g : Nat) (s : State) : Res := .next (s.whenLive (fun s => s.runOp 0x0F03 g cusEnrol))

/-- The module without a slot's key, member bits and verdicts (R165). -/
def State.revokeSlot (s : State) (slot : Nat) : State :=
  let s := s.setCus slot ⟨2, 0, []⟩
  let s := (List.range 6).foldl (fun s c => s.setCls c { s.cls c with members := clrBit (s.cls c).members slot }) s
  (List.range 64).foldl (fun s e =>
    let p := s.pendE e
    if p.st = 0 then s
    else s.setPend e { p with
      approvals := p.approvals.filter (fun a => a.slot != slot), rejects := clrBit p.rejects slot
      verified := clrBit p.verified slot }) s

/-- CUS_REVOKE: refused where it would leave any class with fewer enrolled members than its effective threshold, the classes that do not hold the
slot among them (R165, log 23). -/
def cusRevoke : OpWork := fun gr s =>
  let b := gr.inp
  let slot := byteAt b 0
  if b.length ≠ 4 then .fail s St.badLength
  else if 15 < slot || leAt b 1 3 ≠ 0 || (s.cus slot).st ≠ 1 then .fail s St.badOperand
  else if (List.range 6).any (fun c => decide (s.nMembers c - b2n (bit (s.cls c).members slot) < s.kEff c)) then .fail s St.badOperand
  else .ok ((s.revokeSlot slot).post 0xD007 slot 0 0)

def execCusRevoke (g : Nat) (s : State) : Res := .next (s.whenLive (fun s => s.runOp 0x0F04 g cusRevoke))

/-- CUS_SET_CLASS (R166). -/
def cusSetClass : OpWork := fun gr s =>
  let b := gr.inp
  let c := byteAt b 0
  let k := byteAt b 1
  let mem := leAt b 2 2
  if b.length ≠ 8 then .fail s St.badLength
  else if 5 < c || leAt b 4 4 ≠ 0 || mem &&& s.enrolled ≠ mem || k = 0 || popCount 16 mem < k || (s.lc.st = 2 && k < 2) then
    .fail s St.badOperand
  else
    let s := s.setCls c ⟨mem, k⟩
    let s := (List.range 64).foldl (fun s e =>
      if ((s.pendE e).st = 1 || (s.pendE e).st = 2) && (s.pendE e).cls = c then s.reject e else s) s
    .ok ((s.setF Reg.CUS_EVENT_CLASS_CHANGED 1).post 0xD008 c k mem)

def execCusSetClass (g : Nat) (s : State) : Res := .next (s.whenLive (fun s => s.runOp 0x0F05 g cusSetClass))

/-- CUS_READ_SLOT (R169). -/
def cusReadSlot : OpWork := fun gr s =>
  let b := gr.inp
  let slot := byteAt b 0
  if b.length ≠ 4 then .fail s St.badLength
  else if 15 < slot || leAt b 1 3 ≠ 0 then .fail s St.badOperand
  else .ok s (le 1 (s.cus slot).st ++ le 1 (s.cus slot).alg ++ zeros 2 ++ (s.cus slot).pk)

def execCusReadSlot (g : Nat) (s : State) : Res := .next (s.whenLive (fun s => s.runOp 0x0F06 g cusReadSlot))

/-- Verification of one stored approval completes (R163). -/
def execApprovalVerifyComplete (e mis : Nat) (s : State) : Res :=
  .next (s.whenLive (fun s => (s.verifyNext e mis).pollRestarts))

/-- A pending entry reaches the end of its life (R159); one being verified is freed only if it returns to PENDING (R168). -/
def State.expirePend (s : State) (e : Nat) : State :=
  let p := s.pendE e
  if p.st ≠ 0 && p.st ≠ 2 && p.expiry < s.cairn.opTime then s.lapsePend e else s

def execPendingEntryExpire (e : Nat) (s : State) : Res := .next (s.whenLive (fun s => s.expirePend e))

end Sys2Proof.Machine
end

