-- ==== Sys2Proof/Machine/LcOps.lean ====
section
/-! DEFINITION. The life cycle's fuses (R87 to R99): triples and their decoding, the rows of a transition, the nonce, refusals; and the
end of a Stile authorisation (R101). -/

namespace Sys2Proof.Machine

/-! ### Triples and states (R94, R96, R97) -/

/-- A row with all 32 bits blown. -/
def allOnes : Nat := 0xFFFFFFFF

/-- The target code of a state: 1 Test, 2 Production, 3 End of Life (R96). -/
def targetCode (st : Nat) : Nat := if st = 1 then 0x0F0F0F0F else if st = 2 then 0x33333333 else 0xFFFFFFFF

/-- The transitions that exist (R94). -/
def permitted (st target : Nat) : Bool :=
  (st == 0 && (target == 1 || target == 3)) || (st == 1 && (target == 2 || target == 3)) || (st == 2 && target == 3)

/-- The state a target row names, where it is one permitted from a state. -/
def targetOf (st code : Nat) : Option Nat := ([1, 2, 3] : List Nat).find? (fun t => permitted st t && targetCode t == code)

/-- The decoding of the triples in order (R97): 0 Blank, 1 Test, 2 Production, 3 End of Life, 4 Lost. -/
def decodeFuses : List Triple → Nat → Nat
  | [], st => st
  | t :: rest, st =>
    if t.intent = 0 then st
    else if t.commit ≠ allOnes then 4
    else
      match targetOf st t.target with
      | none => 4
      | some x => if x = 3 then 3 else decodeFuses rest x

/-- The triples in order. -/
def LifeCycle.triples (l : LifeCycle) : List Triple := [l.t1, l.t2, l.t3]

/-- The life-cycle state the fuses give (R97). -/
def LifeCycle.decoded (l : LifeCycle) : Nat := decodeFuses l.triples 0

/-- Triple `t`, 1 to 3. -/
def LifeCycle.triple (l : LifeCycle) (t : Nat) : Triple := if t = 1 then l.t1 else if t = 2 then l.t2 else l.t3

def LifeCycle.setTriple (l : LifeCycle) (t : Nat) (x : Triple) : LifeCycle :=
  if t = 1 then { l with t1 := x } else if t = 2 then { l with t2 := x } else { l with t3 := x }

/-- Put a value into the row of a stage: 0 intent, 1 target, 2 commit. -/
def Triple.setRow (x : Triple) (stage v : Nat) : Triple :=
  if stage = 0 then { x with intent := v } else if stage = 1 then { x with target := v } else { x with commit := v }

/-- The value a row of a transition takes (R96). -/
def rowValue (stage target : Nat) : Nat := if stage = 1 then targetCode target else allOnes

def State.setLc (s : State) (l : LifeCycle) : State := { s with lc := l }

/-! ### Phases, refusals and the nonce (R93, R95) -/

def State.phase (s : State) : Nat := s.getF Reg.LCS_STATUS_PHASE
def State.setPhase (s : State) (p : Nat) : State := s.setF Reg.LCS_STATUS_PHASE p

/-- Case 2 of R95: a transition or another fuse write is under way, or one stopped by FUSE_FAIL or committed awaits reset. -/
def State.lcBusy (s : State) : Bool := s.phase != 0 || s.lc.job.isSome || s.isSet Reg.LCS_STATUS_EOL_PENDING

/-- Phase INTENT, TARGET or COMMIT (R95). -/
def State.inRows (s : State) : Bool := decide (2 ≤ s.phase) && decide (s.phase ≤ 4)

/-- Report a refusal (R95, R104). -/
def State.lcRefuse (s : State) (x : Nat) : State := s.setF Reg.LCS_STATUS_REFUSE x

def refLcPower : Nat := 1
def refNotPermitted : Nat := 2
def refNoSigner : Nat := 3
def refInProgress : Nat := 4
def refEntropy : Nat := 5
def refSlotUsed : Nat := 6

/-- The first of the cases 1 to 3 of R95 that holds. -/
def State.lcRefusal (s : State) (ok : Bool) : Option Nat :=
  if !s.lcPower then some refLcPower
  else if s.lcBusy then some refInProgress
  else if !ok then some refNotPermitted
  else none

/-- Random numbers are there for the nonce and the attestation key (R93). -/
def State.entropyReady (s : State) : Bool := s.isSet Reg.HIF_STATUS_ENTROPY_READY

/-- The nonce is drawn where there is none and random numbers are there (R93). -/
def State.drawNonce (s : State) : State :=
  if s.lc.nonce.isEmpty then
    match s.draw 9 16 with
    | some (b, t) => (t.setLc { t.lc with nonce := b }).unstall .hub
    | none => if s.entropyReady then s.stall .hub else s
  else s

/-- Replace the nonce; while its read of random numbers stalls there is none, and it reads zero and serves no command (R93, log 220). -/
def State.newNonce (s : State) : State := (s.setLc { s.lc with nonce := [] }).drawNonce

/-- The nonce registers (R93). -/
def State.nonce (s : State) : Bytes := if s.entropyReady then fit 16 s.lc.nonce else zeros 16

/-! ### A transition's phases (R96, R99) -/

/-- The check of a transition begins (R96 step 1): event 0x0001. -/
def State.beginCheck (s : State) (target : Nat) (g : Option Nat) : State :=
  ((s.setLc { s.lc with check := some (target, g) }).setPhase 1).post 0x0001 target target 0

/-- A transition leaves its check without a row written; a pending attestation key is discarded (R99). -/
def State.endCheck (s : State) : State := (s.setLc { s.lc with check := none, attPending := none }).setPhase 0

/-- The rows of a transition begin (R96 step 2), under the P3 hold of R60 on the low-input path. -/
def State.beginRows (s : State) (target : Nat) (g : Option Nat) : State :=
  ((s.setLc { s.lc with check := none, retried := false, job := some (.row (s.lc.st + 1) 0 target g) }).setPhase 2).fuseHold

/-- Another fuse write begins. -/
def State.beginFuse (s : State) (j : FuseJob) : State := (s.setLc { s.lc with job := some j }).fuseHold

/-- A fuse write ends. -/
def State.endFuse (s : State) : State := (s.setLc { s.lc with job := none }).fuseRelease

/-- The verdict of a graph that is past its commit point becomes FAULT_DETECTED (R96). -/
def State.failJob (s : State) (g : Nat) : State :=
  match s.graph g with
  | some gr => s.setGraph g (some { gr.setNode gr.sink { gr.node gr.sink with verdict := some St.faultDetected } with out := [] })
  | none => s

/-- A row of a transition fails a second time (R96): it holds whatever its programming left, with some bit blown in an intent row and
some bit of a commit row unblown, so that the next start finds the unit Lost. -/
def State.rowFails (s : State) (t stage : Nat) (g : Option Nat) : State :=
  let (v, s) := s.free
  let v := if stage = 0 then 1 + v % 0xFFFFFFFE else if stage = 1 then v % 2 ^ 32 else v % 0xFFFFFFFF
  let s := ((s.setLc (s.lc.setTriple t ((s.lc.triple t).setRow stage v))).setF Reg.LCS_STATUS_FUSE_FAIL 1).endFuse
  match g with
  | some g => s.failJob g
  | none => s

/-- A row of a transition is programmed and read back (R96): the next one follows, or the transition awaits its reset. -/
def State.rowDone (s : State) (t stage target : Nat) (g : Option Nat) : State :=
  let s := s.setLc { s.lc.setTriple t ((s.lc.triple t).setRow stage (rowValue stage target)) with retried := false }
  if stage < 2 then (s.setLc { s.lc with job := some (.row t (stage + 1) target g) }).setPhase (stage + 3)
  else (((s.endFuse).setPhase 5).setF Reg.LCS_STATUS_PENDING_TARGET target).post 0x0002 target target 0

/-! ### Stile (R101) -/

/-- Stile needs no token (R101). -/
def State.stileFree (s : State) : Bool := s.lc.st != 2

/-- The authorisation ends: the token's scope closes. -/
def State.stileEnd (s : State) : State :=
  if s.isSet Reg.STL_STATUS_AUTHORISED then
    (((((s.dropTimer .stile).setF Reg.STL_STATUS_AUTHORISED 0).setF Reg.STL_STATUS_OPEN (b2n s.stileFree)).setF Reg.STL_STATUS_SCOPE 0).setF
      Reg.STL_EXPIRY_LO_TIME 0).setF Reg.STL_EXPIRY_HI_TIME 0
  else s

end Sys2Proof.Machine
end

