-- ==== Sys2Proof/Machine/Swale.lean ====
section
/-! DEFINITION. Gorse's responses (R26, R27, R403 to R409, R416): what a swale clears, what a swale or Halt abandons, and a trip. -/

namespace Sys2Proof.Machine

/-! ### What a swale or Halt abandons (R27, R199) -/

/-! The record of an abandoned action has the unit's number as its key and value. Its detail names the action by the code of the command that
begins it: QUIESCE 2; RESTART 1, FALLOW 2, RETURN 3 of a meadow; 0x100 more than FALLOW 1, RETURN 2 of a cell, and 0x103 for its periodic test;
ENTER_S2 1, ENTER_S3 2, WAKE 3; STOP 1, START 2 of a port group, and 3 for its held START (R27, log 212). -/

/-- An allotment quiesce is abandoned: the allotment is ACTIVE again (R27). -/
def State.abandonAllot (s : State) (a : Nat) : State :=
  let x := s.allot a
  if x.st == .quiescing || x.st == .pendingEnable then
    ((s.setAllot a { x with st := .active }).post 0x3006 a 2 a).altEnd a St.aborted
  else s

/-- A cell caught in its drain or test is left FALLOW with cause STEWARD (R199). -/
def State.abandonCell (s : State) (c : Nat) : State :=
  let s := (s.takeFallow c 0).clearGoal c
  (s.requeue (2 * c)).requeue (2 * c + 1)

/-- A meadow restart, drain or test is abandoned: the meadow is left FALLOW (R199). A restart that still waits is given up. Before full service
a meadow reads TESTING with no test of its own in progress (R171). -/
def State.abandonMeadow (s : State) (m : Nat) : State :=
  let code := if s.mdwGoal m == .restart then 1 else if s.mdwState m = 1 then 2 else 3
  let quit (s : State) : State :=
    let s : State := { s with drv := { s.drv with
      mdwGoal := setC .none s.drv.mdwGoal m .none, mdwDrain := setC 0 s.drv.mdwDrain m 0
      mdwAuto := if s.drv.mdwAuto == some m then none else s.drv.mdwAuto } }
    (s.endServe m).post 0x5007 m code m
  if !s.service then s
  else if s.restartWaits m then quit s
  else if s.mdwState m = 0 || s.mdwState m = 5 then s
  else quit (((cellsOf m).filter (fun c => s.cellState c != 3)).foldl State.abandonCell (s.setMdw m 5))

/-- A single cell's drain or test is abandoned (R199). -/
def State.abandonOne (s : State) (c : Nat) : State :=
  let st := s.cellState c
  let code := if s.cellRole c = 6 || getC .none s.drv.cellGoal c == .retest then 0x103 else if st = 1 then 0x101 else 0x102
  if s.service && s.mdwState (meadowOf c) = 0 && st != 0 && st != 3 then ((s.abandonCell c).setPrior c 0).post 0x5007 c code c else s

/-- A sleep transition is abandoned: the meadow is powered up and reloaded as at a wake from S3, which ends with its own event; a held wake is
dropped (R68). What a wake from S3 under way restores stays saved. -/
def State.abandonSleep (s : State) (m : Nat) : State :=
  let st := s.sleepState m
  let code := if st = 5 then 3 else if s.deep m then 2 else 1
  if st = 1 || st = 3 || st = 5 || st = 6 then
    let s := if st = 5 && s.deep m then s else s.saveMeadow m
    (s.reloadAsS3 m).post 0x1008 m code m
  else s

/-- A transition in its check phase is abandoned, event 0x0004 (R99). -/
def State.abandonCheck (s : State) : State :=
  match s.lc.check with
  | some (t, _) => s.endCheck.post 0x0004 t t 0
  | none => s

/-- Every service action in progress is abandoned (R27). A command of Drover that read in progress ends with ABORTED. -/
def State.abandon (s : State) : State :=
  let ms := (List.range 8).filter s.hasMeadow
  let s := (s.allots.map Prod.fst).foldl State.abandonAllot s
  let s := ms.foldl State.abandonMeadow s
  let s := s.cells.foldl State.abandonOne s
  let s := ms.foldl State.abandonSleep s
  let s := if s.isSet Reg.DRV_RESULT_IN_PROGRESS then s.drvResult St.aborted else s
  let s : State := { s with bale := { s.bale with expiryNext := s.bale.expiryNext.map (fun _ => 8) } }
  s.pgAbandon.cmnAbandon

/-! ### What a swale clears (R405) -/

/-- Every graph before its commit point ends with ABORTED (R216, R217). -/
def State.abortGraphs (s : State) : State :=
  s.graphIds.foldl (fun (s : State) g =>
    match s.graph g with
    | some gr => if gr.committed then s else s.finishGraph g St.aborted none
    | none => s) s

/-- The pending table is freed (R168); descriptors that wait begin their exchange anew. -/
def State.clearPends (s : State) : State :=
  { s with
    pends := []
    queues := s.queues.map (fun x => (x.1, { x.2 with waiting := x.2.waiting.map (fun w => { w with pend := none }) }))
    drv := { s.drv with timers := s.drv.timers.filter (fun t => match t.owner with
      | .pend _ => false
      | _ => true) } }

/-- Diverted frames and rekeys on ready lists and in slots are lost with the operand memories. -/
def State.clearFrames (s : State) : State :=
  let frame (w : Work) : Bool := match w with
    | .node _ _ => false
    | _ => true
  let ks := s.drv.slots.filterMap (fun x => match x.2 with
    | some e => if frame e.work then some x.1 else none
    | none => none)
  ks.foldl State.freeSlot (s.dropReady frame)

/-- Running invalidations come to their end with the slots they were to clear (R312). -/
def State.endInvals (s : State) : State := (List.range (3 * s.bar.inval.length)).foldl (fun (s : State) _ => s.invalStep) s

/-- The retained SRAM of every meadow in S2 is cleared in place (R67). -/
def State.wipeSleepers (s : State) : State :=
  (List.range 8).foldl (fun (s : State) m =>
    if s.sleepState m = 2 then { s with pwr := { s.pwr with wiped := setC false s.pwr.wiped m true } } else s) s

/-- The clearing of a Swale-W (R405), with what it abandons. -/
def State.clearW (s : State) : State :=
  let s := (s.abortGraphs).endAborts.clearFrames.clearPends
  let s := (if s.lc.check.map Prod.fst == some 2 then s.abandonCheck else s).abandon
  let s := (s.ideSwale.cmnDown.endInvals).clearKeys.thaClear.furrowSwale.skyRecover
  let s : State := { s with drv := { s.drv with copies := [], oram := [], units := [] } }.refreshBp.wipeSleepers
  ((s.allots.map Prod.fst).foldl State.loseLog s).stileEnd.endSessions

/-- The clearing a Swale-R adds: the root store (R318, R405). -/
def State.clearR (s : State) : State :=
  let era := if s.root.root.isSome then some s.root.era else s.bar.lastEra
  ({ s with root := {}, lc := { s.lc with attPending := none }, bar := { s.bar with lastEra := era, recovering := false } }.setF
    Reg.BAR_STATUS_ROOT_OPEN 0).setF Reg.BAR_STATUS_ROOT_NEW 0

/-- A swale begins, or one in progress is extended; no clearing is repeated (R405, R409). A swale that a monitor asks for abandons a transition
in its check phase, the one to End of Life too, whose own Swale-R does not (R96, R99). -/
def State.beginSwale (s : State) (kind mon resp : Nat) : State :=
  let s := if mon = 0xFF then s else s.abandonCheck
  let put (s : State) : State := { s with gorse := { s.gorse with swale := some ⟨kind, mon, resp⟩ } }
  match s.gorse.swale with
  | none =>
    let s := ((put s).setF Reg.GOR_STATUS_SWALE_BUSY 1).clearW
    if kind = 2 then s.clearR else s
  | some w =>
    if w.kind < kind then (put s).clearR
    else if w.kind = kind && w.mon = 0xFF && mon ≠ 0xFF then put s
    else s

/-! ### Memory tests (R88) -/

/-- What a memory held before a test overwrote it is gone: the lines of a stack hold free bytes, the operand RAM of a cell none, and the
root store is lost (R88, log 219). -/
def State.overwrite (s : State) (mem : TestMem) : State :=
  match mem with
  | .dram e =>
    ((s.engine e).data.map Prod.fst).foldl (fun (s : State) n =>
      let (b, s) := s.freeBytes 64
      s.setEngine e ((s.engine e).putLine n b)) s
  | .sram c => s.clearOram c
  | .rootStore => { s with root := {} }
  | .other => s

/-- An open test mode runs: a march reports pass or the address it fails at, never data; a direct access reads what lies in the array or
writes it; a repair is programmed (R88). What an array holds at a line, where the spec does not give it, is a free value (log 219). -/
def State.runMemTest (s : State) (mode : TestMode) (mem : TestMem) : State :=
  match mode with
  | .bist fail => s.emit (.memTest fail)
  | .destructive fail => (s.overwrite mem).emit (.memTest fail)
  | .direct line (some _) =>
    (match mem with
      | .dram e =>
        let (b, s) := s.freeBytes 64
        s.setEngine e ((s.engine e).putLine line b)
      | m => s.overwrite m).emit (.stile true 0)
  | .direct line none =>
    (match mem with
      | .dram e =>
        let (b, t) := s.freeBytes 64
        match (s.engine e).arrayLine e line with
        | some b => s.emit (.stile true (leNat b))
        | none => t.emit (.stile true (leNat b))
      | _ =>
        let (v, s) := s.free
        s.emit (.stile true v))
  | .repair row => { s with lc := { s.lc with repairs := (mem, row) :: s.lc.repairs } }.emit (.stile true 0)

/-! ### Trips (R403, R404, R408, R409) -/

/-- The swale a response asks for: 0 none, 1 Swale-W, 2 Swale-R (R403). -/
def swaleOf (resp : Nat) : Nat := if resp = 2 || resp = 5 then 1 else if resp = 3 || resp = 6 then 2 else 0

/-- A response that ends in Halt (R403). -/
def haltOf (resp : Nat) : Bool := resp == 4 || resp == 5 || resp == 6

/-- The monitors out of window, and the register bits that show them (R420). -/
def State.setOuts (s : State) (l : List Nat) : State :=
  let s : State := { s with gorse := { s.gorse with outs := l } }
  let s := s.setF Reg.GOR_OUT_OUT (l.foldl setBit 0)
  (List.range 17).foldl (fun (s : State) m => s.setF (Reg.GOR_MON_STAT_OUT m) (b2n (l.contains m))) s

/-- A monitor is sampled (R403, R420). -/
def State.sampled (s : State) (m : Nat) : Bool := decide (m < 26) && s.isSet (Reg.GOR_MON_CFG_ENABLED m)

/-- Record a trip of one monitor: its bit, its counts, Cairn and the ledger (R404, R418). -/
def State.takeTrip (s : State) (coincident : Bool) (m : Nat) : State :=
  let t := s.countTrip m coincident
  if s.alarmed m then t
  else
    let t := t.setFBit Reg.GOR_ALARM_ALARM m true
    if s.resp m = 0 then t.bump Reg.GOR_COUNTS_NOTES else t.ledgerRec 1 m (b2n coincident) (s.resp m)

/-- The most severe of the swales of some monitors, the lowest number among equals (R409). -/
def State.worstSwale (s : State) (ms : List Nat) : Option Nat :=
  match ms.filter (fun m => swaleOf (s.resp m) == 2) with
  | m :: _ => some m
  | [] => (ms.filter (fun m => swaleOf (s.resp m) == 1)).head?

/-- The work in a slot is a node that runs and has no outcome yet. -/
def State.atWork (s : State) (k : Nat) : Bool :=
  match s.slot k with
  | some e => e.mode == .running && (match e.work with
      | .node g n => (s.graph g).any (fun gr => (gr.node n).verdict.isNone)
      | _ => false)
  | none => false

/-- A trip of class Hold clears the units of every cell, and the contexts that yielded work keeps of them: the nodes at work start again (R286,
log 51). -/
def State.holdClear (s : State) : State :=
  let n := (s.drv.slots.filter (fun x => s.atWork x.1)).length
  let bare (x : Option SlotEnt) : Option SlotEnt := x.map (fun e => { e with ctx := {} })
  { s with drv := { s.drv with units := [], slots := s.drv.slots.map (fun (x : Nat × Option SlotEnt) => (x.1, bare x.2)) } }.addF Reg.DRV_REQUEUE_COUNT n

/-- The actions of the monitors that trip with their bits clear, united (R403, R409). End of Life, Lost and a Halt in force take none
(R416, R419). -/
def State.respond (s : State) (ms : List Nat) : State :=
  if s.lc.st = 3 || s.lc.st = 4 || s.pwr.halted then s
  else
    let s := if ms.any (fun m => s.resp m == 1) then s.holdClear else s
    let s := match s.worstSwale ms with
      | some m => s.beginSwale (swaleOf (s.resp m)) m (s.resp m)
      | none => s
    match (ms.filter (fun m => haltOf (s.resp m))).head? with
    | some m =>
      if s.gorse.haltMon.isSome then s
      else { s with gorse := { s.gorse with haltMon := some m } }.setF Reg.GOR_STATUS_HALT_PENDING 1
    | none => s

/-- A built-in test of a monitor whose live channel trips ends with REFUSED (R412); a trip names its monitor and not its channel, and so any
trip of the monitor ends it (log 233). -/
def State.endBist (s : State) (ms : List Nat) : State :=
  match s.gorse.bist with
  | some (m, c) =>
    if ms.contains m then
      (({ s with gorse := { s.gorse with bist := none } }.setF Reg.GOR_BIST_STAT_BUSY 0).setF Reg.GOR_BIST_STAT_RESULT 3).post 0xB006 m 3 c
    else s
  | none => s

/-- The monitors latched in one sample (R404, R409). Physical monitors, 0 to 16, are out of window from then on. -/
def State.trip (s : State) (l : List Nat) : State :=
  let ms := (List.range 26).filter (fun m => l.contains m && s.sampled m)
  let acted := ms.filter (fun m => !s.alarmed m)
  let s := s.setOuts ((s.gorse.outs ++ ms.filter (fun m => m < 17)).eraseDups)
  let s := ms.foldl (fun (s : State) m => s.takeTrip (decide (2 ≤ ms.length)) m) (s.endBist ms)
  (s.respond acted).refreshAlarm

/-! ### The ledger's end (R98, R417) -/

/-- The module stops serving as in End of Life (R89, R98): no command is accepted, transmitters idle, READY low. -/
def State.stopService (s : State) : State :=
  let s := ([0, 1] : List Nat).foldl (fun (s : State) g => (s.dropFlights g).setPg g 3) s
  { s with pins := { s.pins with ready := false } }.setF Reg.HIF_STATUS_FULL_SERVICE 0

/-- Record 4,094 is written: the end record follows, LEDGER_FULL trips and the module moves to End of Life (R98, R417). -/
def State.endLedger (s : State) : State :=
  let r := chainRecord s.lastRecord (ledgerBody 0x14 0xFF 0 0 s.cairn.opTime s.cairn.pcc)
  let rest := s.gorse.peat ++ s.gorse.latch
  let s : State := { s with gorse := { s.gorse with ledger := s.gorse.ledger ++ [r], peat := [], latch := [] } }
  let s := rest.foldl State.toCairn ((s.setF Reg.GOR_STATUS_LEDGER_FULL 1).post 0xB007 4095 0x14 4095)
  let s := s.trip [25]
  if s.lc.st = 3 || s.lc.st = 4 then s else (s.setF Reg.LCS_STATUS_EOL_PENDING 1).stopService

/-- The record at the head of the Peat buffer is programmed (R417). -/
def State.programRecord (s : State) : State :=
  match s.gorse.peat with
  | [] => s
  | b :: rest =>
    let n := s.gorse.ledger.length
    let r := chainRecord s.lastRecord b
    let s : State := { s with gorse := { s.gorse with
      ledger := s.gorse.ledger ++ [r], peat := rest ++ s.gorse.latch.take 1, latch := s.gorse.latch.drop 1 } }
    let s := s.post 0xB007 n (byteAt r 0) n
    if n = 4094 then s.endLedger else s

end Sys2Proof.Machine
end

