-- ==== Sys2Proof/Machine/Thatch.lean ====
section
/-! DEFINITION. Thatch's events (R385 to R391): reads with what they find, writes, rewrites, scrubbing, and the end of an engine's
initialisation. -/

namespace Sys2Proof.Machine

/-- The node of a graph that waits for an access ends with a status. -/
def State.failNode (s : State) (g : Option Nat) (status : Nat) : State :=
  match g with
  | some g =>
    match s.graph g, s.openNode g with
    | some gr, some n => if gr.committed then s else s.setGraph g (some (gr.setNode n { gr.node n with verdict := some status }))
    | _, _ => s
  | none => s

/-- An access ends without data: the unit that made it has its error. -/
def State.refuseLine (s : State) (e addr : Nat) (g : Option Nat) (status : Nat) : State :=
  (s.failNode g status).emit (.line e addr none)

/-- An uncorrectable error in a line, and in the Barrow slot it holds (R318, R388). -/
def State.lineBad (s : State) (e n line kind : Nat) : State :=
  let s := s.thaUe e n line kind
  match lineSlot e n with
  | some k => s.poisonSlot k
  | none => s

/-- The eight lines whose MACs lie in the same MAC line (R381). -/
def macGroup (n : Nat) : List Nat := (List.range 8).map (fun i => 8 * (n / 8) + i)

/-- One copy of a node is bad: the other is used and rewritten over it (R388). -/
def State.nodeRepair (s : State) (e line : Nat) : State :=
  (((s.bump (Reg.THA_NODE_REPAIR_COUNT e)).setF Reg.THA_EVENT_NODE_REPAIR 1).thaErr e line 3).post 0x9003 e 3 line

/-- An uncorrectable error in the stack-internal line `line`, met at data line n: in a data line, in a MAC line for each of the lines it covers, or in
one copy of a node, whose reader is served from the other (R388). -/
def State.uncorrectable (s : State) (e n line : Nat) : Option Nat × State :=
  if line < dataLines then (some St.memoryError, s.lineBad e n line 1)
  else if line < 0x3F0000000 / 64 then
    (some St.memoryError, (macGroup n).foldl (fun (s : State) k => s.lineBad e k line 4) s)
  else (none, s.nodeRepair e line)

/-- What a finding on a line does besides answering the reader, and the status the reader receives where it receives none of the data
(R384, R388). `line` is the stack-internal line the error lies in. -/
def State.judgeFinding (s : State) (e n line : Nat) (f : Finding) : Option Nat × State :=
  match f with
  | .clean => (none, s)
  | .ceLine | .ceMacLine | .ceNode _ _ => (none, s.thaCe e line (if line < dataLines then 0 else 2))
  | .ueLine | .ueMacLine | .ueNodeOne _ _ => s.uncorrectable e n line
  | .ueNodeBoth _ => (some St.memoryError, ((s.thaErr e line 3).post 0x9004 e 3 line).trip [21])
  | .attack => (some St.memoryError, (s.post 0x9006 e 0 line).trip [20])
  | .copies => let r := s.uncorrectable e n line; (r.1, r.2.noteMismatch)

/-- The stack-internal line a finding on data line n lies in. -/
def findingLine (n : Nat) (f : Finding) : Nat :=
  match f with
  | .ceMacLine | .ueMacLine => macLine n
  | .ceNode l c | .ueNodeOne l c => nodeLine n l c
  | .ueNodeBoth l => nodeLine n l false
  | _ => n

/-- An access waits (R386, R391). -/
def State.holdAccess (s : State) (e : Nat) (a : MemAccess) : State :=
  let x := s.engine e
  s.setEngine e { x with held := x.held ++ [a] }

/-- A read of one line (R386, R388, R389): a block never written reads as zero, a poisoned line as MEMORY_ERROR. -/
def State.readLine (s : State) (addr : Nat) (f : Finding) (g : Option Nat) : State :=
  match thaLine addr with
  | none => s.refuseLine 2 addr g St.accessDenied
  | some (e, n) =>
    let x := s.engine e
    if s.thaBusy e n then s.holdAccess e (.read addr f g)
    else if (x.block (n / 128)).isNone then s.emit (.line e addr (some (zeros 64)))
    else if x.isPoison n then s.refuseLine e addr g St.memoryError
    else
      match s.judgeFinding e n (findingLine n f) f with
      | (none, t) => t.emit (.line e addr (some (x.line n)))
      | (some st, t) => t.refuseLine e addr g st

/-- A write to one line (R385, R387, R389). -/
def State.writeLine (s : State) (addr : Nat) (b : Bytes) (g : Option Nat) : State :=
  match thaLine addr with
  | none => s.refuseLine 2 addr g St.accessDenied
  | some (e, n) =>
    if s.thaBusy e n then s.holdAccess e (.write addr b g)
    else
      let (st, t) := s.thaWrite e n (addr % 64) b
      if st = St.done then t else t.refuseLine e addr g st

def State.access (s : State) : MemAccess → State
  | .read addr f g => s.readLine addr f g
  | .write addr b g => s.writeLine addr b g

/-- Accesses that waited proceed in their order of arrival (R391); those that must still wait do. -/
def State.runHeld (s : State) (e : Nat) : State :=
  let x := s.engine e
  x.held.foldl State.access (s.setEngine e { x with held := [] })

def execDramRead (addr : Nat) (finding : Finding) (g : Option Nat) (s : State) : Res :=
  .next (s.whenLive (fun s => s.readLine addr finding g))

def execDramWrite (addr : Nat) (data : Bytes) (g : Option Nat) (s : State) : Res :=
  .next (s.whenLive (fun s => s.writeLine addr data g))

/-- The rewrite of a block's other lines ends (R385); a line found bad meanwhile is poisoned under its new counter (R391). -/
def State.rewritten (s : State) (e b : Nat) (bad : List Nat) : State :=
  let x := s.engine e
  if x.rewriting.contains b then
    let s := s.setEngine e { x with rewriting := x.rewriting.filter (fun k => k != b) }
    let s := (bad.filter (fun j => decide (j < 128))).foldl (fun (s : State) j => s.lineBad e (128 * b + j) (128 * b + j) 1) s
    s.runHeld e
  else s

def execCounterBlockRewriteComplete (e block : Nat) (bad : List Nat) (s : State) : Res :=
  .next (s.whenLive (fun s => s.rewritten e block bad))

/-- Lines of a whole stack, metadata included. -/
def stackLines : Nat := 0x10000000

/-- The scrubber passes over a stack-internal line (R390): its counter block was never written, it is poisoned already, or no node lies in it. -/
def Engine.unscrubbed (x : Engine) (p : Nat) : Bool :=
  let n := scrubData p
  if p < dataLines then (x.block (n / 128)).isNone || x.isPoison n
  else if p < 0x3F0000000 / 64 then (x.block (n / 128)).isNone
  else
    match nodeAt p with
    | some (0, b) => (x.block b).isNone
    | some _ => false
    | none => true

/-- The scrubber reads its next line (R390): not with scrubbing disabled, nor while the engine serves other accesses first; lines of
blocks never written are passed over, and a poisoned line counts nothing more. -/
def State.scrub (s : State) (e : Nat) (f : Finding) : State :=
  let p := s.getF (Reg.THA_SCRUB_POS_LINE e)
  let n := scrubData p
  if s.getF Reg.THA_SCRUB_CFG_PERIOD_H = 0 || s.thaBusy e n then s
  else
    let s := s.setF (Reg.THA_SCRUB_POS_LINE e) ((p + 1) % stackLines)
    if (s.engine e).unscrubbed p then s
    else (s.judgeFinding e n (if p < dataLines then findingLine n f else p) f).2

def execScrubRead (e : Nat) (finding : Finding) (s : State) : Res :=
  .next (s.whenLive (fun s => if e < 2 then s.scrub e finding else s))

/-- An engine has written its tree: it is ready and the accesses that waited proceed (R386). One that still waits for its keys draws
them where it can, from step 8 on and not during a swale (R383). -/
def State.thaInit (s : State) (e : Nat) : State :=
  if s.thaReady e || s.gorse.swale.isSome || s.bale.step < 8 then s
  else if (s.engine e).keys.isNone then s.thaKey e
  else (s.setThaReady e true).runHeld e

def execThatchInitComplete (e : Nat) (s : State) : Res := .next (s.whenLive (fun s => if e < 2 then s.thaInit e else s))

end Sys2Proof.Machine
end

