-- ==== Sys2Proof/Machine/Hedgerow.lean ====
section
/-! DEFINITION. Hedgerow's checks and changes (R393 to R399). -/

namespace Sys2Proof.Machine

/-! ### Which set a cell needs (R397) -/

/-- The work a cell runs. -/
def State.runningWork (s : State) (c : Nat) : Option Work := ((s.runningSlot c).bind s.slot).map SlotEnt.work

/-- The world of some work: of its graph, steward for everything else (R393). -/
def State.workWorld (s : State) (w : Work) : Nat :=
  match w with
  | .node g _ =>
    match s.graph g with
    | some gr => b2n (isSteward gr.qid)
    | none => 1
  | _ => 1

/-- The world a unit's accesses carry. -/
def State.unitWorld (s : State) (u : Nat) : Nat := if u < 256 then ((s.runningWork u).map s.workWorld).getD 1 else 1

/-- The set the running work of a cell needs; none where nothing runs. -/
def State.neededTag (s : State) (u : Nat) : Option Nat :=
  if u < 256 then (s.runningWork u).map (fun w => hedgeTag (s.cellRole u) (s.workWorld w)) else none

/-! ### Checking a burst (R394, R395) -/

/-- The first bytes of a burst's sub-accesses. -/
def subAccesses (addr len : Nat) : List Nat :=
  (List.range ((addr % 64 + len + 63) / 64)).map (fun i => if i = 0 then addr else (addr / 64 + i) * 64)

/-- A region lets an access through (R394): kind 0 read, 1 write, 2 execute; attributes DEVICE, RELAXED, CACHEABLE. -/
def Region.allows (r : Region) (b : Burst) (world : Nat) : Bool :=
  bit r.perm b.kind && bit r.masters b.master && bit r.world world && !(bit b.attr 0 && bit b.attr 2) &&
    ([0, 1, 2] : List Nat).all (fun k => !bit b.attr k || bit r.attr k)

/-- The first sub-access that is denied, with its address. -/
def denied (set : List Region) (b : Burst) (world : Nat) : Option (Nat × Nat) :=
  let l := subAccesses b.addr b.len
  ((List.range l.length).map (fun i => (i, l.getD i 0))).find? (fun p =>
    match set.find? (fun r => Region.has r p.2) with
    | some r => !(Region.allows r b world)
    | none => true)

/-- Record a denial (R395). -/
def State.deny (s : State) (u : Nat) (b : Burst) (world sub addr : Nat) : State :=
  let s := ((((((s.setF (Reg.HDG_U_DENY_VALID u) 1).setF (Reg.HDG_U_DENY_SUB u) sub).setF (Reg.HDG_U_DENY_MASTER u) b.master).setF
    (Reg.HDG_U_DENY_KIND u) b.kind).setF (Reg.HDG_U_DENY_ATTR u) b.attr).setF (Reg.HDG_U_DENY_WORLD u) world)
  let s := (s.setF (Reg.HDG_U_DENY_ADDR_LO_ADDR u) (addr % 2 ^ 32 / 64)).setF (Reg.HDG_U_DENY_ADDR_HI_ADDR u) (addr / 2 ^ 32 % 65536)
  let s := ((s.bump (Reg.HDG_U_DENY_CNT_COUNT u)).bump Reg.HDG_DENIES_COUNT).setF Reg.HDG_LAST_DENY_UNIT u
  let s := s.post 0xA001 u b.kind (addr % 2 ^ 32)
  let s := if u < 256 then
      match s.runningWork u with
      | some (.node g _) => s.failNode (some g) St.accessDenied
      | _ => s
    else s
  s.emit (.granted u false)

/-- Judge a burst by the active set (R394, R395). -/
def State.judgeBurst (s : State) (u : Nat) (b : Burst) : State :=
  let w := s.unitWorld u
  match denied (s.ruleSet u (s.activeSet u)) b w with
  | some (i, a) => s.deny u b w i a
  | none => s.emit (.granted u true)

/-- A burst that stalls (R397, R398). -/
def State.holdBurst (s : State) (u : Nat) (b : Burst) : State :=
  { s with hdg := { s.hdg with held := setC [] s.hdg.held u (getC [] s.hdg.held u ++ [b]) } }

/-- A burst reaches a unit: it stalls at a disabled one, or while the set its work needs is not loaded; a loaded one is swapped in at
the first access (R397, R398, R399). -/
def State.burst (s : State) (u : Nat) (b : Burst) : State :=
  if !s.isSet (Reg.HDG_U_STAT_ENABLED u) then s.holdBurst u b
  else
    match s.neededTag u with
    | none => s.judgeBurst u b
    | some t =>
      let k := s.activeSet u
      if s.setTag u k = t then s.judgeBurst u b
      else if s.setTag u (1 - k) = t then (s.setF (Reg.HDG_U_STAT_ACTIVE_SET u) (1 - k)).judgeBurst u b
      else s.holdBurst u b

/-- Bursts that stalled are judged in their order of arrival (R398). -/
def State.runBursts (s : State) (u : Nat) : State :=
  let l := getC [] s.hdg.held u
  l.foldl (fun (s : State) b => s.burst u b) { s with hdg := { s.hdg with held := setC [] s.hdg.held u [] } }

def execHedgerowAccessCheck (unit master kind attr addr len : Nat) (s : State) : Res :=
  .next (s.whenLive (fun s => if s.hasUnit unit then s.burst unit ⟨master, kind, attr, addr, len⟩ else s))

/-! ### Changing sets (R397, R398) -/

/-- A refused commit or load (R398, R399). -/
def State.hedgeFault (s : State) (u : Nat) : State := ((s.setF Reg.HDG_FAULT_UNIT u).setF Reg.HDG_FAULT_FAULT 1).post 0xA002 u 0 0

/-- The work a load serves: the node prefetched into the cell's empty slot, or else the one that runs (R397). -/
def State.loadWork (s : State) (c : Nat) : Option Work :=
  match ([2 * c, 2 * c + 1] : List Nat).filterMap (fun k => (s.slot k).bind (fun e => if e.mode == .prefetched then some e.work else none)) with
  | w :: _ => some w
  | [] => s.runningWork c

/-- The dispatch agent loads the inactive set of a cell (R397); a set that fails its check is not adopted and its node ends with
ACCESS_DENIED (R399). -/
def State.loadInactive (s : State) (c : Nat) (ok : Bool) : State :=
  match s.loadWork c with
  | none => s
  | some w =>
    let t := hedgeTag (s.cellRole c) (s.workWorld w)
    let k := s.activeSet c
    if s.setTag c k = t then s
    else if ok && setOk (s.taggedSet t) then (s.loadSet c (1 - k) t).runBursts c
    else
      let s := s.hedgeFault c
      let s := match w with
        | .node g n =>
          match s.graph g with
          | some gr => if gr.committed then s else s.setGraph g (some (gr.setNode n { gr.node n with verdict := some St.accessDenied }))
          | none => s
        | _ => s
      { s with hdg := { s.hdg with held := setC [] s.hdg.held c [] } }

def execInactiveSetLoad (cell : Nat) (ok : Bool) (s : State) : Res :=
  .next (s.whenLive (fun s => if s.hasCell cell then s.loadInactive cell ok else s))

/-- The hub program may change a unit's set on the main path (R398): units 256 to 258, and those of cells FALLOW or TESTING. -/
def State.hedgeOpen (s : State) (u : Nat) : Bool :=
  s.hasUnit u && (decide (256 ≤ u) || s.cellState u == 3 || s.cellState u == 4)

/-- A main-path update (R398): its beginning disables the unit, its commit checks the set, adopts it or keeps the old one, and judges
the bursts that stalled. -/
def State.hedgeUpdate (s : State) (u : Nat) (set : List Region) (commit : Bool) : State :=
  if !s.hedgeOpen u then s
  else if !commit then (s.setF (Reg.HDG_U_STAT_UPDATING u) 1).setF (Reg.HDG_U_STAT_ENABLED u) 0
  else if !s.isSet (Reg.HDG_U_STAT_UPDATING u) then s
  else
    let s := if setOk set then
        let s := ((s.setRuleSet u (s.activeSet u) set).putTag u (s.activeSet u) 0).setF (Reg.HDG_U_STAT_FAULT u) 0
        (s.bump Reg.HDG_UPDATES_COUNT).post 0xA003 u 0 0
      else (s.hedgeFault u).setF (Reg.HDG_U_STAT_FAULT u) 1
    ((s.setF (Reg.HDG_U_STAT_UPDATING u) 0).setF (Reg.HDG_U_STAT_ENABLED u) 1).runBursts u

def execHedgerowUpdate (unit : Nat) (set : List Region) (commit : Bool) (s : State) : Res :=
  .next (s.whenLive (fun s => s.hedgeUpdate unit set commit))

end Sys2Proof.Machine
end

