-- ==== Sys2Proof/Machine/Gorse.lean ====
section
/-! DEFINITION. Gorse's events (spec/19): trips, the end of a swale, Halt, acknowledgement, built-in tests, the ledger, and the backup
cell. -/

namespace Sys2Proof.Machine

/-- Gorse's core runs from VIN: the module is supplied and not in reset; a Halt does not stop it (R26). -/
def State.whenGorse (s : State) (f : State → State) : State := if s.pwr.on && !s.pwr.reset then f s else s

/-- Monitors trip in one sample (R404, R409); a SHADOW trip is recorded as 0xB009 too (R410). While the module is held in reset only
the input is seen (R419), the tamper loops apart, which are not sampled before step 6 (R37). -/
def execMonitorTrip (ms : List Nat) (s : State) : Res :=
  .next (if s.pwr.on && !s.pwr.reset then (if ms.contains 17 && s.sampled 17 then s.post 0xB009 0 0 0 else s).trip ms
    else if s.pwr.vin then s.setOuts ((s.gorse.outs ++ ms.filter (fun m => m < 13)).eraseDups)
    else s)

/-- A monitor's input returns within its window (R408). -/
def execMonitorReturnToWindow (m : Nat) (s : State) : Res := .next (s.setOuts (s.gorse.outs.filter (fun x => x != m)))

/-! ### Swale and Halt -/

/-- Both Thatch engines draw new keys after a swale, once step 8 has keyed them (R386). -/
def State.rekeyThatch (s : State) : State := if 8 ≤ s.bale.step then (s.thaKey 0).thaKey 1 else s

/-- Recovery after a Swale-W (R298, R318, R375): the era rises, module keys and persistent instances are made again. -/
def State.recoverW (s : State) : State :=
  if s.isSet Reg.BAR_STATUS_ROOT_OPEN then
    let s := (s.raiseEra.setF Reg.BAR_EVENT_ERA_CHANGE 1).makeModuleKeys
    if 10 ≤ s.bale.step then s.startPersistent else s
  else s

/-- Recovery after a Swale-R (R310) where Barrow had opened the root store: it ends with its own event. -/
def State.recoverR (s : State) : State :=
  if 9 ≤ s.bale.step && s.bale.running.isSome then
    { s with bar := { s.bar with recovering := true } }
  else s

/-- The check of a transition to End of Life ends with its Swale-R (R96), unless a Halt follows (R99). -/
def State.checkSwaled (s : State) : State :=
  match s.lc.check with
  | some (3, g) => if s.gorse.haltMon.isSome then s.abandonCheck else s.beginRows 3 g
  | _ => s

/-- The memory test mode that waited for its swale opens (R88). -/
def State.openMemTest (s : State) : State :=
  match s.lc.memTest with
  | some (mode, mem) => { s with lc := { s.lc with memTest := none } }.runMemTest mode mem
  | none => s

/-- A swale completes (R405, R409, R418); recovery follows where no Halt does. The Swale-W of a memory test mode is not in the ledger
(R88). -/
def State.swaleDone (s : State) : State :=
  match s.gorse.swale with
  | none => s
  | some w =>
    let s : State := { s with gorse := { s.gorse with swale := none } }
    let s := ((s.setF Reg.GOR_STATUS_SWALE_BUSY 0).setF Reg.GOR_STATUS_LAST_SWALE w.kind).bump Reg.GOR_COUNTS_SWALES
    let s := s.post (if w.kind = 1 then 0xB002 else 0xB003) 0 0 0
    let s := if w.kind = 1 && w.mon = 0xFF then s else s.ledgerRec (w.kind + 1) w.mon 0 w.resp
    let s := if s.gorse.haltMon.isSome then s
      else if w.kind = 1 then s.recoverW.rekeyThatch
      else s.recoverR.rekeyThatch
    s.checkSwaled.openMemTest

def execSwaleComplete (s : State) : Res := .next (s.whenLive State.swaleDone)

/-- Halt begins once swales and fuse writes have ended (R406): its records are written, then every island stops (R26, R40). -/
def State.haltBegin (s : State) : State :=
  match s.gorse.haltMon with
  | some m =>
    if s.gorse.swale.isSome || s.lc.job.isSome then s
    else
      let s := ((s.abandonCheck.abandon.stileEnd).thaw true).closeWindows
      let s := (s.ledgerRec 4 m 0 (s.resp m)).post 0xB004 m m (s.resp m)
      { s with pwr := { s.pwr with halted := true }, pins := { s.pins with haltLow := true, ready := false } }.setF
        Reg.GOR_STATUS_HALT_PENDING 0
  | none => s

def execHaltBegin (s : State) : Res := .next (s.whenLive State.haltBegin)

/-! ### Acknowledgement (R408) -/

/-- A write of 1s to `GOR_ALARM`: a monitor still out of window keeps its bit. -/
def State.alarmClear (s : State) (mask : Nat) : State :=
  ((monitors.filter (fun m => bit mask m && !s.gorse.outs.contains m)).foldl (fun (s : State) m =>
    s.setFBit Reg.GOR_ALARM_ALARM m false) s).refreshAlarm

def execGorAlarmClear (mask : Nat) (s : State) : Res := .next (s.whenHif (fun s => s.alarmClear mask))

/-- A 1 written to `PEAT_RECORDS`: what the start found on the backup cell no longer drives `ALARM_N` (R40, R408, log 213). -/
def State.peatClear (s : State) : State :=
  ({ s with gorse := { s.gorse with peatAlarm := false } }.setF Reg.GOR_STATUS_PEAT_RECORDS 0).refreshAlarm

def execPeatRecordsClear (s : State) : Res := .next (s.whenHif State.peatClear)

/-! ### Built-in test (R411 to R413) -/

/-- The channels of a monitor that can be tested: photodiodes, A and B, or the one of SHADOW. -/
def bistChannels (m : Nat) : Nat := if m < 3 then 8 else if m < 17 then 2 else if m = 17 then 1 else 0

/-- Start the test of a channel, or refuse it (R411). -/
def State.bistStart (s : State) (m c : Nat) : State :=
  if s.gorse.bist.isSome || bistChannels m ≤ c || !s.sampled m then s.setF Reg.GOR_BIST_STAT_RESULT 3
  else
    let s : State := { s with gorse := { s.gorse with bist := some (m, c) } }
    (((s.setF Reg.GOR_BIST_STAT_BUSY 1).setF Reg.GOR_BIST_STAT_RESULT 0).setF Reg.GOR_BIST_STAT_MONITOR m).setF Reg.GOR_BIST_STAT_CHANNEL c

def execGorBistStart (mon chan : Nat) (s : State) : Res := .next (s.whenHif (fun s => s.bistStart (mon % 32) (chan % 8)))

/-- The channels of a full pass (R413). -/
def State.bistAll (s : State) : List (Nat × Nat) :=
  ((List.range 18).filter s.sampled).flatMap (fun m => (List.range (bistChannels m)).map (fun c => (m, c)))

/-- Every channel has passed since the last full pass: a new interval begins (R413). -/
def State.bistFull (s : State) : State :=
  if s.bistAll.all s.gorse.passed.contains then
    { s with gorse := { s.gorse with passed := [], fullAt := s.cairn.opTime, overdue := false } }
  else s

/-- A channel's test ends (R411, R412). -/
def State.bistDone (s : State) (pass : Bool) : State :=
  match s.gorse.bist with
  | none => s
  | some (m, c) =>
    let rest := s.gorse.failedCh.filter (fun x => x != (m, c))
    let failed := if pass then rest else (m, c) :: rest
    let passed := if pass then (m, c) :: s.gorse.passed else s.gorse.passed
    let s : State := { s with gorse := { s.gorse with bist := none, failedCh := failed, passed } }
    let s := (s.setF Reg.GOR_BIST_STAT_BUSY 0).setF Reg.GOR_BIST_STAT_RESULT (if pass then 1 else 2)
    let s := (s.setF (Reg.GOR_MON_STAT_BIST_FAIL m) (b2n (failed.any (fun x => x.1 == m)))).post 0xB006 m (if pass then 1 else 2) c
    if pass then s.bistFull else s.trip [18]

def execGorBistComplete (pass : Bool) (s : State) : Res := .next (s.whenLive (fun s => s.bistDone pass))

/-- The interval passes without a full pass (R413). -/
def State.bistOverdue (s : State) : State :=
  if !s.gorse.overdue && decide (s.gorse.fullAt + 3600000 * s.getF Reg.GOR_BIST_CFG_INTERVAL_H ≤ s.cairn.opTime) then
    { s with gorse := { s.gorse with overdue := true } }.trip [19]
  else s

def execBistOverdue (s : State) : Res := .next (s.whenLive State.bistOverdue)

/-- The full scan of the shadow registers finds a pair that disagrees, or none (R410). -/
def execShadowScan (bad : Option Nat) (s : State) : Res :=
  .next (s.whenLive (fun s => match bad with
    | some k => (if s.sampled 17 then s.post 0xB009 k 0 k else s).trip [17]
    | none => s))

/-! ### The ledger and the backup cell (R414 to R417) -/

def execLedgerRecordProgrammed (s : State) : Res := .next (s.whenGorse State.programRecord)

/-- The monitors that stay alive on the backup cell (R414). -/
def backupMonitors : List Nat := [0, 1, 2, 3, 4, 5, 8, 9]

/-- Hours since power-down, saturating (R414). -/
def State.downHours (s : State) : Nat := min 65535 (s.gorse.downUs / 3600000000)

/-- A backup record enters the Peat buffer, or is counted as dropped (R414). -/
def State.backupRec (s : State) (type mon flags : Nat) : State :=
  if s.gorse.peat.length < 64 then
    { s with gorse := { s.gorse with peat := s.gorse.peat ++ [ledgerBody type mon flags 3 s.gorse.downTime s.downHours] } }
  else { s with gorse := { s.gorse with overflow := min 65535 (s.gorse.overflow + 1) } }

/-- Monitors trip on the backup cell in one sample (R414): each at most once, and the first sample clears the root store. End of Life
and Lost take no action (R416). -/
def State.backupTrip (s : State) (l : List Nat) : State :=
  let ms := backupMonitors.filter (fun m => l.contains m && !s.gorse.backupTrips.contains m)
  match ms with
  | [] => s
  | m0 :: _ =>
    let first := s.gorse.backupTrips.isEmpty
    let s : State := { s with gorse := { s.gorse with backupTrips := s.gorse.backupTrips ++ ms, outs := (s.gorse.outs ++ ms).eraseDups } }
    let s := ms.foldl (fun (s : State) m => s.backupRec 1 m (2 + b2n (decide (2 ≤ ms.length)))) s
    if first then
      let s := s.backupRec 3 m0 2
      { s.clearR with bar := { s.clearR.bar with lastEra := none } }
    else s

def execBackupTrip (ms : List Nat) (s : State) : Res :=
  .next (if s.pwr.vin || s.pwr.on || s.pwr.peatLost || s.lc.st = 3 || s.lc.st = 4 then s else s.backupTrip ms)

/-- With VIN absent the backup cell fails or is removed: everything the Peat domain holds is lost, and `HALT_N` is
released (R40, R48). -/
def State.vbakLost (s : State) : State :=
  { s.clearR with
    pins := { s.pins with haltLow := false }
    pwr := { s.pwr with peatLost := true, save := [] }
    bar := { s.clearR.bar with lastEra := none, rootLost := true }
    gorse := { s.gorse with peat := [], latch := [], overflow := 0 } }

def execVbakLoss (s : State) : Res := .next (if s.pwr.vin || s.pwr.on then s else s.vbakLost)

end Sys2Proof.Machine
end

