-- ==== Sys2Proof/Machine/StartOps.lean ====
section
/-! DEFINITION. The start sequence's parts (spec/04 R72 to R78, spec/02 R37 to R42, spec/03 R61 and R62): what a stop of the islands
leaves, the mask ROM's work at step 3, the load of a bale, and the steps that random numbers open. -/

namespace Sys2Proof.Machine

/-! ### What a stop of every island leaves (R26, R39, R61, R62) -/

/-- The step the start has reached, and the register that shows it (R72, R130). -/
def State.setStep (s : State) (n : Nat) : State :=
  { s with bale := { s.bale with step := n } }.setF Reg.HIF_STATUS_START_STEP n

/-- Cairn without what its hub part held: ring, positions and counters are kept (R433). -/
def Cairn.stopped (c : Cairn) : Cairn :=
  { c with queue := [], dropped := 0, windows := [], tally := [], tallyOver := 0, sums := [], load := none, aperture := [], timeLatch := 0 }

/-- The core of Gorse, its buffer and its ledger live on; the response and the test under way are gone (R62, R414). -/
def Gorse.stopped (g : Gorse) : Gorse :=
  { g with swale := none, haltMon := none, bist := none, passed := [], failedCh := [], overdue := false, peatAlarm := false }

/-- The fuses and what the root store's attestation area holds; a start decodes the state anew (R91 to R97). -/
def LifeCycle.stopped (l : LifeCycle) : LifeCycle :=
  { variant := l.variant, uid := l.uid, t1 := l.t1, t2 := l.t2, t3 := l.t3, signers := l.signers, revoked := l.revoked, selBlown := l.selBlown
    st := l.st, attPending := l.attPending, prodSeen := l.prodSeen, attSeen := l.attSeen }

/-- The flash devices keep what they hold; whether they answer is seen anew at the next start (R44). -/
def BaleState.stopped (b : BaleState) : BaleState := { flash := b.flash, flashCnt := b.flashCnt }

/-- The supply, with what the Peat domain keeps of it. -/
def Power.stopped (p : Power) : Power :=
  { vin := p.vin, resetHeld := p.resetHeld, peatLost := p.peatLost, startCause := p.startCause, save := p.save, storeUj := p.storeUj }

/-- Every island stops: the Peat domain, the fuses and the flash devices keep their contents, and everything else is lost (R26, R39,
R61). `ALARM_N` and the other outputs take their state in reset; `HALT_N` stays as it is (R37, R40). -/
def State.islandsOff (s : State) : State :=
  { s with
    regs := [], drv := {}, queues := [], allots := [], hif := { perst := s.hif.perst }, cairn := s.cairn.stopped, gorse := s.gorse.stopped
    bar := { rootLost := s.bar.rootLost, lastEra := s.bar.lastEra }, pends := [], pwr := s.pwr.stopped, pins := { haltLow := s.pins.haltLow }
    lc := s.lc.stopped, bale := s.bale.stopped, sky := {}, fur := {}, tha := {}, hdg := {}, cmn := {} }

/-! ### Step 3: the mask ROM (R72, R97, R415, R421, R424) -/

/-- What a triple shows in `LCS_FUSES` (R104). -/
def Triple.shown (t : Triple) : Nat := b2n (t.intent != 0) + 2 * b2n (t.target != 0) + 4 * b2n (t.commit == allOnes)

/-- The registers the fuses give are loaded (R104, R130), and those of unpopulated meadows (R71, R200). -/
def State.loadFuses (s : State) : State :=
  let l := s.lc
  let s := (s.setF Reg.LCS_STATUS_STATE l.st).setF Reg.LCS_FUSES_T1 l.t1.shown
  let s := (s.setF Reg.LCS_FUSES_T2 l.t2.shown).setF Reg.LCS_FUSES_T3 l.t3.shown
  let s := ([0, 1, 2, 3] : List Nat).foldl (fun (s : State) i => s.setF (Reg.LCS_UID_UID i) (leAt l.uid (4 * i) 4)) s
  let s := s.setF Reg.LCS_SIGNER_STATUS_PROGRAMMED (([0, 1, 2, 3] : List Nat).foldl (fun v k =>
    if ((l.signers[k]?).getD none).isSome then setBit v k else v) 0)
  let s := (s.setF Reg.LCS_SIGNER_STATUS_REVOKED l.revoked).setF Reg.STL_STATUS_OPEN (b2n s.stileFree)
  let s := ((s.setF Reg.HIF_ID_VARIANT l.variant.code).setF Reg.HIF_ID_STEPPING Config.stepping).setF Reg.HIF_ROM_VER_ROM Config.romVersion
  let s := (s.setF Reg.HIF_CAP0_FURROW (b2n l.variant.hasFurrow)).setF Reg.HIF_CAP0_PQC (b2n l.variant.hasPqc)
  let s := (s.setF Reg.HIF_CAP0_MEADOWS l.variant.meadows).setF Reg.HIF_CAP0_CELLS l.variant.cells
  let s := s.setF Reg.HIF_CAP1_PORT_GROUPS (if l.variant.hasFurrow then 2 else 0)
  ((List.range 8).filter (fun m => !s.hasMeadow m)).foldl (fun (s : State) m => (s.setF (Reg.PWR_MDW_STAT_STATE m) 7).setMdw m 7) s

/-- The Peat domain has come up without its contents: the counters and the spill restart (R421, R433). -/
def State.peatRestart (s : State) : State :=
  if s.pwr.peatLost then
    { s with
      pwr := { s.pwr with peatLost := false }
      cairn := { s.cairn with
        opTime := 0, pcc := 0, lastTime := 0, ring := [], head := 0, tail := 0, unspilled := [], nextSeq := 1, spillPos := 0, lost := 0 } }
  else s

/-- The power-cycle count rises (R421), and the next record takes the full form (R423); a block that holds no record counts as
opened now. -/
def State.countStart (s : State) : State :=
  let c := { s.cairn with pcc := min (s.cairn.pcc + 1) 0xFFFFFFFF, fresh := true }
  let b := c.block c.head
  { s with cairn := if b.recs.isEmpty then { c with ring := setC {} c.ring c.head { b with pcc := c.pcc } } else c }

/-- The start record, and the record of a flush that lost blocks (R424, R432). -/
def State.startRecords (s : State) : State :=
  let s := s.postRaw 0x0000 0 [BitVec.ofNat 8 s.pwr.startCause, BitVec.ofNat 8 s.lc.st]
  if s.pwr.startCause = 1 && s.cairn.lost ≠ 0 then
    let s := s.postRaw 0x1010 0 (le 4 s.cairn.lost)
    { s with cairn := { s.cairn with lost := 0 } }
  else s

/-- The flag the ROM puts on a record it commits; a key digest has no flags (R417). -/
def step3Flag (r : Bytes) : Bytes := if byteAt r 0 = 0x12 then r else r.set 2 (BitVec.ofNat 8 (byteAt r 2 ||| 4))

/-- The records of the backup cell's time, and the summary of those dropped (R414, R415). -/
def State.peatBatch (s : State) : List Bytes :=
  let l := (s.gorse.peat ++ s.gorse.latch).map step3Flag
  if s.gorse.overflow = 0 then l else l ++ [ledgerBody 0x13 0xFF 4 0 s.cairn.opTime s.gorse.overflow]

/-- A record of an alarm on the backup cell: its BACKUP flag (R417). -/
def isBackup (r : Bytes) : Bool := byteAt r 0 != 0x12 && bit (byteAt r 2) 1

/-- The ROM commits the Peat buffer in Test and Production, where the ledger takes its records in order; in every other state they go to
Cairn only (R415, R416, R417). Backup records drive `ALARM_N` low in every state (R40). -/
def State.commitPeat (s : State) : State :=
  let l := s.peatBatch
  let over_ := s.gorse.overflow
  let s0 : State := { s with gorse := { s.gorse with peat := [], latch := [], overflow := 0, backupTrips := [], peatAlarm := l.any isBackup } }
  if l.isEmpty then s0
  else if s.ledgerState && !s.gorse.full then
    let s : State := { s0 with gorse := { s0.gorse with peat := l.take 64, latch := l.drop 64 } }
    let s := (s.setF Reg.GOR_LEDGER_OVERFLOW (min 4095 over_)).post 0xB008 0 0 over_
    if l.any isBackup then s.setF Reg.GOR_STATUS_PEAT_RECORDS 1 else s
  else l.foldl State.toCairn s0

/-- A start that finds the unit Lost (R97): event 0x0003, its records while the ledger shows no earlier such start, and a Swale-R. -/
def State.foundLost (s : State) : State :=
  if s.lc.st = 4 then
    let s := s.post 0x0003 0 0 0
    let seen := (s.gorse.ledger ++ s.gorse.peat ++ s.gorse.latch).any (fun r => byteAt r 0 == 0x10)
    let s := if seen then s
      else (s.ledgerRaw (ledgerBody 0x10 0xFF 4 0 s.cairn.opTime s.cairn.pcc)).ledgerRaw (ledgerBody 0x03 0xFF 4 3 s.cairn.opTime s.cairn.pcc)
    s.beginSwale 2 0xFF 3
  else s

/-- Step 3 (R72): registers at their reset values, the state decoded, save memory cleared, `HALT_N` released, the counters and the Peat
buffer taken up, the alarm output driven and the flash devices out of reset; `bad` are the devices that do not answer (R44). Inputs that are
out of window trip at once. -/
def State.step3 (s : State) (bad : List Nat) : State :=
  let s : State := { s with
    regs := [], pwr := { s.pwr with on := true, halted := false, save := [] }, pins := { s.pins with haltLow := false, flResetN := .high }
    bale := { s.bale with deviceBad := ([0, 1] : List Nat).foldl (fun m d => setC false m d (bad.contains d)) [] }
    lc := { s.lc with st := s.lc.decoded } }
  let s := ((s.setStep 3).peatRestart.countStart.loadFuses).setF Reg.PWR_CLK_STATUS_REF25_OK 1
  let s := s.startRecords.commitPeat
  let s : State := { s with gorse := { s.gorse with fullAt := s.cairn.opTime } }
  let s := s.setF Reg.GOR_STATUS_LEDGER_FULL (b2n s.gorse.full)
  let s := s.foundLost.refreshAlarm
  let l := s.gorse.outs
  (s.setOuts l).trip l

/-! ### Steps 4 to 6: the bale (R73, R75, R76, R77) -/

/-- The slot that is loaded, and whether it is a fallback; none where neither passes (R73, R76). `mis` are the mismatches of the hub digest
engines in the checks of slot A and of slot B, each told to Gorse (R285). -/
def State.pickSlot (s : State) (mis : List (Nat × HubCheck)) : Option (Nat × Bool) × State :=
  let a := s.selSlot
  let of_ (k : Nat) : List HubCheck := (mis.filter (fun x => x.1 == k)).map Prod.snd
  let x := s.judgeSlot a (fun e => decide (s.eAdopt ≤ e)) 6 (of_ a)
  let t := s.hubNotes x (of_ a)
  if x = 0 then (some (a, false), t)
  else
    let y := t.judgeSlot (1 - a) (fun e => decide (s.ePrev ≤ e)) 6 (of_ (1 - a))
    (if y = 0 then some (1 - a, true) else none, t.hubNotes y (of_ (1 - a)))

/-- The step at which a register field takes its value from the bale, by field key; 0 for a field that takes none (R71, R104, R130,
R170, R200, R201, R335, R357, R380, R400, R420, R447). -/
def baleStepOf (key : Nat) : Nat :=
  let a := 4 * (key / 32)
  let lo := key % 32
  if a = 0xF00010 || a = 0xF00014 || a = 0x2C || a = 0x1200008 || a = 0x200004 || a = 0x200008 || a = 0x500004 || a = 0xC00008 || a = 0x1100020 then 6
  else if 0xF00020 ≤ a && a < 0xF00040 then (if lo = 0 then 6 else 0)
  else if 0x300000 ≤ a && a < 0x400000 then
    (if a % 0x1000 = 0x10 || ((a % 0x1000 = 0x14 || a % 0x1000 = 0x18) && a / 0x1000 % 8 = 0) then (if lo < 14 then 6 else 0) else 0)
  else if a = 0xD0002C || (0xD00040 ≤ a && a < 0xD000A8) then (if lo = 0 then 6 else 0)
  else if a = 0x610008 || a = 0x611008 || (0x620000 ≤ a && a < 0x630000 && a % 0x800 = 4) then 10
  else if 0x640000 ≤ a && a < 0x6C0000 && a % 0x20 < 0x18 then 10
  else if 0x800000 ≤ a && a < 0x900000 && a % 0x40 < 0x18 then 10
  else 0

/-- A register window of a unit the variant leaves out: Furrow, or the cells and sleep control of an unpopulated meadow (R3). -/
def State.windowFitted (s : State) (off : Nat) : Bool :=
  if 0x600000 ≤ off && off < 0xC00000 then s.lc.variant.hasFurrow
  else if 0x300000 ≤ off && off < 0x400000 then s.hasCell ((off - 0x300000) / 0x1000)
  else if 0xF00020 ≤ off && off < 0xF00040 then s.hasMeadow ((off - 0xF00020) / 4)
  else if 0x1100000 ≤ off && off < 0x1200000 then s.lc.variant.hasPqc
  else true

/-- Give a field its bale value. -/
def State.applyReg (s : State) (e : Nat × Nat) : State :=
  let a := 4 * (e.1 / 32)
  if s.windowFitted a then
    match (fieldsAt a).find? (fun f => f.lo == e.1 % 32) with
    | some f => { s with regs := setM regDefault s.regs e.1 (e.2 % 2 ^ f.w) }
    | none => s
  else s

/-- The fields of a step take their bale values. -/
def State.applyRegs (s : State) (step : Nat) : State :=
  (s.bale.content.regs.filter (fun e => baleStepOf e.1 == step)).foldl State.applyReg s

/-- The role a cell has in the running bale's role map. -/
def State.mapRole (s : State) (cell : Nat) : Nat := (s.bale.content.roleMap[cell]?).getD 0

/-- The hub keeps what a slot configures: library, role map, rates, epochs (R72, R76, R86). -/
def State.takeBale (s : State) (slot : Nat) : State :=
  let c := s.contentOf slot
  let e := hdrEpoch (s.header slot)
  let ms := (List.range 8).filter s.hasMeadow
  { s with
    bale := { s.bale with
      running := some slot, content := c, adopted := c, adoptedEpoch := e, adoptedSlot := slot, adoptedHdr := s.header slot
      mdwEpoch := ms.foldl (fun m k => setC 0 m k e) [] }
    drv := { s.drv with banks := [(e, c.templates)] }
    cairn := { s.cairn with rates := c.rates }
    hif := { s.hif with subsys := c.subsys } }

/-- Step 6 on the slot that passes: PWR, Gorse, Hedgerow and the other units take their configuration, tamper loops start, spill starts
(R37, R71, R396, R420, R430); Skylark's step 7 begins, with a client instance wanted for each client (R328, R329). -/
def State.loadBale (s : State) (slot : Nat) (fallback kat : Bool) : State :=
  let s := s.takeBale slot
  let c := s.bale.content
  let s := s.applyRegs 6
  let s := s.cells.foldl (fun (s : State) k => s.setF (Reg.SWD_CELL_CTL_NEXT_ROLE k) (s.mapRole k)) s
  let s := ([0, 1, 2, 3] : List Nat).foldl (fun (s : State) n => s.setF (Reg.GOR_MON_CFG_ENABLED (13 + n)) (b2n (bit c.loops n))) s
  let s := (s.setF Reg.GOR_BIST_CFG_LOOPS c.loops).setF Reg.GOR_STATUS_CFG_BALE 1
  let s := s.setF Reg.HIF_BALE_OVERLAP_LIMIT_MIN (hdrOverlap (s.header slot))
  let s := if fallback then s.showFallback.post 0xE001 slot 0 s.bale.adoptedEpoch else s.showFallback
  let s := (s.hedgeStart s.mapRole).setF Reg.CRN_STATUS_SPILLING 1
  let s : State := { s with pins := { s.pins with tampDrive := true } }
  let s := ((s.setStep 6).refreshLevels).setServing s.skyClients
  { s with sky := { s.sky with step7 := true, katOk := kat, want := s.skyClients } }

/-- The write counts: the larger of the root store's and the flash copy's (R82). -/
def State.mergeCounts (s : State) : State :=
  (s.setWcnt 0 (max s.root.wcntA (getC 0 s.bale.flashCnt 0))).setWcnt 1 (max s.root.wcntB (getC 0 s.bale.flashCnt 1))

/-- Entry to the no-bale state (R77); the write counts take their values from the ROM (R82, R86). -/
def State.noBale (s : State) : State := s.mergeCounts.setF Reg.HIF_BALE_STATUS_NO_BALE 1

/-- Steps 4 to 6 (R73, R75, R77). A module in Blank loads no bale. -/
def State.steps4to6 (s : State) (kat : Bool) (mis : List (Nat × HubCheck)) : State :=
  if s.lc.st = 0 then s.noBale
  else
    match s.pickSlot mis with
    | (some (slot, fb), t) => t.loadBale slot fb kat
    | (none, t) => t.noBale

/-- The ledger was full before this start: the module moves to End of Life instead of serving. Where it filled in a Halt, its Swale-R comes
now (R98, log 221). -/
def State.ledgerStop (s : State) : State :=
  if s.gorse.full && decide (s.lc.st < 3) then
    (if s.root = {} then s else s.beginSwale 2 25 3).setF Reg.LCS_STATUS_EOL_PENDING 1
  else s

/-- The mask ROM's whole run from step 3 (R72, R89). -/
def State.romStart (s : State) (kat : Bool) (bad : List Nat) (mis : List (Nat × HubCheck)) : State :=
  let s := (s.step3 bad).ledgerStop
  if s.lc.st = 3 || s.lc.st = 4 || s.isSet Reg.LCS_STATUS_EOL_PENDING then s else s.steps4to6 kat mis

/-! ### Steps 7 to 10 (R309, R310, R329, R350, R375, R386) -/

/-- Step 7 has ended: a die supplies, the expander passed its test, every instance is there (R329). -/
def State.step7Done (s : State) : Bool :=
  s.sky.katOk && s.supplyBits != 0 && s.sky.want.isEmpty && decide (s.sky.service.length = serviceCount) &&
    s.skyClients.all (fun c => (getC none s.sky.clients c).isSome)

/-- The root store was lost with the Peat domain's supply (R48). -/
def State.tellRootLost (s : State) : State :=
  if s.bar.rootLost then
    let s : State := { s with bar := { s.bar with rootLost := false } }
    ((s.setF Reg.BAR_EVENT_ROOT_LOST 1).post 0x6005 0 0 0).ledgerRec 0x11 0xFF 4 0
  else s

/-- The first start in Production clears the root store but for the attestation area, whose pending key is the module's from now on
(R90, R100). -/
def State.firstProduction (s : State) : State :=
  if s.lc.st = 2 && !s.lc.prodSeen then
    { s with root := { attKey := s.lc.attPending, attTest := false }, lc := { s.lc with prodSeen := true, attPending := none } }
  else s

/-- A device root is drawn into an empty store; otherwise the era rises (R298, R309). -/
def State.openRoot (s : State) : State :=
  match s.root.root with
  | some _ => s.raiseEra
  | none =>
    let s := match s.draw 10 48 with
      | some (_, t) => t
      | none => s
    s.drawRoot.setF Reg.BAR_STATUS_ROOT_NEW 1

/-- A module that holds no attestation key makes a pair (R100, log 53): the first pair of Test is no new identity. -/
def State.startAttKey (s : State) : State :=
  let s := if s.root.attKey.isSome then s
    else if s.lc.st = 1 && !s.lc.attSeen then
      let (k, s) := s.freeBytes 64
      { s with root := { s.root with attKey := some k, attTest := true } }
    else s.newAttKey
  { s with lc := { s.lc with attSeen := true } }

/-- Step 9: Barrow opens the root store. -/
def State.step9 (s : State) : State :=
  let s := s.tellRootLost.firstProduction.openRoot
  let s := if s.root.seeded then s else s.seedCustodians
  let s := (s.startAttKey.mergeCounts).makeModuleKeys
  ((s.setStep 9).setF Reg.HIF_BALE_EPOCH_HUB_EPOCH s.bale.adoptedEpoch).setF Reg.BAR_STATUS_ROOT_OPEN 1

/-- An XPN channel for which the bale gives no threshold has the one of its suite class (R363). -/
def State.xpnThreshold (s : State) (e : Nat × Nat) : State :=
  let i := (4 * (e.1 / 32) - 0x800000) / 0x40
  let lists (f : Fld) : Bool := s.bale.content.regs.any (fun x => x.1 == f.key)
  if e.1 = (Reg.FUR_CH_DW0_SUITE i).key && s.isXpn i && !lists (Reg.FUR_CH_DW4_EXH_THRESH_LO i) && !lists (Reg.FUR_CH_DW5_EXH_THRESH_HI i) then
    (s.setF (Reg.FUR_CH_DW4_EXH_THRESH_LO i) 0).setF (Reg.FUR_CH_DW5_EXH_THRESH_HI i) 0xC0000000
  else s

/-- Step 10: Furrow takes the bale's defaults; its groups run where `REFCLK_156` is there (R42, R350). -/
def State.furrowStart (s : State) (ref156 : Bool) : State :=
  let s := (s.setF Reg.PWR_CLK_STATUS_REF156_OK (b2n ref156))
  let s : State := { s with bale := { s.bale with ref156 } }
  let s := if ref156 then s else s.post 0x1007 0 0 0
  if s.lc.variant.hasFurrow then
    let s := (s.setF Reg.FUR_GLB_STATUS_REF156_OK (b2n ref156)).applyRegs 10
    let s := (s.bale.content.regs.filter (fun e => decide (0x800000 * 8 ≤ e.1) && decide (e.1 < 0x900000 * 8))).foldl State.xpnThreshold s
    ([0, 1] : List Nat).foldl (fun (s : State) g =>
      let s := (s.setF (Reg.FUR_PG_STAT_MODE g) (s.getF (Reg.FUR_PG_CFG_MODE g))).setPg g (if ref156 then 0 else 3)
      (if ref156 then s.trainPorts g else s).setF (Reg.FUR_PG_RULE_STAT_VALID g) (s.validRules g).length) s
  else s

/-- Step 7 ends, and steps 8 to 10 follow (R72): Thatch keys, the root store, Furrow. -/
def State.entropyUp (s : State) (ref156 : Bool) : State :=
  let s := ((s.setF Reg.HIF_STATUS_ENTROPY_READY 1).setF Reg.HIF_STATUS_START_HELD 0).newNonce
  let s := ((s.thaKey 0).thaKey 1).setStep 8
  let s := (s.step9.furrowStart ref156).setStep 10
  if s.lc.variant.hasFurrow then s.startPersistent else s

/-! ### Step 12 (R72, R193, R198) -/

/-- A populated cell enters service in its role of the map, or fails its self-test; it keeps the role to return to (log 54). -/
def State.serveCell (s : State) (failed : List Nat) (c : Nat) : State :=
  let r := s.mapRole c
  if failed.contains c then { s.failTest c with drv := { (s.failTest c).drv with prior := setC 0 (s.failTest c).drv.prior c (1 + r) } }
  else s.takeRole c r

/-- Full service: cells serve, client instances rest, `READY` is released (R40, R72, R328). A meadow with more than four failed cells is
held (R198). -/
def State.fullService (s : State) (failed : List Nat) : State :=
  let s := s.cells.foldl (fun (s : State) c => s.serveCell failed c) s
  let ms := (List.range 8).filter s.hasMeadow
  let s := ms.foldl (fun (s : State) m => if 4 < s.faultCount m then s.holdMeadow m else s.setMdw m 0) s
  let s := ((s.setServing (if s.sky.service.length < serviceCount then s.sky.serving else [])).setF Reg.HIF_STATUS_FULL_SERVICE 1).overlapCheck
  let s := (if s.getF Reg.DRV_CFG_ST_INTERVAL_MIN = 0 then s else s.spreadTests)
  ((ms.foldl State.armIdle { s with pins := { s.pins with ready := true } })).setStep 12

end Sys2Proof.Machine
end

