-- ==== Sys2Proof/Machine/Start.lean ====
section
/-! DEFINITION. The events of the start sequence, of the reset pins and of the supply's end, and the endpoint's configuration space
(spec/02 R39 and R40, spec/03 R53, R54 and R61, spec/04 R72 to R79, spec/06 R107). -/

namespace Sys2Proof.Machine

/-! ### The start (R54, R72, R78, R329) -/

/-- VIN is valid: step 1 of the start; a `RESET_N` that is low holds the module (R37, R54). -/
def State.vinUp (s : State) : State :=
  if s.pwr.vin then s
  else
    { s with
      pwr := { s.pwr with vin := true, reset := s.pwr.resetHeld, startCause := 1 }
      pins := { s.pins with ready := false, alarmLow := false }, bale := { s.bale with step := 1 } }

def execVinValid (s : State) : Res := .next s.vinUp

/-- The hub core runs the mask ROM once `REFCLK_25` is accepted, with the outcome of the expander's known-answer test, the flash devices
that are absent, unpowered or unresponsive, and the mismatches of the hub digest engines by slot (R42, R44, R72, R285, R329). -/
def execRomStart (kat : Bool) (bad : List Nat) (mis : List (Nat × HubCheck)) (s : State) : Res :=
  .next (if s.pwr.vin && !s.pwr.on && !s.pwr.reset && !s.pwr.resetHeld && (s.bale.step == 1 || s.bale.step == 2) then s.romStart kat bad mis else s)

/-- Step 7 ends, with `REFCLK_156` present or not (R42, R329). -/
def execEntropyReady (ref156 : Bool) (s : State) : Res :=
  .next (s.whenLive (fun s => if s.bale.step = 6 && s.step7Done then s.entropyUp ref156 else s))

/-- No die has four passing sources 500 ms into step 7, or the known-answer test failed: the start is held (R78, R329). -/
def State.startHeld (s : State) : State :=
  if s.bale.step = 6 && (s.supplyBits == 0 || !s.sky.katOk) && !s.isSet Reg.HIF_STATUS_START_HELD then
    (s.setF Reg.HIF_STATUS_START_HELD 1).post 0x7008 0 0 0
  else s

def execStartHeld (s : State) : Res := .next (s.whenLive State.startHeld)

/-- The known-answer test runs again (R329). -/
def execKatRetry (ok : Bool) (s : State) : Res :=
  .next (s.whenLive (fun s => if s.bale.step = 6 && !s.sky.katOk then { s with sky := { s.sky with katOk := ok } } else s))

/-- Step 12, with the cells that fail their self-test (R72). -/
def execFullService (failed : List Nat) (s : State) : Res :=
  .next (s.whenLive (fun s => if s.bale.step = 10 && !s.isSet Reg.LCS_STATUS_EOL_PENDING then s.fullService failed else s))

/-! ### The endpoint (R72 step 11, R107) -/

/-- A stop point of the start, or step 9, has been reached (R72). -/
def State.pastStop (s : State) : Bool :=
  decide (9 ≤ s.bale.step) || s.isSet Reg.HIF_BALE_STATUS_NO_BALE || s.isSet Reg.HIF_STATUS_START_HELD || s.lc.st == 3 || s.lc.st == 4 ||
    s.isSet Reg.LCS_STATUS_EOL_PENDING

/-- The endpoint stops answering with Request Retry Status: step 11 (R72). -/
def State.endpointUp (s : State) : State :=
  if !s.hif.perst && s.pastStop && !s.hif.endpoint then
    let s := { s with hif := { s.hif with endpoint := true } }.setF Reg.PWR_CLK_STATUS_PCIE_REF_OK 1
    if s.bale.step = 10 then s.setF Reg.HIF_STATUS_START_STEP 11 else s
  else s

def execPcieEndpointReady (s : State) : Res := .next (s.whenLive State.endpointUp)

/-- A dword of a capability whose fields the table of R106 fixes: the capability, by its PCI Express identifier (plus 0x10000 for one of the
extended space), the offset in it, and the fields, each with its low bit, width and value. -/
structure CapDword where
  cap : Nat
  off : Nat
  fields : List (Nat × Nat × Nat)
deriving DecidableEq, Repr

/-- The extended capabilities of the function: Advanced Error Reporting, Device Serial Number, ATS, PASID, Data Link Feature, Physical Layer 16.0,
32.0 and 64.0 GT/s, Data Object Exchange, IDE (R106). -/
def extCaps : List Nat := [0x01, 0x03, 0x0F, 0x1B, 0x25, 0x26, 0x2A, 0x31, 0x2E, 0x30]

/-- What R106 fixes in the capabilities, at the places PCI Express gives the fields (PRESUMED, log 52): 512-byte payloads, Extended Tag, 10-bit tags,
Function Level Reset, timeout ranges B and C, no LTR; No_Soft_Reset 0 and no PME; 8,192 vectors with table and PBA in BAR0; the serial number; a
20-bit PASID alone; an invalidate queue of 32 with page-aligned requests; link and eight selective IDE streams without TEE-IO. -/
def State.capDwords (s : State) : List CapDword :=
  [⟨0x10, 0, [(0, 8, 0x10)]⟩, ⟨0x10, 4, [(0, 3, 2), (5, 1, 1), (28, 1, 1)]⟩,
    ⟨0x10, 0x24, [(0, 4, 6), (11, 1, 0), (16, 1, 1), (17, 1, 1)]⟩,
    ⟨0x01, 0, [(0, 8, 0x01), (27, 5, 0)]⟩, ⟨0x01, 4, [(0, 2, if s.hif.d3hot then 3 else 0), (3, 1, 0)]⟩,
    ⟨0x11, 0, [(0, 8, 0x11), (16, 13, 0x1FFF), (30, 1, b2n s.hif.msixMask), (31, 1, b2n s.hif.msixEn)]⟩,
    ⟨0x11, 4, [(0, 32, 0x40000)]⟩, ⟨0x11, 8, [(0, 32, 0x60000)]⟩,
    ⟨0x10003, 4, [(0, 32, leAt s.lc.uid 0 4)]⟩, ⟨0x10003, 8, [(0, 32, leAt s.lc.uid 4 4)]⟩,
    ⟨0x1001B, 4, [(1, 1, 0), (2, 1, 0), (8, 5, 20)]⟩, ⟨0x1000F, 4, [(0, 5, 0), (5, 1, 1), (31, 1, b2n s.hif.atsEn)]⟩,
    ⟨0x10030, 4, [(0, 1, 1), (1, 1, 1), (6, 1, 1), (16, 8, 7), (24, 1, 0)]⟩] ++
  extCaps.map (fun c => ⟨0x10000 + c, 0, [(0, 16, c)]⟩)

/-- A dword with a field set to a value. -/
def fixField (v : Nat) (f : Nat × Nat × Nat) : Nat := v - v / 2 ^ f.1 % 2 ^ f.2.1 * 2 ^ f.1 + f.2.2 % 2 ^ f.2.1 * 2 ^ f.1

/-- A dword of configuration space (R106, R107); what the spec does not name is as PCI Express has it (log 52). -/
def State.configDword (s : State) (d : Nat) : Nat :=
  let put (k : Nat) : Nat := getM Config.configDefault s.hif.cfgSpace k
  if d = 0x00 then Config.vendorId % 65536 + 65536 * 0xEF08
  else if d = 0x08 then Config.stepping % 16 + 256 * 0x108000
  else if d = 0x10 || d = 0x18 then put d % 2 ^ 32 / 0x4000000 * 0x4000000 + 4
  else if d = 0x20 || d = 0x24 || d = 0x30 then 0
  else if d = 0x2C then s.hif.subsys
  else ((s.capDwords.filter (fun c => decide (Config.capAt c.cap + c.off = d))).flatMap CapDword.fields).foldl fixField (put d % 2 ^ 32)

/-- A write of the Message Control dword: Enable and Function Mask act, and messages that are free to go are sent (R121). -/
def State.msixControl (s : State) (val : Nat) : State :=
  let s : State := { s with hif := { s.hif with msixEn := bit val 31, msixMask := bit val 30 } }
  (s.hif.msix.map Prod.fst).foldl State.msixRelease s

/-- A configuration request (R107): Request Retry Status before step 11; afterwards a read is answered, and a write sets what software
may write. -/
def State.configRequest (s : State) (write : Bool) (off val : Nat) : State :=
  let d := off % 4096 / 4 * 4
  if s.hif.perst then s
  else if !s.hif.endpoint then s.emit (.cfg true 0)
  else if !write then s.emit (.cfg false (s.configDword d))
  else if d = Config.capAt 0x11 then (s.msixControl val).emit (.cfg false 0)
  else
    let ats := if d = Config.capAt 0x1000F + 4 then bit val 31 else s.hif.atsEn
    { s with hif := { s.hif with atsEn := ats, cfgSpace := setM Config.configDefault s.hif.cfgSpace d (val % 2 ^ 32) } }.emit (.cfg false 0)

def execPcieConfigRequest (write : Bool) (off val : Nat) (s : State) : Res := .next (s.whenLive (fun s => s.configRequest write off val))

/-! ### Host resets (R26, R79, R107, R118, R130, R142) -/

/-- The HIF registers return to their reset values, but for those R130 keeps and the SMBus address, since the SMBus serves on through the
reset (R128, R130). -/
def State.resetHifRegs (s : State) : State :=
  let keep (key : Nat) : Bool :=
    let a := 4 * (key / 32)
    let lo := key % 32
    decide (0x40 ≤ a) || decide (a < 0x10) || (a == 0x10 && lo != 5 && lo != 6) || a == 0x2C || a == 0x38
  { s with regs := s.regs.filter (fun e => keep e.1) }

/-- Staging in progress is abandoned (R79): an erase or a program that was under way leaves what it had done (log 55). -/
def State.cutStaging (s : State) : State :=
  match s.bale.job with
  | some .erase | some .abortErase =>
    let (v, s) := s.free
    { s.eraseChunks s.bale.target (1 + v % 768) with bale := { (s.eraseChunks s.bale.target (1 + v % 768)).bale with job := none } }
  | some .program | some .abortProgram =>
    match s.bale.written with
    | i :: _ =>
      let (b, s) := s.freeBytes 65536
      { s.setChunk s.bale.target i b with bale := { (s.setChunk s.bale.target i b).bale with job := none } }
    | [] => s
  | _ => { s with bale := { s.bale with job := none } }

/-- A selector bit is being blown for an adoption (R83). -/
def State.blowing (s : State) : Bool := s.lc.job == some .selector

/-- A host reset abandons staging in progress: the stage reads ABORTED (R79). An adoption that has begun is no staging and goes on. DESIGN
CHOICE (log 205): a stage that is VERIFIED or FAILED is no longer in progress and stays. -/
def State.abortStaging (s : State) : State :=
  let st := s.getF Reg.HIF_BALE_STATUS_STAGE
  if (st = 1 || st = 2) && !s.blowing then s.cutStaging.setF Reg.HIF_BALE_STATUS_STAGE 5 else s

/-- A transition to Production whose check runs goes on to its rows, its completion discarded (R99). -/
def State.checkOrphaned (s : State) : State :=
  match s.lc.check with
  | some (2, _) => s.beginRows 2 none
  | some (t, _) => s.setLc { s.lc with check := some (t, none) }
  | none => s

/-- The host interface is reset: queues and graphs bound to host memory end, SPDM sessions and IDE streams end, MSI-X and the registers
return to their reset values, the end of the sessions is reported, and `SKY_DATA` is emptied (R26, R79, R125, R127, R130, R331). -/
def State.hifReset (s : State) (count : Fld) : State :=
  let s := s.checkOrphaned
  let (lost, s) := s.tearDown
  let had := !s.hif.spdm.sessions.isEmpty
  let s := ((s.post 0x2002 0 0 lost).endSessions.ideEnd).abortStaging
  let h := s.hif
  let s : State := { s with
    hif := { perst := h.perst, endpoint := h.endpoint, eid := h.eid, alertMuted := h.alertMuted, alertAt := h.alertAt, subsys := h.subsys
             altBusy := h.altBusy, atsDenied := h.atsDenied }
    sky := { s.sky with buffer := 0 } }
  let s := s.resetHifRegs.bump count
  (if had then s.hifEvent Reg.HIF_EVENT_SPDM_END else s).pollRestarts

def execPerstAssert (s : State) : Res :=
  let t : State := { s with hif := { s.hif with perst := true, endpoint := false } }
  .next (if s.hif.perst then s else t.whenLive (fun s => s.hifReset Reg.HIF_RESET_CNT_PERST))

/-- `PERST_N` is released; the endpoint answers again at its own event (R72, R79). -/
def execPerstRelease (s : State) : Res := .next { s with hif := { s.hif with perst := false } }

def execFunctionLevelReset (s : State) : Res :=
  .next (s.whenLive (fun s => if s.hif.perst then s else s.hifReset Reg.HIF_RESET_CNT_FLR))

/-- Entry to D3hot: descriptor fetch stops on every queue (R107). -/
def execD3hotEntry (s : State) : Res :=
  .next (s.whenLive (fun s => if s.hif.perst then s else { s with hif := { s.hif with d3hot := true } }))

def execD3hotToD0 (s : State) : Res :=
  .next (s.whenLive (fun s => if s.hif.d3hot && !s.hif.perst then s.hifReset Reg.HIF_RESET_CNT_D3 else s))

/-! ### `RESET_N` and the end of supply (R39, R53, R61, R99, R433) -/

/-- A check of a transition is given up with the islands; a pending attestation key is discarded (R99). -/
def State.stopCheck (s : State) : State := if s.lc.check.isSome then s.endCheck else s

/-- A swale in progress counts as complete, its clearing being done: its records are written (R419). -/
def State.stopSwale (s : State) : State :=
  match s.gorse.swale with
  | some w =>
    let s := s.post (if w.kind = 1 then 0xB002 else 0xB003) 0 0 0
    if w.kind = 1 && w.mon = 0xFF then s else s.ledgerRec (w.kind + 1) w.mon 0 w.resp
  | none => s

/-- A selector bit whose blowing is cut is blown or not (R83, log 56). -/
def State.cutSelector (s : State) : State :=
  if s.blowing then
    let (v, s) := s.free
    s.setLc { s.lc with job := none, selBlown := min 16384 (s.lc.selBlown + v % 2) }
  else s

/-- What every stop of the running hub does first. -/
def State.hubStops (s : State) : State := s.stopCheck.stopSwale.cutSelector.cutStaging

/-- A `RESET_N` assertion takes effect (R39, R40, R433): windows close, every island stops. -/
def State.resetEffect (s : State) : State :=
  let ran := s.pwr.on
  let s := if s.live then (s.thaw true).closeWindows.hubStops else s.cutStaging
  let t := s.islandsOff
  { t with
    pwr := { t.pwr with reset := true, resetHeld := s.pwr.resetHeld, startCause := if ran then 2 else s.pwr.startCause }
    bale := { t.bale with step := 2 } }

/-- A fuse write of the life cycle is under way (R39). -/
def State.fuseBusy (s : State) : Bool := s.lc.job.isSome && !s.blowing

/-- `RESET_N` is held low for 1 µs: at once, or when the fuse write ends (R39). -/
def State.resetAssert (s : State) : State :=
  let s : State := { s with pwr := { s.pwr with resetHeld := true } }
  if !s.pwr.vin || s.pwr.reset then s
  else if s.live && s.fuseBusy then s.setLc { s.lc with resetHeld := true }
  else s.resetEffect

def execResetAssert (s : State) : Res := .next (if s.pwr.resetHeld then s else s.resetAssert)

/-- `RESET_N` is released: the module starts again from step 3 (R39, R79). -/
def State.resetRelease (s : State) : State :=
  { s with pwr := { s.pwr with resetHeld := false, reset := false } }

def execResetRelease (s : State) : Res := .next (if s.pwr.resetHeld then s.resetRelease else s)

/-- A fuse write under way is carried to its end by the hold-up store (R61, R99). -/
def State.finishFuses (s : State) : State :=
  match s.lc.job with
  | some (.row t stage target _) =>
    ((List.range 3).filter (fun k => decide (stage ≤ k))).foldl (fun (s : State) k => s.rowDone t k target none) s
  | some (.signer k h) => s.setLc { s.lc with job := none, signers := s.lc.signers.set k (some h) }
  | some (.revoke k _) => s.setLc { s.lc with job := none, revoked := setBit s.lc.revoked k }
  | _ => s

/-- A flush that cannot run: every closed block not yet programmed and the open block are lost (R61, R432). -/
def State.cairnLose (s : State) : State :=
  let c := s.cairn
  let n := c.unspilled.length + b2n (!(c.block c.head).recs.isEmpty)
  { s with cairn := { c with
      unspilled := [], head := 0, tail := 0, lost := n, ring := setC {} [] 0 { seq := c.nextSeq, pcc := c.pcc }, nextSeq := (c.nextSeq + 1) % 2 ^ 32 } }

/-- What the power-down leaves in the hold-up store is a free value no larger than what it held (R61, log 218). -/
def State.drainStore (s : State) : State :=
  let (v, s) := s.free
  { s with pwr := { s.pwr with storeUj := v % (s.pwr.storeUj + 1) } }

/-- VIN falls through its lower threshold (R61): fuse rows finish, Cairn flushes (with the store not charged, only the first `blocks` of its
blocks), the islands stop and the Peat domain keeps the time. -/
def State.vinDown (s : State) (blocks : Nat) : State :=
  if s.pwr.vin then
    let low := s.pins.alarmLow
    let s := if s.live then
        let s := s.finishFuses.hubStops
        s.cairnFlush (if s.isSet Reg.PWR_HOLDUP_CHARGED then 2 else blocks)
      else s.finishFuses.cutStaging.cairnLose
    let t := s.drainStore.islandsOff
    { t with
      pwr := { t.pwr with vin := false }, pins := { t.pins with alarmLow := low }
      gorse := { t.gorse with downTime := t.cairn.opTime, downUs := 0 } }
  else s

def execVinLoss (blocks : Nat) (s : State) : Res := .next (s.vinDown blocks)

/-- Over-voltage for more than 1 ms is treated as VIN loss (R53). -/
def execVinOvervoltage (blocks : Nat) (s : State) : Res := .next (s.vinDown blocks)

end Sys2Proof.Machine
end

