-- ==== Sys2Proof/Machine/Bale.lean ====
section
/-! DEFINITION. Staging and adopting a bale (spec/04 R79 to R86): the bale commands, the ends of their work, the overlap timer. -/

namespace Sys2Proof.Machine

/-! ### Commands (R80, R86) -/

def State.stage (s : State) : Nat := s.getF Reg.HIF_BALE_STATUS_STAGE

/-- Enter a stage state; only VERIFIED shows a staged epoch (R86). -/
def State.setStage (s : State) (x : Nat) : State :=
  let s := s.setF Reg.HIF_BALE_STATUS_STAGE x
  if x = 3 then s else s.setF Reg.HIF_BALE_EPOCH_STAGED_EPOCH 0

def State.baleResult (s : State) (x : Nat) : State := s.setF Reg.HIF_BALE_STATUS_RESULT x

/-- A command that is accepted and whose work begins: the stage is BUSY (R80). -/
def State.beginStage (s : State) (j : StageJob) : State :=
  { (s.setStage 2).baleResult 0 with bale := { ((s.setStage 2).baleResult 0).bale with job := some j } }

/-- The work of BUSY has ended. -/
def State.endStage (s : State) (x code : Nat) : State :=
  let s : State := { s with bale := { s.bale with job := none } }
  (s.setStage x).baleResult code

/-- The slot OPEN erases: the one that does not run, or with none running the one the selector names (R80, R81). -/
def State.openTarget (s : State) : Nat :=
  match s.bale.running with
  | some r => 1 - r
  | none => s.selSlot

/-- OPEN (R80). -/
def State.baleOpen (s : State) : State :=
  let t := s.openTarget
  if s.stage = 2 then s.baleResult 9
  else if s.isSet Reg.HIF_BALE_STATUS_OVERLAP then s.baleResult 2
  else if 10000 ≤ s.wcnt t then s.baleResult 1
  else
    let s := s.setWcnt t (s.wcnt t + 1)
    let s : State := { s with bale := { s.bale with target := t, written := [] } }
    s.beginStage .erase

def execBaleOpen (s : State) : Res := .next (s.whenHif State.baleOpen)

/-- The erase ends; a device that fails it ends the staging with FLASH_ERROR (log 57). -/
def State.erased (s : State) (ok : Bool) : State :=
  if s.stage = 2 && s.bale.job == some .erase then
    if ok then (s.eraseChunks s.bale.target 768).endStage 1 0 else s.cutStaging.endStage 4 7
  else s

def execBaleEraseComplete (ok : Bool) (s : State) : Res := .next (s.whenLive (fun s => s.erased ok))

/-- A dword of the aperture is written, unless the stage is BUSY (R80). -/
def State.apertureWrite (s : State) (off val : Nat) : State :=
  if s.stage = 2 then s
  else { s with bale := { s.bale with aperture := setC 0 s.bale.aperture (off % 65536 / 4) (val % 2 ^ 32) } }

def execBaleApertureWrite (off val : Nat) (s : State) : Res := .next (s.whenHif (fun s => s.apertureWrite off val))

/-- The 64 KiB of the aperture. -/
def State.apertureBytes (s : State) : Bytes := (List.range 16384).flatMap (fun i => le 4 (getC 0 s.bale.aperture i))

/-- WRITE (R80). -/
def State.baleWrite (s : State) : State :=
  let i := s.getF Reg.HIF_BALE_CHUNK_INDEX
  if s.stage ≠ 1 then s.baleResult 9
  else if 767 < i || s.bale.written.contains i then s.baleResult 0xB
  else { s with bale := { s.bale with written := i :: s.bale.written } }.beginStage .program

def execBaleWrite (s : State) : Res := .next (s.whenHif State.baleWrite)

/-- The chunk being programmed takes the aperture's bytes. -/
def State.programChunk (s : State) : State :=
  match s.bale.written with
  | i :: _ => s.setChunk s.bale.target i s.apertureBytes
  | [] => s

/-- A chunk is programmed (R80). -/
def State.chunkDone (s : State) (ok : Bool) : State :=
  if s.stage = 2 && s.bale.job == some .program then
    if ok then s.programChunk.endStage 1 0 else s.cutStaging.endStage 4 7
  else s

def execBaleChunkProgrammed (ok : Bool) (s : State) : Res := .next (s.whenLive (fun s => s.chunkDone ok))

/-- CLOSE (R80). -/
def State.baleClose (s : State) : State := if s.stage ≠ 1 then s.baleResult 9 else s.beginStage .check

def execBaleClose (s : State) : Res := .next (s.whenHif State.baleClose)

/-- The check of a staged bale ends, as steps 4 to 6 would, with the rule EPOCH > E_ADOPT (R80); `mis` are the mismatches of the hub digest
engines in it (R285). -/
def State.closeDone (s : State) (mis : List HubCheck) : State :=
  if s.stage = 2 && s.bale.job == some .check then
    let t := s.bale.target
    let x := s.judgeSlot t (fun e => decide (s.eAdopt < e)) 6 mis
    let s := s.hubNotes x mis
    if x = 0 then
      let s := s.endStage 3 0
      let s : State := { s with bale := { s.bale with
        staged := s.contentOf t, stagedLimit := hdrOverlap (s.header t), stagedEpoch := hdrEpoch (s.header t) } }
      s.setF Reg.HIF_BALE_EPOCH_STAGED_EPOCH (hdrEpoch (s.header t))
    else s.endStage 4 x
  else s

def execBaleCloseCheckComplete (mis : List HubCheck) (s : State) : Res := .next (s.whenLive (fun s => s.closeDone mis))

/-- ABORT (R80): any state is left for ABORTED. The selector bit of an adoption under way is blown to its end and the adoption goes no
further (log 58). -/
def State.baleAbort (s : State) : State :=
  if s.stage = 2 then
    match s.bale.job with
    | some .erase => { s.baleResult 0 with bale := { (s.baleResult 0).bale with job := some .abortErase } }
    | some .program => { s.baleResult 0 with bale := { (s.baleResult 0).bale with job := some .abortProgram } }
    | some .abortErase | some .abortProgram => s.baleResult 0
    | _ => s.endStage 5 0
  else s.endStage 5 0

def execBaleAbort (s : State) : Res := .next (s.whenHif State.baleAbort)

/-- The sector in progress completes: the erase has done as many sectors as it had begun (log 55), a chunk is programmed whole (R80). -/
def State.abortDone (s : State) : State :=
  if s.stage = 2 then
    match s.bale.job with
    | some .abortErase => s.cutStaging.endStage 5 0
    | some .abortProgram => s.programChunk.endStage 5 0
    | _ => s
  else s

def execBaleAbortComplete (s : State) : Res := .next (s.whenLive State.abortDone)

/-! ### Adoption (R83, R84) -/

/-- The module restarts from step 3, as a `RESET_N` would make it (R77). -/
def State.restartNow (s : State) : State :=
  { s.resetEffect with pwr := { s.resetEffect.pwr with reset := s.resetEffect.pwr.resetHeld } }

/-- The staged bale is adopted, its slot named: record, second template bank, overlap and its timer (R83); in the no-bale state the module
restarts (R77). -/
def State.adoptDone (s : State) : State :=
  let e := s.bale.stagedEpoch
  let s : State := { s with root := { s.root with baleRec := some (e, s.eAdopt) } }
  let s := s.endStage 0 0
  if s.bale.running.isNone then s.restartNow
  else
    let s : State := { s with
      bale := { s.bale with
        adopted := s.bale.staged, adoptedEpoch := e, adoptedSlot := s.bale.target, adoptedHdr := s.header s.bale.target, expiryNext := none
        overlapEnd := s.cairn.opTime + 60000 * s.bale.stagedLimit }
      drv := { s.drv with banks := (e, s.bale.staged.templates) :: s.drv.banks.take 1 } }
    ((((s.setF Reg.DRV_STATUS_TWO_BANKS 1).setF Reg.HIF_BALE_STATUS_OVERLAP 1).setF Reg.HIF_BALE_OVERLAP_LIMIT_MIN s.bale.stagedLimit)).overlapCheck

/-- ADOPT (R83, R95). DESIGN CHOICE (log 204): the stage reads BUSY while the selector bit is blown. -/
def State.baleAdopt (s : State) : State :=
  let t := s.bale.target
  if s.stage ≠ 3 then s.baleResult 9
  else if !s.lcPower || s.inRows || s.lc.job.isSome then s.baleResult 0xA
  else if s.isSet Reg.HIF_BALE_STATUS_OVERLAP then s.baleResult 2
  else if s.bale.stagedEpoch ≤ s.eAdopt then s.baleResult 6
  else if t = s.selSlot then s.adoptDone
  else if 16384 ≤ s.lc.selBlown then s.baleResult 8
  else ((s.setStage 2).baleResult 0).beginFuse .selector

def execBaleAdopt (s : State) : Res := .next (s.whenHif State.baleAdopt)

/-- The selector bit is blown, and the adoption goes on unless ABORT has ended it (R80, R83). -/
def State.selectorDone (s : State) : State :=
  let s := ((s.setLc { s.lc with selBlown := s.lc.selBlown + 1 }).endFuse).showFallback
  if s.stage = 2 then s.adoptDone else s

/-- The overlap timer expires (R84). -/
def State.overlapExpire (s : State) : State :=
  if s.isSet Reg.HIF_BALE_STATUS_OVERLAP && s.bale.expiryNext.isNone && decide (s.bale.overlapEnd ≤ s.cairn.opTime) then
    { s with bale := { s.bale with expiryNext := some 0 } }.expiryGo
  else s

def execOverlapTimerExpire (s : State) : Res := .next (s.whenLive (fun s => s.overlapExpire.pollRestarts))

end Sys2Proof.Machine
end

