-- ==== Sys2Proof/Machine/LifeCycleCmd.lean ====
section
/-! DEFINITION. The commands and events of the life cycle and of Stile (spec/05). -/

namespace Sys2Proof.Machine

/-! ### `LCS_CTL` (R92 to R95) -/

/-- ENTER_TEST (R94, R95). Its check has nothing to verify, and the rows follow at once (R96). -/
def State.enterTest (s : State) : State :=
  match s.lcRefusal (permitted s.lc.st 1) with
  | some x => s.lcRefuse x
  | none => if s.lc.signers.all (fun d => d.isNone) then s.lcRefuse refNoSigner else (s.beginCheck 1 none).beginRows 1 none

def execEnterTest (s : State) : Res := .next (s.whenHif State.enterTest)

/-- ENTER_EOL, from Blank only: a Swale-R runs before the rows (R94, R96). -/
def State.enterEol (s : State) : State :=
  match s.lcRefusal (s.lc.st == 0) with
  | some x => s.lcRefuse x
  | none => (s.beginCheck 3 none).beginSwale 2 0xFF 3

def execEnterEol (s : State) : Res := .next (s.whenHif State.enterEol)

/-- The hash in `LCS_SIGNER_DATA`, its first byte lowest (R104). -/
def State.signerData (s : State) : Bytes := (List.range 8).flatMap (fun j => le 4 (s.getF (Reg.LCS_SIGNER_DATA_DATA j)))

/-- The data registers are cleared after each PROGRAM_SIGNER (R104). -/
def State.clearSignerData (s : State) : State := (List.range 8).foldl (fun (s : State) j => s.setF (Reg.LCS_SIGNER_DATA_DATA j) 0) s

/-- PROGRAM_SIGNER (R92, R95). -/
def State.programSigner (s : State) : State :=
  let k := s.getF Reg.LCS_SIGNER_CTL_SLOT
  let h := s.signerData
  let s := s.clearSignerData
  match s.lcRefusal (s.lc.st == 0 || s.lc.st == 1) with
  | some x => s.lcRefuse x
  | none => if ((s.lc.signers[k]?).getD none).isSome then s.lcRefuse refSlotUsed else s.beginFuse (.signer k h)

def execProgramSigner (s : State) : Res := .next (s.whenHif State.programSigner)

/-- NEW_NONCE (R93): refused with reason ENTROPY while no random numbers are there. -/
def State.cmdNonce (s : State) : State := if s.entropyReady then s.newNonce else s.lcRefuse refEntropy

def execNewNonce (s : State) : Res := .next (s.whenHif State.cmdNonce)

/-! ### Graph commands (R93, R95, R96, R101, R103) -/

/-- A use of the nonce: whether the one presented is current, and the state with a new one (R93). -/
def State.useNonce (s : State) (n : Bytes) : Bool × State := (!s.lc.nonce.isEmpty && n == s.nonce, s.newNonce)

/-- The command's status for a refusal (R95). -/
def lcStatus (x : Nat) : Nat := if x = refNotPermitted then St.badOperand else if x = refEntropy then St.entropyUnavailable else St.busy

/-- The check of a transition to Production: the key pair is drawn, its private key pending; the rows begin at the next event (R96, log
59). -/
def checkProduction (gr : Graph) (s : State) : OpRes :=
  gr.withDraw s 64 (fun k s =>
    let s := s.beginCheck 2 (some gr.order)
    .waiting (s.setLc { s.lc with attPending := some k }))

/-- The check of a transition to End of Life begins with its Swale-R, which is the commit point (R96). -/
def checkEol (gr : Graph) (s : State) : OpRes :=
  let s := (s.setGraph gr.order (some { gr with committed := true })).beginCheck 3 (some gr.order)
  .ok (s.beginSwale 2 0xFF 3)

/-- LC_TRANSITION (R95, R96, R103). -/
def lcTransition : OpWork := fun gr s =>
  let b := gr.inp
  let target := byteAt b 0
  if !isSteward gr.qid then .form s St.accessDenied
  else if b.length ≠ 36 then .form s St.badLength
  else if !(target == 2 || target == 3) || !allZero (slice b 1 3) then .form s St.badOperand
  else if s.lc.check == some (2, some gr.order) then .ok (s.beginRows 2 (some gr.order)) (attPublic (s.lc.attPending.getD []))
  else
    match s.lcRefusal (permitted s.lc.st target) with
    | some x => .fail (s.lcRefuse x) (lcStatus x)
    | none =>
      if !s.entropyReady then .fail (s.lcRefuse refEntropy) (lcStatus refEntropy)
      else
        let (ok, s) := s.useNonce (slice b 20 16)
        if !ok || slice b 4 16 != fit 16 s.lc.uid then .fail s St.verifyFailed
        else if target = 2 then checkProduction gr s
        else checkEol gr s

def execLcTransition (g : Nat) (s : State) : Res := .next (s.whenLive (fun s => s.runOp 0x0180 g lcTransition))

/-- The form of a Stile token (R101). -/
def tokenForm (b : Bytes) : Bool :=
  let d := leAt b 0x28 4
  slice b 0 4 == magic 0x53 0x54 0x49 0x4C && leAt b 4 2 == 1 && decide (byteAt b 6 < 16) && decide (1 ≤ d) && decide (d ≤ 1440) && leAt b 0x2C 4 == 0

/-- A token is in force: its scope is open until its duration has passed in operating time (R101). -/
def State.stileOpen (s : State) (scope minutes : Nat) : State :=
  let e := s.cairn.opTime + 60000 * minutes
  let s := (s.timer 4 (s.drv.tick + 60000000 * minutes) .stile).2
  ((((s.setF Reg.STL_STATUS_OPEN 1).setF Reg.STL_STATUS_AUTHORISED 1).setF Reg.STL_STATUS_SCOPE scope).setF Reg.STL_EXPIRY_LO_TIME (e % 2 ^ 32)).setF
    Reg.STL_EXPIRY_HI_TIME (e / 2 ^ 32)

/-- STILE_AUTHORISE (R101, R103). -/
def stileAuthorise : OpWork := fun gr s =>
  let b := gr.inp
  if !isSteward gr.qid then .form s St.accessDenied
  else if b.length ≠ 7904 then .form s St.badLength
  else if !tokenForm b then .form s St.badOperand
  else
    match s.bale.content.stileKeys[byteAt b 7]? with
    | none => .fail s St.keyAbsent
    | some pk =>
      if s.isSet Reg.STL_STATUS_AUTHORISED then .fail s St.busy
      else if !s.entropyReady then .fail s St.entropyUnavailable
      else
        let (ok, s) := s.useNonce (slice b 0x18 16)
        if !ok || slice b 8 16 != fit 16 s.lc.uid || !verifyPure 0x50 pk [] (b.take 0x30) (b.drop 0x30) then .fail s St.verifyFailed
        else .ok (s.stileOpen (byteAt b 6) (leAt b 0x28 4))

def execStileAuthorise (g : Nat) (s : State) : Res := .next (s.whenLive (fun s => s.runOp 0x0181 g stileAuthorise))

/-- The programmed signer slots that are not revoked. -/
def State.liveSigners (s : State) : List Nat :=
  ([0, 1, 2, 3] : List Nat).filter (fun k => ((s.lc.signers[k]?).getD none).isSome && !bit s.lc.revoked k)

/-- SIGNER_REVOKE (R92, R95, R103). -/
def signerRevoke : OpWork := fun gr s =>
  let b := gr.inp
  let k := byteAt b 0
  if !isSteward gr.qid then .form s St.accessDenied
  else if b.length ≠ 4 then .form s St.badLength
  else if 3 < k || !allZero (slice b 1 3) then .form s St.badOperand
  else
    match s.lcRefusal (s.lc.st == 1 || s.lc.st == 2) with
    | some x => .fail (s.lcRefuse x) (lcStatus x)
    | none =>
      if s.liveSigners == [k] then .fail s St.badOperand
      else .ok (s.beginFuse (.revoke k (some gr.order)))

def execSignerRevoke (g : Nat) (s : State) : Res := .next (s.whenLive (fun s => s.runOp 0x0182 g signerRevoke))

/-! ### Fuse writes (R39, R92, R96, R98) -/

/-- A reset that waited for the write takes effect; where its pin was released meanwhile the module starts again (R39). -/
def State.deferredReset (s : State) : State :=
  if s.lc.resetHeld && s.lc.job.isNone then s.restartNow else s

/-- A fuse write and its read-back end: the next row follows, a row that fails twice stops the transition, and a deferred reset takes
effect (R39, R96). The spec gives the failure of a row alone (log 60). -/
def State.fuseDone (s : State) (ok : Bool) : State :=
  match s.lc.job with
  | some (.row t stage target g) =>
    if ok then (s.rowDone t stage target g).deferredReset
    else if s.lc.retried then (s.rowFails t stage g).deferredReset
    else s.setLc { s.lc with retried := true }
  | some (.signer k h) => ((s.setLc { s.lc with signers := s.lc.signers.set k (some h) }).endFuse).deferredReset
  | some (.revoke k _) => ((s.setLc { s.lc with revoked := setBit s.lc.revoked k }).endFuse).deferredReset
  | some .selector => s.selectorDone
  | none => s

def execFuseWriteComplete (ok : Bool) (s : State) : Res := .next (s.whenLive (fun s => s.fuseDone ok))

/-- The ledger is full: the triple of the present state is written with target End of Life once `LC_POWER_OK` is 1 (R98). -/
def State.eolWrite (s : State) : State :=
  if s.isSet Reg.LCS_STATUS_EOL_PENDING && s.lcPower && s.lc.job.isNone && s.phase = 0 && s.gorse.swale.isNone then
    (s.post 0x0001 3 3 0).beginRows 3 none
  else s

def execEolPendingWrite (s : State) : Res := .next (s.whenLive State.eolWrite)

/-! ### Stile (R88, R101, R102) -/

/-- An access to a locked region (R102). -/
def State.stileLocked (s : State) (region : Nat) : State :=
  let s := ((s.bump Reg.STL_LOCK_HITS_HITS).setF Reg.STL_LAST_LOCK_REGION region).noteStileLock
  let last := getC 0 s.lc.lockLast region
  let s := if last = 0 || decide (last + 1000 ≤ s.cairn.opTime + 1) then
      (s.setLc { s.lc with lockLast := setC 0 s.lc.lockLast region (s.cairn.opTime + 1) }).post 0xF001 region region 0
    else s
  s.emit (.stile false 0)

/-- What an access that is served brings: the module's own identity and nonce, otherwise what the spec does not give (log 4). A cell in S1
or S2 is woken first; one in S3 answers with an error and zero (R66). -/
def State.stileServe (s : State) (target : StileTarget) (write : Bool) : State :=
  let (off, s) := match target with
    | .cell c =>
      if s.sleepState (meadowOf c) = 4 then (true, s.bump Reg.PWR_S3_HITS_HITS) else (false, (s.s1Wake (clumpOf c)).s2Wake (meadowOf c))
    | _ => (false, s)
  if off then s.emit (.stile false 0)
  else if write then s.emit (.stile true 0)
  else
    match target with
    | .identity => s.emit (.stile true (leNat (fit 16 s.lc.uid)))
    | .nonce => s.emit (.stile true (leNat s.nonce))
    | _ =>
      let (v, s) := s.free
      s.emit (.stile true v)

/-- The scope bit an access needs in Production, where a scope opens it at all (R101): CELL reaches Fallow cells, FURROW only reads. -/
def State.inScope (s : State) (target : StileTarget) (write : Bool) : Bool :=
  let sc := s.getF Reg.STL_STATUS_SCOPE
  s.isSet Reg.STL_STATUS_AUTHORISED && (match target with
    | .hub => bit sc 0
    | .cell c => bit sc 1 && s.hasCell c && s.cellState c == 3
    | .mbist => bit sc 2
    | .furrow => bit sc 3 && !write
    | _ => false)

/-- The three reads that need no token (R101). -/
def stilePublic (target : StileTarget) (write : Bool) : Bool := (target == .idcode || target == .identity || target == .nonce) && !write

/-- A Stile access (R87, R101, R102). -/
def State.stileAccess (s : State) (target : StileTarget) (write : Bool) : State :=
  if s.lc.st = 0 || s.lc.st = 3 || s.lc.st = 4 then s.stileServe target write
  else if s.lc.st = 2 && !s.isSet Reg.STL_STATUS_AUTHORISED && !stilePublic target write then s.stileLocked 0
  else
    match target with
    | .region r => if r ≤ 5 then s.stileLocked r else s.stileLocked 0
    | _ => if s.lc.st = 1 || stilePublic target write || s.inScope target write then s.stileServe target write else s.stileLocked 0

def execStileAccess (target : StileTarget) (write : Bool) (s : State) : Res := .next (s.whenLive (fun s => s.stileAccess target write))

/-- The locked region a memory lies in (R102). -/
def memRegion (m : TestMem) : Nat :=
  match m with
  | .dram _ => 1
  | .sram _ => 5
  | .rootStore => 2
  | .other => 0

/-- In Production only the restoring test is reachable, with scope MBIST, on DRAM and the SRAM of Fallow cells (R88). -/
def State.bistReach (s : State) (mem : TestMem) : Bool :=
  s.isSet Reg.STL_STATUS_AUTHORISED && bit (s.getF Reg.STL_STATUS_SCOPE) 2 && (match mem with
    | .dram _ => true
    | .sram c => s.hasCell c && s.cellState c == 3
    | _ => false)

/-- A march that restores each word (R88). -/
def restores (m : TestMode) : Bool :=
  match m with
  | .bist _ => true
  | _ => false

/-- A Stile request to enter a memory test mode and run its test (R88). In Test any other mode than the restoring one opens once its
Swale-W is complete. -/
def State.memTest (s : State) (mode : TestMode) (mem : TestMem) : State :=
  if s.lc.st = 2 then
    if restores mode && s.bistReach mem then s.runMemTest mode mem
    else s.stileLocked (if s.isSet Reg.STL_STATUS_AUTHORISED then memRegion mem else 0)
  else if s.lc.st = 1 then
    if mem = .rootStore then s.stileLocked 2
    else if restores mode then s.runMemTest mode mem
    else ((s.setLc { s.lc with memTest := some (mode, mem) }).beginSwale 1 0xFF 2).post 0xF002 0 0 0
  else s.runMemTest mode mem

def execMemoryTestEntry (mode : TestMode) (mem : TestMem) (s : State) : Res := .next (s.whenLive (fun s => s.memTest mode mem))

def execStlRevoke (s : State) : Res := .next (s.whenHif State.stileEnd)

/-- The token's duration has passed in operating time (R101). -/
def State.stileExpire (s : State) : State :=
  if s.getF Reg.STL_EXPIRY_LO_TIME + 2 ^ 32 * s.getF Reg.STL_EXPIRY_HI_TIME ≤ s.cairn.opTime then s.stileEnd else s

def execStileExpiry (s : State) : Res := .next (s.whenLive State.stileExpire)

end Sys2Proof.Machine
end

