-- ==== Sys2Proof/Machine/Power.lean ====
section
/-! DEFINITION. The commands and events of supply, power levels and sleep (spec/03). -/

namespace Sys2Proof.Machine

/-! ### The power cap and sags (R58, R59) -/

/-- The power cap is set (R58). -/
def State.capSet (s : State) : State :=
  if s.isSet Reg.PWR_STATUS_CAP_ACTIVE then s
  else
    ((((s.setF Reg.PWR_STATUS_CAP_ACTIVE 1).bump Reg.PWR_SAG_CNT_CAPS).setF Reg.PWR_EVENT_CAP_SET 1).refreshLevels).post 0x1002 0 0 0

def execPowerCapSet (s : State) : Res := .next (s.whenLive State.capSet)

def execPowerCapClear (s : State) : Res :=
  .next (s.whenLive (fun s => (s.setF Reg.PWR_STATUS_CAP_ACTIVE 0).refreshLevels))

/-- A sag is detected (R59); the stable counter returns to 0 (R60). -/
def State.sagBegin (s : State) : State :=
  if s.isSet Reg.PWR_STATUS_SAG_ACTIVE || !s.isSet Reg.PWR_SAG_CFG_SAG_EN then s
  else
    let s := ((s.setF Reg.PWR_STATUS_SAG_ACTIVE 1).bump Reg.PWR_SAG_CNT_SAGS).setF Reg.PWR_EVENT_SAG_SEEN 1
    let s : State := { s with pwr := { s.pwr with breakS := true } }
    ((s.setF Reg.PWR_LC_STAB_STABLE_MS 0).refreshLcPower.refreshLevels).post 0x1003 0 0 0

def execSagDetect (s : State) : Res := .next (s.whenLive State.sagBegin)

def execSagEnd (s : State) : Res :=
  .next (s.whenLive (fun s => (s.setF Reg.PWR_STATUS_SAG_ACTIVE 0).refreshLevels))

/-- A write of `PWR_SAG_CFG`: a threshold outside 9.5 V to 56.0 V is refused (R59, R71). DESIGN CHOICE (logs 200 and 201): SAG_EN of such a
write is still taken, and SAG_EN written 0 leaves a sag that is in effect to its own end. -/
def State.sagCfg (s : State) (val : Nat) : State :=
  let t := val % 1024
  let s := s.setF Reg.PWR_SAG_CFG_SAG_EN (b2n (bit val 31))
  if 95 ≤ t && t ≤ 560 then s.setF Reg.PWR_SAG_CFG_SAG_THRESH t
  else (s.setF Reg.PWR_EVENT_CFG_REFUSED 1).post 0x1005 0 0 0

def execPwrSagCfgWrite (val : Nat) (s : State) : Res := .next (s.whenHif (fun s => s.sagCfg val))

/-! ### Levels -/

def execLevelStepComplete (m : Nat) (s : State) : Res := .next (s.whenLive (fun s => s.levelStep m))

/-- A level is requested; where the meadow sleeps or changes state it takes effect when it is next ACTIVE (R56, R58, R68). -/
def State.reqLevel (s : State) (m level : Nat) : State :=
  if !s.hasMeadow m then s
  else if s.sleepState m = 0 then (s.setF (Reg.PWR_MDW_CTL_REQ_LEVEL m) level).refreshLevels
  else { s with pwr := { s.pwr with heldReq := setC none s.pwr.heldReq m (some (s.levelInForce m)) } }.setF (Reg.PWR_MDW_CTL_REQ_LEVEL m) level

def execPwrReqLevelWrite (m level : Nat) (s : State) : Res := .next (s.whenHif (fun s => s.reqLevel m level))

/-! ### VIN counters, the operating-time tick and the hold-up store (R60, R421) -/

/-- An excursion of VIN below the level of a counter (R60). -/
def State.vinBreak (s : State) (above16 stab : Bool) : State :=
  let s : State := { s with pwr := { s.pwr with breakA := s.pwr.breakA || above16, breakS := s.pwr.breakS || stab } }
  let s := if above16 then s.setF Reg.PWR_STATUS_ABOVE16_MS 0 else s
  (if stab then s.setF Reg.PWR_LC_STAB_STABLE_MS 0 else s).refreshLcPower

def execVinBreak (above16 stab : Bool) (s : State) : Res := .next (s.whenLive (fun s => s.vinBreak above16 stab))

/-- The 1 ms operating-time tick, with VIN in 10 mV, input power in 0.1 W and VBAK in mV as measured, and with what the comparators say of
the time since the last tick: VIN is below 16.0 V, or below the level of `STABLE_MS`. The readings are updated, and each counter rises unless
a break occurred (R60, R71, R421). DESIGN CHOICE (log 202): `VBAK_MV` is updated where the operating time is a multiple of 100. -/
def State.opTick (s : State) (vin pin vbak : Nat) (low16 lowStab : Bool) : State :=
  let t := s.cairn.opTime
  let s := (s.setF Reg.PWR_INPUT_VIN_CV vin).setF Reg.PWR_INPUT_PIN_DW pin
  let s := if t % 100 = 0 then s.setF Reg.PWR_VBAK_VBAK_MV vbak else s
  let s := if low16 then s.setF Reg.PWR_STATUS_ABOVE16_MS 0 else if s.pwr.breakA then s else s.bump Reg.PWR_STATUS_ABOVE16_MS
  let s := if lowStab then s.setF Reg.PWR_LC_STAB_STABLE_MS 0
    else if s.pwr.breakS || s.isSet Reg.PWR_STATUS_SAG_ACTIVE then s
    else s.bump Reg.PWR_LC_STAB_STABLE_MS
  let s : State := { s with pwr := { s.pwr with breakA := false, breakS := false } }
  s.showEnergy

/-- The operating time advances and the hold-up store charges while VIN is valid, through resets and Halt (R60, R421). -/
def State.opTime (s : State) : State :=
  if s.pwr.vin then { s with cairn := { s.cairn with opTime := s.cairn.opTime + 1 } }.chargeStore else s

def execOperatingTimeTick (vin pin vbak : Nat) (low16 lowStab : Bool) (s : State) : Res :=
  .next (s.opTime.whenLive (fun s => s.opTick vin pin vbak low16 lowStab))

/-- The store has reached 5.20 J: `CHARGED` is set (R60). -/
def execHoldupCharged (s : State) : Res :=
  .next (s.whenLive (fun s => if 520 ≤ s.pwr.storeUj / 10000 then s.showEnergy else s))

/-- The store has been drawn on and holds `energy` units of 10 mJ, fewer than 500: `CHARGED` clears (R60). -/
def execHoldupDischarged (energy : Nat) (s : State) : Res :=
  .next (s.whenLive (fun s =>
    if energy < 500 && 10000 * energy ≤ s.pwr.storeUj then { s with pwr := { s.pwr with storeUj := 10000 * energy } }.showEnergy else s))

/-! ### Clock stretch (R69) -/

/-- By how much a drop of a rail, in percent, lengthens the period of an island: 0 to 31 are the clumps, 32 and 33 the Furrow port
groups, 34 the hub core, 35 the Drover central block, 36 the PCIe block, 37 and 38 the DRAM controllers, 39 and 40 the dispatch agents of
the east and the west die (R15, R69). -/
def stretchOf (island drop : Nat) : Nat :=
  if drop < 4 then 0 else if island = 32 || island = 33 then 2 else if drop < 8 then 25 else 50

/-- The counter of stretch events of an island (R71). -/
def droopCount (island : Nat) : Fld :=
  if island < 32 then Reg.PWR_DROOP_CNT_CELL else if island < 34 then Reg.PWR_DROOP_CNT_FURROW else Reg.PWR_DROOP_CNT_OTHER

/-- A stretch begins, or moves to a deeper row (R69). -/
def State.droop (s : State) (island drop : Nat) : State :=
  let was := getC 0 s.pwr.stretch island
  let now := stretchOf island drop
  if 41 ≤ island || now ≤ was then s
  else
    let s : State := { s with pwr := { s.pwr with stretch := setC 0 s.pwr.stretch island now } }
    if was = 0 then s.bump (droopCount island) else s

def execDroopStretchBegin (island pct : Nat) (s : State) : Res := .next (s.whenLive (fun s => s.droop island pct))

/-- A rail has stayed for 1 µs above a threshold it had crossed, its drop now `drop` percent: the stretch ends, or falls back to the row
of that drop (R69). -/
def State.droopEnd (s : State) (island drop : Nat) : State :=
  let now := stretchOf island drop
  if getC 0 s.pwr.stretch island ≤ now then s else { s with pwr := { s.pwr with stretch := setC 0 s.pwr.stretch island now } }

def execDroopStretchEnd (island pct : Nat) (s : State) : Res := .next (s.whenLive (fun s => s.droopEnd island pct))

/-! ### S1 (R63) -/

/-- A clump has been idle long enough: it enters S1 (R63). DESIGN CHOICE (log 203): a clump in S1 stays there when S1_EN is written 0, until
its next wake. -/
def State.s1Entry (s : State) (clump : Nat) : State :=
  let cs := (List.range 8).map (fun i => 8 * clump + i)
  if decide (clump < 32) && s.hasMeadow (clump / 4) && s.sleepState (clump / 4) = 0 && s.isSet Reg.PWR_SLEEP_CFG_S1_EN && cs.all s.slotsEmpty &&
      (s.port clump).req.isEmpty then
    { s with pwr := { s.pwr with s1 := setC false s.pwr.s1 clump true } }
  else s

def execS1Entry (clump : Nat) (s : State) : Res := .next (s.whenLive (fun s => s.s1Entry clump))

def execS1Wake (clump : Nat) (s : State) : Res := .next (s.whenLive (fun s => s.s1Wake clump))

/-! ### S2 and S3 (R64 to R68) -/

/-- `ENTER_S2` (R64, R68). -/
def State.cmdS2 (s : State) (m : Nat) : State :=
  match s.sleepState m with
  | 0 => if s.hasMeadow m then s.beginS2 m else s.sleepRefused m
  | 1 | 2 => s
  | _ => s.sleepRefused m

def execEnterS2 (m : Nat) (s : State) : Res := .next (s.whenHif (fun s => if m < 8 then s.cmdS2 m else s))

/-- A meadow that has held no work for `S2_IDLE_US` enters S2 by itself (R64). -/
def execS2IdleEntry (m : Nat) (s : State) : Res :=
  .next (s.whenLive (fun s =>
    if s.isDue (.sleep m) then
      let s := s.dropTimer (.sleep m)
      if s.sleepState m = 0 && s.getF Reg.PWR_SLEEP_CFG_S2_IDLE_US ≠ 0 && s.noWork m then s.beginS2 m else s
    else s))

/-- `ENTER_S3` (R65, R68). -/
def State.cmdS3 (s : State) (m : Nat) : State :=
  match s.sleepState m with
  | 0 => if s.hasMeadow m then s.beginS3 m else s.sleepRefused m
  | 2 => s.beginS3 m
  | 3 | 4 => s
  | _ => s.sleepRefused m

def execEnterS3 (m : Nat) (s : State) : Res := .next (s.whenHif (fun s => if m < 8 then s.cmdS3 m else s))

/-- `WAKE` (R65, R68). -/
def State.cmdWake (s : State) (m : Nat) : State :=
  match s.sleepState m with
  | 0 => if s.hasMeadow m then s else s.sleepRefused m
  | 1 | 3 => s.setSleep m 6
  | 2 => (s.setSleep m 5).setDeep m false
  | 4 => (s.setSleep m 5).setDeep m true
  | 5 | 6 => s
  | _ => s.sleepRefused m

def execWakeCmd (m : Nat) (s : State) : Res := .next (s.whenHif (fun s => if m < 8 then s.cmdWake m else s))

/-- An entry is complete once the meadow's slots are empty and its ports idle: the save list is written; a held wake begins at once (R64, R65,
R68), as does that of a meadow whose restart waits for its reload. Operand RAMs are clear by then. A meadow in S3 reads FALLOW (R191). -/
def State.entryDone (s : State) (m : Nat) (toS3 : Bool) : State :=
  let st := s.sleepState m
  if s.noWork m && s.portsIdle m && s.deep m == toS3 && (st = (if toS3 then 3 else 1) || st = 6) then
    let s := (cellsOf m).foldl (fun s c =>
      (s.closeMismatch c).clearOram c) (s.saveMeadow m)
    let s := if toS3 then s.setMdw m 5 else s
    s.setSleep m (if st = 6 || s.mdwState m = 3 then 5 else if toS3 then 4 else 2)
  else s

def execS2EntryComplete (m : Nat) (s : State) : Res := .next (s.whenLive (fun s => s.entryDone m false))

def execS3EntryComplete (m : Nat) (s : State) : Res := .next (s.whenLive (fun s => s.entryDone m true))

/-- A wake from S3 ends: the digests of the adopted slot matched and the save list is restored, or one did not match (R65, R84); `misread`
is a section the flash device returned wrong. The reload takes an expander instance of a fresh seed; without one it waits, and the event
comes again (R328). -/
def State.s3Woken (s : State) (m : Nat) (misread : Option Nat) : State :=
  if s.sleepState m = 5 && s.deep m && s.mdwState m ≠ 3 then
    match s.badSection misread with
    | some t => ((s.wakeFallow m).wakeDone m).post 0xE004 m t 0
    | none =>
      if s.sky.seeds = 0 then s.post 0x7009 m 0 m
      else
        let s := ((s.freshClient m).endServe m).wakeFallow m
        let s : State := { s with bale := { s.bale with mdwEpoch := setC 0 s.bale.mdwEpoch m s.bale.adoptedEpoch } }
        (s.wakeDone m).overlapCheck
  else s

def execS3WakeComplete (m : Nat) (misread : Option Nat) (s : State) : Res := .next (s.whenLive (fun s => s.s3Woken m misread))

def execS2Wake (m : Nat) (s : State) : Res := .next (s.whenLive (fun s => s.s2Wake m))

/-- A wake from S2 ends: the save memory's integrity holds, or the wake proceeds as one from S3, as it does where a swale cleared
the retained SRAM (R67). -/
def State.s2Woken (s : State) (m : Nat) (ok : Bool) : State :=
  if s.sleepState m = 5 && !s.deep m && s.mdwState m ≠ 3 then
    if !ok then
      let s := (s.setF (Reg.PWR_MDW_STAT_SAVE_FAULT m) 1).setF Reg.PWR_EVENT_SAVE_FAULT 1
      let s : State := { s with pwr := { s.pwr with saveBad := setC false s.pwr.saveBad m true } }
      (s.post 0x1006 m 0 0).reloadAsS3 m
    else if getC false s.pwr.wiped m then s.reloadAsS3 m
    else (s.wakeDone m).runStalled m
  else s

def execS2WakeComplete (m : Nat) (ok : Bool) (s : State) : Res := .next (s.whenLive (fun s => s.s2Woken m ok))

end Sys2Proof.Machine
end

