-- ==== Sys2Proof/Machine/Skylark.lean ====
section
/-! DEFINITION. Skylark's events and the 0x09xx commands (spec/15). -/

namespace Sys2Proof.Machine

/-! ### Blocks -/

/-- The recovery after a swale ends with a whole service pool: the clients' own instances rest, but for the meadows in self-test (R328). -/
def State.endRecovery (s : State) : State :=
  let tests (m : Nat) : Bool := decide (m < 8) && (s.mdwState m == 3 || s.mdwState m == 4 || (List.range 32).any (fun i => s.cellState (32 * m + i) == 4))
  s.setServing (s.sky.serving.filter tests)

/-- A source completes a 1,024-bit conditioned block: it is tested, counted, and used or discarded (R323 to R326, R329). -/
def State.noiseBlock (s : State) (k : Nat) (bits : List Bool) : State :=
  let x := s.src k
  let used0 := x.inUse
  let lr := longestRun x.last x.run bits
  let bad := decide (41 ≤ lr.1) || decide (641 ≤ proportion bits)
  let n := x.blocks + 1
  let fails := (if bad then n :: x.fails else x.fails).filter (fun f => decide (n < f + 1024))
  let up := if !s.sky.step7 then x.up else if bad then 0 else x.up + 1
  let s := s.setSrc k { x with blocks := n, fails, last := lr.2.2, run := lr.2.1, up, passed := x.passed || decide (200 ≤ up) }
  let s := if bad then ((s.bump Reg.SKY_FAILS_COUNT).bump (Reg.SKY_SRC_TOTAL k)).setF Reg.SKY_EVENT_HEALTH_FAIL 1 else s
  let j := s.judgeSrc k
  let s := j.refreshSupply ((s.src k).excl && !(j.src k).excl)
  let s := if !bad && used0 && (s.src k).inUse && s.supplies (srcDie k) then s.makeSeed (srcDie k) else s
  let t := State.instantiateAll 24 s
  let whole (s : State) : Bool := s.sky.service.length == serviceCount
  (if s.bale.step = 12 && !whole s && whole t then t.endRecovery else t).refreshDrbg

def execNoiseBlockComplete (src : Nat) (bits : List Bool) (s : State) : Res :=
  .next (s.whenLive (fun s =>
    if decide (src < 24) && bits.length = 1024 && decide (3 ≤ s.bale.step) then (s.noiseBlock src bits).drawNonce else s))

/-- A LIMIT outside 1 to 16 is refused (R335); a lower one excludes at the next block end (R324). -/
def State.setLimit (s : State) (val : Nat) : State :=
  let l := val % 32
  if 1 ≤ l && l ≤ 16 then s.setF Reg.SKY_FAIL_LIMIT_LIMIT l else s.setF Reg.SKY_EVENT_CFG_REFUSED 1

def execSkyFailLimitWrite (val : Nat) (s : State) : Res := .next (s.whenOpen (fun s => s.setLimit val))

/-! ### Instances -/

/-- An instance ends its reseed, or one that is due takes a seed and reseeds (R327). Instances 0 to 7 are the service pool, 8 + c is
the instance of client c. -/
def State.reseed (s : State) (inst : Nat) : State :=
  let x : Option Drbg := if inst < 8 then s.sky.service[inst]? else getC none s.sky.clients (inst - 8)
  let put (k : Skylark) : Skylark :=
    if inst < 8 then { k with service := k.service.set inst {} } else { k with clients := setC none k.clients (inst - 8) (some {}) }
  match x with
  | some x =>
    if x.reseeding then ({ s with sky := put s.sky }.bump Reg.SKY_RESEEDS_COUNT).refreshDrbg
    else if drbgDue ≤ x.count && 0 < s.sky.seeds then
      ({ s with sky := put { s.sky with seeds := s.sky.seeds - 1 } }.bump Reg.SKY_RESEEDS_COUNT).refreshDrbg
    else s
  | none => s

def execExpanderReseed (inst : Nat) (s : State) : Res := .next (s.whenLive (fun s => (s.reseed inst).drawNonce))

/-! ### Reads -/

/-- A stalling read (R330): served, the bytes are held for the node that asked (R261); otherwise it stalls. -/
def State.randomRead (s : State) (r : Reader) (client n : Nat) : State :=
  match s.draw client n with
  | none => s.stall r
  | some (b, t) =>
    let t := t.unstall r
    match r with
    | .node g =>
      match t.graph g with
      | some gr => if (t.openNode g).isSome then t.setGraph g (some { gr with drawn := gr.drawn ++ b }) else t
      | none => t
    | _ => t

def execRandomRead (reader : Reader) (client n : Nat) (s : State) : Res :=
  .next (s.whenLive (fun s => s.randomRead reader client n))

/-- A read stalled for 50 ms ends its node with ENTROPY_UNAVAILABLE (R330); a flagged descriptor that waits for a nonce likewise. -/
def State.stallTimeout (s : State) (r : Reader) : State :=
  if s.stalledOut r then
    let s := (s.unstall r).post 0x7007 0 0 0
    match r with
    | .node g => s.endGraph g St.entropyUnavailable (s.openNode g)
    | .queue qid =>
      match (s.queue qid).waiting with
      | w :: rest =>
        if w.pend.isNone && w.tpl.quorum.isSome then
          (s.setQueue qid { s.queue qid with waiting := rest }).refuse qid w.desc.tag St.entropyUnavailable
        else s
      | [] => s
    | _ => s
  else s

def execRandomStallTimeout (reader : Reader) (s : State) : Res := .next (s.whenLive (fun s => s.stallTimeout reader))

/-- A read of SKY_DATA (R331, R77, R78): 24 fresh bits, or zero with EMPTY_READ set; while a start that is held or without a bale hides the
block, zero alone. -/
def State.skyData (s : State) : State :=
  if !s.fullMap then s.answer 0
  else if 0 < s.sky.buffer then
    let (v, s) := s.free
    { s with sky := { s.sky with buffer := s.sky.buffer - 1 } }.answer (v % 2 ^ 24 + 2 ^ 31)
  else (s.setF Reg.SKY_STATUS_EMPTY_READ 1).answer 0

def execSkyDataRead (s : State) : Res := .next (s.whenHif State.skyData)

/-- The service pool refills one entry of the buffer (R331). -/
def State.skyRefill (s : State) : State :=
  if s.isSet Reg.HIF_STATUS_ENTROPY_READY && s.sky.buffer < 256 then
    match s.sky.request with
    | some k => { s with sky := { k with buffer := k.buffer + 1 } }.refreshDrbg
    | none => s
  else s

def execSkyDataRefill (s : State) : Res := .next (s.whenLive State.skyRefill)

/-! ### Commands (R333) -/

/-- RANDOM_GENERATE (R333). -/
def randomGenerate : OpWork := fun gr s =>
  let b := gr.inp
  let n := leAt b 0 2
  if b.length ≠ 4 then .form s St.badLength
  else if leAt b 2 2 ≠ 0 || n = 0 then .form s St.badOperand
  else if gr.desc.outLen < n then .form s St.badLength
  else gr.withDraw s n (fun r t => .ok t r)

def execRandomGenerate (g : Nat) (s : State) : Res := .next (s.whenLive (fun s => s.runOp 0x0901 g randomGenerate))

/-- An instance of the service pool that can reseed at once. -/
def Skylark.freshIdx (k : Skylark) : Option Nat :=
  let n := k.service.length
  ((List.range n).map (fun i => (k.next + i) % n)).find? (fun i => match k.service[i]? with
    | some x => !x.reseeding
    | none => false)

/-- RANDOM_FRESH: an instance reseeds from a new seed and generates; without a seed the node stalls (R333). -/
def randomFresh : OpWork := fun gr s =>
  let b := gr.inp
  let n := leAt b 0 2
  if b.length ≠ 4 then .form s St.badLength
  else if leAt b 2 2 ≠ 0 || n = 0 || 64 < n then .form s St.badOperand
  else if gr.desc.outLen < n then .form s St.badLength
  else
    match s.sky.freshIdx with
    | some i =>
      if 0 < s.sky.seeds then
        let k := { s.sky with seeds := s.sky.seeds - 1, service := s.sky.service.set i { count := 1 }, next := (i + 1) % s.sky.service.length }
        let (r, t) := (({ s with sky := k }.bump Reg.SKY_RESEEDS_COUNT).refreshDrbg).freeBytes n
        .ok t r
      else { status := St.entropyUnavailable, st := s, stall := true }
    | none => { status := St.entropyUnavailable, st := s, stall := true }

def execRandomFresh (g : Nat) (s : State) : Res := .next (s.whenLive (fun s => s.runOp 0x0902 g randomFresh))

end Sys2Proof.Machine
end

