-- ==== Sys2Proof/Machine/AccessOps.lean ====
section
/-! DEFINITION. What a BAR0 read returns and what it clears or latches (spec/00 R10 to R12): the register fields, and the fields
that are computed from the state that holds them. -/

namespace Sys2Proof.Machine

/-! ### Where an access lands (R3, R66, R77, R110) -/

/-- The space BAR0 covers (R109). -/
def barSize : Nat := 0x4000000

/-- The Hedgerow unit whose window holds an offset. -/
def hedgeUnit (off : Nat) : Nat := (off - 0xC10000) / 0x400

/-- The offset lies in the window of a Hedgerow unit (R393, R401). -/
def inHedge (off : Nat) : Bool := decide (0xC10000 ≤ off) && decide (off < 0xC10000 + 0x400 * 259)

/-- The offset lies in the register window of a unit the variant leaves out (R3, R356, R393, R447). -/
def State.absent (s : State) (off : Nat) : Bool :=
  (decide (0x600000 ≤ off) && decide (off < 0xC00000) && !s.lc.variant.hasFurrow) ||
    (decide (0x300000 ≤ off) && decide (off < 0x400000) && !s.hasCell ((off - 0x300000) / 0x1000)) ||
    (inHedge off && !s.hasUnit (hedgeUnit off)) ||
    (decide (0x1100000 ≤ off) && decide (off < 0x1200000) && !s.lc.variant.hasPqc)

/-- A start that is held, without a bale or past service hides every block but HIF global, Gorse, Cairn, power and clocks, and life
cycle (R77, R78, R89). -/
def State.hidden (s : State) (off : Nat) : Bool :=
  let b := off / 0x100000
  !s.fullMap && !(b = 0 || b = 0xD || b = 0xE || b = 0xF || b = 0x10)

/-- The cell whose window an offset lies in: its control window or its Hedgerow unit's (R66, R201, R401). -/
def cellAt (off : Nat) : Option Nat :=
  if 0x300000 ≤ off && off < 0x400000 then some ((off - 0x300000) / 0x1000)
  else if inHedge off && hedgeUnit off < 256 then some (hedgeUnit off)
  else none

/-- The cell of a sleeping window: its meadow is in S3 (R66). -/
def State.inS3 (s : State) (off : Nat) : Option Nat :=
  match cellAt off with
  | some c => if s.sleepState (meadowOf c) = 4 then some c else none
  | none => none

/-- An access to a cell window wakes its clump from S1 and its meadow from S2 (R66). -/
def State.wakeFor (s : State) (off : Nat) : State :=
  if 0x300000 ≤ off && off < 0x400000 then
    let c := (off - 0x300000) / 0x1000
    (s.s1Wake (clumpOf c)).s2Wake (meadowOf c)
  else s

/-! ### Fields computed from the state -/

/-- Minutes left of `ms` milliseconds, rounded up: a timer that runs never reads 0 (R86, R170). -/
def minutesLeft (ms : Nat) : Nat := (ms + 59999) / 60000

/-- The epoch and count fields of the bale registers take their values at step 9, or in the no-bale state at once (R86). -/
def State.baleShown (s : State) : Bool := decide (9 ≤ s.bale.step) || s.isSet Reg.HIF_BALE_STATUS_NO_BALE

/-- Fields marked root store read zero before step 9 (R170, R321, R447). -/
def State.rootShown (s : State) : Bool := decide (9 ≤ s.bale.step)

/-- The bale registers (R86). -/
def State.viewBale (s : State) (off lo : Nat) : Option Nat :=
  if off = 0x208 && lo = 3 then some (s.bale.running.getD s.selSlot)
  else if off = 0x208 && lo = 4 then some s.selSlot
  else if off = 0x20C then some (if s.baleShown then s.eAdopt else 0)
  else if off = 0x218 then some (if s.baleShown then s.wcnt 0 else 0)
  else if off = 0x21C then some (if s.baleShown then s.wcnt 1 else 0)
  else if off = 0x220 then some (if s.baleShown then 16384 - s.lc.selBlown else 0)
  else if off = 0x224 && lo = 0 then
    some (if s.isSet Reg.HIF_BALE_STATUS_OVERLAP then min 65535 (minutesLeft (s.bale.overlapEnd - s.cairn.opTime)) else 0)
  else none

/-- Cells of a list in state ACTIVE. -/
def State.activeOf (s : State) (l : List Nat) : Nat := (l.filter (fun c => s.cellState c == 0)).length

/-- The Drover registers (R200). -/
def State.viewDrv (s : State) (off lo : Nat) : Option Nat :=
  let o := off - 0x200000
  if o = 0x1C then some (s.drv.timers.length + s.graphCount)
  else if o = 0x28 then some s.drv.tick
  else if o = 0x2C then some s.drv.tickLatch
  else if 0x40 ≤ o && o < 0x80 then
    let k := (o - 0x40) / 4
    let n := (s.readyList (readyKey (k / 8) (k % 8))).length
    if lo = 0 then some n
    else if lo = 12 then some (b2n (decide (2048 ≤ n)))
    else some (s.activeOf (s.cells.filter (fun c => dieOf c == k / 8 && s.cellRole c == k % 8)))
  else if 0xA0 ≤ o && o < 0xC0 then
    let m := (o - 0xA0) / 4
    if lo = 3 then some (if s.hasMeadow m then s.faultCount m else 0)
    else if lo = 9 then some (if s.hasMeadow m then s.activeOf (cellsOf m) else 0)
    else none
  else none

/-- `SWD_CELL_STAT` (R201). -/
def State.viewCell (s : State) (off lo : Nat) : Option Nat :=
  let c := (off - 0x300000) / 0x1000
  if off % 0x1000 = 0 then
    if lo = 16 then some (b2n (s.slotOf c 0).isSome)
    else if lo = 17 then some (b2n (s.slotOf c 1).isSome)
    else if lo = 18 then some (b2n ((s.slotOf c 0).any (fun x => x.mode == .yielded) || (s.slotOf c 1).any (fun x => x.mode == .yielded)))
    else if lo = 19 then some (b2n (decide (s.cellState c < 3) && s.cellEpoch c != s.bale.adoptedEpoch))
    else none
  else none

/-- How many slots have a state. -/
def State.slotsIn (s : State) (p : KSlot → Bool) : Nat := (s.bar.slots.filter (fun x => p x.2)).length

/-- The Barrow registers (R321). -/
def State.viewBar (s : State) (off lo : Nat) : Option Nat :=
  let o := off - 0x400000
  if o = 0 && lo = 0 then some (if s.rootShown then s.root.era else 0)
  else if o = 0 && lo = 10 then some (b2n (decide (slotCount ≤ s.slotsIn (fun x => x.st != .free)) && s.oldestOrphan.isNone))
  else if o = 4 then some (s.slotsIn (fun x => x.st != .free))
  else if o = 8 then some (s.slotsIn (fun x => x.st == .orphaned))
  else if o = 0xC then some (s.slotsIn (fun x => x.st == .poisoned))
  else if o = 0x10 then some s.bar.hotE.length
  else if o = 0x14 then some s.bar.hotW.length
  else if o = 0x28 && lo = 0 then some (if s.rootShown then (s.root.masters.filter (fun x => x.2.present)).length else 0)
  else if o = 0x28 then some (if s.rootShown then b2n (s.master 2048).present else 0)
  else none

/-- The Skylark registers (R335). -/
def State.viewSky (s : State) (off lo : Nat) : Option Nat :=
  let o := off - 0x500000
  if o = 0 && lo = 16 then some (s.srcsIn 0 + s.srcsIn 1 + s.srcsIn 2)
  else if o = 8 then some ((List.range 24).foldl (fun v k => if (s.src k).inUse then v else setBit v k) 0)
  else if o = 0x1C then some (s.sky.service.foldl (fun m x => max m x.count) 0)
  else if 0x40 ≤ o && o < 0xA0 then
    let x := s.src ((o - 0x40) / 4)
    if lo = 0 then some x.fails.length else if lo = 11 then some (b2n (!x.inUse)) else none
  else none

/-- The port whose register an offset is, side and number. -/
def portAt (off : Nat) : Nat × Nat := ((off - 0x620000) / 0x8000, (off - 0x620000) % 0x8000 / 0x800)

/-- The Furrow registers (R357, R380); those of a port the mode leaves out read as zero (R353). -/
def State.viewFur (s : State) (off lo : Nat) : Option Nat :=
  if 0x620000 ≤ off && off < 0x630000 then
    let i := pix (portAt off).1 (portAt off).2
    if !s.portExists (portAt off).2 then some 0
    else if off % 0x800 = 0x14 then some (s.getF (rxOct i))
    else if off % 0x800 = 0x20 then some (s.getF (txOct i))
    else none
  else if 0x900000 ≤ off && off < 0xB00000 then
    let a := (off - 0x900000) / 0x20
    if off % 0x20 = 0 && lo = 1 then some (if s.saState a = 1 && s.saInUse a then 2 else s.saState a)
    else if off % 0x20 = 4 then some (s.sa a).pn
    else none
  else if off = 0xB00010 || off = 0xB00014 then
    match getC [] s.fur.fifo ((off - 0xB00010) / 4) with
    | e :: _ => some (if lo = 0 then e.1 else if lo = 16 then b2n e.2 else 1)
    | [] => some 0
  else none

/-- The rule dwords of a Hedgerow unit (R401). -/
def State.viewHedge (s : State) (off lo : Nat) : Option Nat :=
  let o := (off - 0xC10000) % 0x400
  if inHedge off && 0x100 ≤ o && o < 0x300 then
    some (s.ruleDword (hedgeUnit off) ((o - 0x100) / 0x100) (o % 0x100 / 16) (o % 16 / 4) / 2 ^ lo)
  else none

/-- The Gorse registers (R420). -/
def State.viewGor (s : State) (off lo : Nat) : Option Nat :=
  let o := off - 0xD00000
  if o = 0xC && lo = 0 then some s.gorse.ledger.length
  else if o = 0xC && lo = 13 then some (min 64 s.gorse.peat.length)
  else if 0x14 ≤ o && o < 0x24 then
    some (match s.gorse.ledger[s.getF Reg.GOR_LEDGER_SEL_INDEX]? with
      | some r => leAt r (o - 0x14) 4
      | none => 0)
  else if o = 0x28 && lo = 16 then some (min 65535 ((s.cairn.opTime - s.gorse.fullAt) / 60000))
  else none

/-- The Cairn registers (R434). -/
def State.viewCrn (s : State) (off lo : Nat) : Option Nat :=
  let o := off - 0xE00000
  let p := s.cairn.spillPos
  if o = 0 && lo = 3 then some s.cairn.unspilled.length
  else if o = 0xC && lo = 0 then some (16 + (s.cairn.block s.cairn.head).used)
  else if o = 0xC then some s.cairn.head
  else if o = 0x10 then some s.cairn.tail
  else if o = 0x14 then some (if lo = 0 then p / spillPerDev else if lo = 1 then p % spillPerDev / 16 else p % 16)
  else if o = 0x1C then some s.cairn.opTime
  else if o = 0x20 then some s.cairn.timeLatch
  else if o = 0x24 then some s.cairn.pcc
  else none

/-- The Commons registers (R447). -/
def State.viewCmn (s : State) (off lo : Nat) : Option Nat :=
  let o := off - 0x1100000
  let m := s.root.cmn
  let x := s.cmnSess (s.getF Reg.CMN_PEER_SEL_INDEX)
  let root (v : Nat) : Option Nat := some (if s.rootShown then v else 0)
  if o = 0 && lo = 0 then root (b2n m.member)
  else if o = 0 && lo = 2 then some (b2n (m.member && s.rosterIn && s.keeper == m.self))
  else if o = 0 && lo = 3 then some (s.cmn.sess.filter (fun x => !x.opening)).length
  else if o = 0 && lo = 16 then root m.replicas.length
  else if o = 0 && lo = 24 then some (min 255 s.cmn.outQ.length)
  else if o = 8 then root m.self
  else if o = 0xC then root m.gen
  else if 0x10 ≤ o && o < 0x20 then root (leAt (fit 16 m.id) (o - 0x10) 4)
  else if o = 0x24 && lo = 14 then some (b2n (s.byRelay (s.getF Reg.CMN_PEER_SEL_INDEX)))
  else if o = 0x28 && lo = 0 then
    some (match x with
      | some x => if x.opening then 1 else if x.lost then 3 else 2
      | none => 0)
  else if o = 0x28 then some (min (2 ^ 30 - 1) ((x.map (fun x => x.sent)).getD 0))
  else none

/-- The custodian registers (R170). -/
def State.viewCus (s : State) (off lo : Nat) : Option Nat :=
  let o := off - 0x1200000
  let root (v : Nat) : Option Nat := some (if s.rootShown then v else 0)
  let p := s.pendE (s.getF Reg.CUS_PEND_SEL_INDEX)
  let used := (s.pends.filter (fun x => x.2.st != 0)).length
  if o = 0 && lo = 0 then root s.enrolled
  else if o = 0 then
    root ((List.range 16).foldl (fun v k => if (s.cus k).st = 1 && (s.cus k).alg = 2 then setBit v k else v) 0)
  else if o = 4 && lo = 0 then some used
  else if o = 4 && lo = 7 then some (b2n (decide (64 ≤ used)))
  else if 0x20 ≤ o && o < 0x38 then
    let c := (o - 0x20) / 4
    root (if lo = 0 then (s.cls c).members else if lo = 16 then (s.cls c).k else s.kEff c)
  else if 0x44 ≤ o && o < 0x80 && p.st = 0 then some 0
  else if o = 0x44 then
    some (if lo = 0 then p.st else if lo = 2 then p.cls else if lo = 5 then minutesLeft (p.expiry - s.cairn.opTime) else p.opcode)
  else if o = 0x48 then
    some (if lo = 0 then p.approvals.foldl (fun v a => if bit v a.slot then v else setBit v a.slot) 0 else p.rejects)
  else if o = 0x4C then some p.verified
  else if 0x60 ≤ o && o < 0x80 then some (leAt (fit 32 p.digest) (o - 0x60) 4)
  else none

/-- What a field reads as where it is computed. -/
def State.view (s : State) (off lo : Nat) : Option Nat :=
  let b := off / 0x100000
  if b = 0 then s.viewBale off lo
  else if b = 2 then s.viewDrv off lo
  else if b = 3 then s.viewCell off lo
  else if b = 4 then s.viewBar off lo
  else if b = 5 then s.viewSky off lo
  else if 6 ≤ b && b < 0xC then s.viewFur off lo
  else if b = 0xC then s.viewHedge off lo
  else if b = 0xD then s.viewGor off lo
  else if b = 0xE then s.viewCrn off lo
  else if b = 0x10 then (if 0x1000020 ≤ off && off < 0x1000030 then some (leAt s.nonce (off - 0x1000020) 4) else none)
  else if b = 0x11 then s.viewCmn off lo
  else if b = 0x12 then s.viewCus off lo
  else none

/-- What a field reads as: zero for a write-only one (R10). -/
def State.readField (s : State) (off : Nat) (r : FldRow) : Nat :=
  if r.acc = .wo then 0 else ((s.view off r.lo).getD (s.getF ⟨off, r.lo, r.w⟩)) % 2 ^ r.w

/-- A register: its fields at their places, reserved bits zero (R10, R11). -/
def State.readReg (s : State) (off : Nat) : Nat := (fieldsAt off).foldl (fun v r => v + s.readField off r * 2 ^ r.lo) 0

/-! ### Windows that are no registers of the tables -/

/-- A doorbell page: zero where its queue is neither ENABLED nor DRAINING, but that QSTAT shows the error of a queue in ERROR (R111, R114,
R119, R141, log 22). -/
def State.readDoorbell (s : State) (q o : Nat) : Nat :=
  let x := s.queue q
  if o = 8 && (x.open || x.st == .error) then
    x.sqHead + 2 ^ 12 * b2n (x.st == .enabled) + 2 ^ 13 * b2n (x.st == .error) + 2 ^ 14 * b2n (s.fetchStopped q) + 2 ^ 16 * x.errKind
  else if o = 0xC && x.open then x.cqTail + 2 ^ 12 * b2n x.phase
  else 0

/-- A doorbell page of BAR2 as its tenant reads it: that of queue 0 holds the mailbox windows, which serve with the mailbox (R113, R114, R145,
R146). -/
def State.readTenant (s : State) (off : Nat) : Nat :=
  let q := off / 0x1000
  let o := off % 0x1000
  let a := q / 8
  if q % 8 = 0 && 0x800 ≤ o && o < 0xA00 then
    if (s.queue q).open && s.mbxServes a then
      (if o < 0x900 then leAt (fit 256 (s.allot a).t2s) (o - 0x800) 4 else leAt (fit 256 (s.allot a).s2t) (o - 0x900) 4)
    else 0
  else s.readDoorbell q o

/-- A dword of the MSI-X table (R121, as PCI Express lays an entry out). -/
def State.readMsix (s : State) (o : Nat) : Nat :=
  let e := getC {} s.hif.msix (o / 16)
  if o / 4 % 4 = 0 then e.addr % 2 ^ 32
  else if o / 4 % 4 = 1 then e.addr / 2 ^ 32
  else if o / 4 % 4 = 2 then e.data
  else b2n e.masked

/-- A dword of the pending bit array (R121). -/
def State.readPba (s : State) (k : Nat) : Nat :=
  (List.range 32).foldl (fun v i => if (getC {} s.hif.msix (32 * k + i)).pending then setBit v i else v) 0

/-- A dword of BAR0 by its offset, nothing hidden, absent or asleep. -/
def State.readDword (s : State) (off : Nat) : Nat :=
  if 0x10000 ≤ off && off < 0x20000 then getC 0 s.bale.aperture ((off - 0x10000) / 4)
  else if 0x20000 ≤ off && off < 0x28000 then s.readDoorbell (stewardQ + (off - 0x20000) / 0x1000) (off % 0x1000)
  else if 0x40000 ≤ off && off < 0x60000 then s.readMsix (off - 0x40000)
  else if 0x60000 ≤ off && off < 0x60400 then s.readPba ((off - 0x60000) / 4)
  else if 0xE01000 ≤ off && off < 0xE02000 then leAt s.cairn.aperture (off - 0xE01000) 4
  else if 0x100000 ≤ off && off < 0x200000 && (fieldsAt off).isEmpty then s.altRead (off - 0x100000)
  else s.readReg off

/-! ### What a read changes (R10, R200, R331, R357, R380, R434) -/

/-- Every RC field of a register is cleared. -/
def State.clearRc (s : State) (off : Nat) : State :=
  ((fieldsAt off).filter (fun r => r.acc == .rc)).foldl (fun (s : State) r => s.setF ⟨off, r.lo, r.w⟩ 0) s

/-- A low dword latches the upper bits; the count of octets is cleared (R200, R357, R380, R434). -/
def State.latch (s : State) (off : Nat) : State :=
  if off = 0x200028 then { s with drv := { s.drv with tickLatch := s.drv.tick / 2 ^ 32 } }
  else if off = 0xE0001C then { s with cairn := { s.cairn with timeLatch := s.cairn.opTime / 2 ^ 32 } }
  else if 0x620000 ≤ off && off < 0x630000 && s.portExists (portAt off).2 then
    let i := pix (portAt off).1 (portAt off).2
    if off % 0x800 = 0x14 then (s.setF (Reg.FUR_PORT_RX_OCT_HI_COUNT i) (s.getF (rxOct i) / 2 ^ 32)).setF (rxOct i) 0
    else if off % 0x800 = 0x20 then (s.setF (Reg.FUR_PORT_TX_OCT_HI_COUNT i) (s.getF (txOct i) / 2 ^ 32)).setF (txOct i) 0
    else s
  else if 0x900000 ≤ off && off < 0xB00000 && off % 0x20 = 4 then
    let a := (off - 0x900000) / 0x20
    s.setF (Reg.FUR_SA_DW2_PN_HI a) ((s.sa a).pn / 2 ^ 32)
  else s

/-- A read of an exhaustion FIFO removes its oldest entry (R380). -/
def State.popFifo (s : State) (off : Nat) : State :=
  if off = 0xB00010 || off = 0xB00014 then
    let g := (off - 0xB00010) / 4
    { s with fur := { s.fur with fifo := setC [] s.fur.fifo g ((getC [] s.fur.fifo g).drop 1) } }
  else s

/-- A read of a dword: its value is answered, then what the read clears, latches or consumes. -/
def State.readAt (s : State) (off : Nat) : State :=
  if off = 0x500010 then s.skyData
  else
    let t := s.answer (s.readDword off)
    let t := if 0x100000 ≤ off && off < 0x200000 then t.altClear (off - 0x100000) else t
    ((t.clearRc off).latch off).popFifo off

/-! ### Absent units and meadows in S3 (R3, R66) -/

/-- An access to a meadow in S3 counts (R66). -/
def State.s3Hit (s : State) : State := s.bump Reg.PWR_S3_HITS_HITS

/-- A saved register of a cell whose meadow is in S3; zero for every other one (R65, R66). -/
def State.readSaved (s : State) (c off : Nat) : Nat :=
  let w := (((getC {} s.pwr.save (meadowOf c)).cells[c % 32]?).getD (0, 0, 0))
  if inHedge off then
    let o := (off - 0xC10000) % 0x400
    if o = 0 then 2 * s.activeSet c else if 0x100 ≤ o && o < 0x300 then s.readReg off else 0
  else if off % 0x1000 = 0 then 16 * w.1 + 256 * (w.2.1 % 256)
  else if off % 0x1000 = 4 then 16 * w.2.2
  else if off % 0x1000 = 0x10 then s.getF (Reg.SWD_ARB_PRIO c) + 16 * s.getF (Reg.SWD_ARB_LIMIT c)
  else if off % 0x1000 = 0x14 && c % 8 = 0 then s.getF (Reg.SWD_ARB_REF_PRIO (clumpOf c)) + 16 * s.getF (Reg.SWD_ARB_REF_LIMIT (clumpOf c))
  else if off % 0x1000 = 0x18 && c % 8 = 0 then s.getF (Reg.SWD_ARB_STL_PRIO (clumpOf c)) + 16 * s.getF (Reg.SWD_ARB_STL_LIMIT (clumpOf c))
  else 0

/-- A BAR0 read of the dword at `off`. -/
def State.dwordRead (s : State) (off : Nat) : State :=
  if s.hidden off then s.answer 0
  else if s.absent off then s.absentHit.answer 0
  else
    match s.inS3 off with
    | some c => (s.answer (s.readSaved c off)).s3Hit
    | none => (s.wakeFor off).readAt off

/-- A read of one dword, by `f`, of `n` bytes at `a` answers the addressed bytes; one of eight bytes is two reads of a dword, the lower address
first (R12). -/
def State.splitRead (s : State) (a n : Nat) (f : State → Nat → State) : State :=
  let off := a / 4 * 4
  let t := f s off
  if n = 8 then
    let u := f t (off + 4)
    u.answer (t.rdata + 2 ^ 32 * u.rdata)
  else t.answer (t.rdata / 2 ^ (8 * (a % 4)) % 2 ^ (8 * n))

/-- A read of BAR0, or of a doorbell page of BAR2 (R12, R109, R113). -/
def State.barRead (s : State) (bar2 : Bool) (a n : Nat) : State :=
  if bar2 then s.splitRead a n (fun s off => s.answer (s.readTenant off)) else s.splitRead a n State.dwordRead

end Sys2Proof.Machine
end

