-- ==== Sys2Proof/Machine/Access.lean ====
section
/-! DEFINITION. The register commands (spec/00 R3, R10 to R12, R459): BAR0 writes and reads, accesses to absent units and to meadows in
S3, and the two vendor messages that return registers (R128). -/

namespace Sys2Proof.Machine

/-! ### Writes by access type (R10, R11) -/

/-- The bits of a value that a field takes. -/
def FldRow.of (r : FldRow) (val : Nat) : Nat := val / 2 ^ r.lo % 2 ^ r.w

/-- Store a written value: RW fields take it, W1C bits written as 1 clear, everything else is discarded. -/
def State.storeField (val off : Nat) (s : State) (r : FldRow) : State :=
  let f : Fld := ⟨off, r.lo, r.w⟩
  match r.acc with
  | .rw => s.setF f (r.of val)
  | .w1c => if r.of val = 0 then s else s.setF f (clrBits (s.getF f) (r.of val))
  | _ => s
where
  /-- `v` without the bits of `m`. -/
  clrBits (v m : Nat) : Nat := v - (v &&& m)

/-- A write to a register whose fields only follow their access types. -/
def State.storeReg (s : State) (off val : Nat) : State := (fieldsAt off).foldl (State.storeField val off) s

/-! ### Registers that act (R459) -/

/-- `HIF_BALE_CTL.CMD` (R80, R86). -/
def State.baleCtl (s : State) (cmd : Nat) : State :=
  match cmd with
  | 0 => s
  | 1 => s.baleOpen
  | 2 => s.baleWrite
  | 3 => s.baleClose
  | 4 => s.baleAdopt
  | 5 => s.baleAbort
  | _ => s.baleResult 9

/-- `HIF_EVENT`: the queue error's information goes with its bit (R130). -/
def State.hifEventWrite (s : State) (val : Nat) : State :=
  let s := s.storeReg 0x14 val
  if bit val 0 then s.setF Reg.HIF_QERR_INFO_VALID 0 else s

/-- A steward queue's doorbell page (R114 to R116). -/
def State.doorbell (s : State) (qid o val : Nat) : State :=
  if o = 0 then s.sqTail qid val
  else if o = 4 then s.cqHeadW qid val
  else if (s.queue qid).open then s
  else s.stray

/-- A dword of the MSI-X table; clearing the mask bit sends a pending message (R121). -/
def State.msixWrite (s : State) (o val : Nat) : State :=
  let v := o / 16
  let e := getC {} s.hif.msix v
  let put (s : State) (e : Msix) : State := { s with hif := { s.hif with msix := setC {} s.hif.msix v e } }
  if o / 4 % 4 = 0 then put s { e with addr := e.addr / 2 ^ 32 * 2 ^ 32 + val / 4 * 4 }
  else if o / 4 % 4 = 1 then put s { e with addr := e.addr % 2 ^ 32 + 2 ^ 32 * val }
  else if o / 4 % 4 = 2 then put s { e with data := val }
  else if bit val 0 then put s { e with masked := true }
  else s.msixUnmask v

/-- The HIF global block (R111). -/
def State.writeHif (s : State) (off val : Nat) : State :=
  if off = 0x14 then s.hifEventWrite val
  else if off = 0x200 then s.baleCtl (val % 16)
  else if 0x10000 ≤ off && off < 0x20000 then s.apertureWrite off val
  else if 0x20000 ≤ off && off < 0x28000 then s.doorbell (stewardQ + (off - 0x20000) / 0x1000) (off % 0x1000) val
  else if 0x40000 ≤ off && off < 0x60000 then s.msixWrite (off - 0x40000) val
  else s.storeReg off val

/-- `DRV_MDW_CTL.CMD` (R192). -/
def State.mdwCtl (s : State) (m cmd : Nat) : State :=
  match cmd with
  | 0 => s
  | 1 => s.cmdRestart m
  | 2 => s.cmdFallow m
  | 3 => s.cmdReturn m
  | _ => s.drvResult St.badOperand

/-- The Drover block (R200): a drain limit below 100 is refused. -/
def State.writeDrv (s : State) (off val : Nat) : State :=
  if off = 0x200008 then
    if val % 65536 < 100 then (s.setF Reg.DRV_EVENT_CFG_REFUSED 1).drvRefused St.badOperand else s.storeReg off val
  else if off = 0x200004 then
    (let was := s.getF Reg.DRV_CFG_ST_INTERVAL_MIN
     let s := s.storeReg off val
     if s.getF Reg.DRV_CFG_ST_INTERVAL_MIN = was then s else s.spreadTests)
  else if 0x200080 ≤ off && off < 0x2000A0 then s.mdwCtl ((off - 0x200080) / 4) (val % 16)
  else s.storeReg off val

/-- The window of a cell (R194, R201). -/
def State.writeCell (s : State) (off val : Nat) : State :=
  if off % 0x1000 = 4 then s.cellCtl ((off - 0x300000) / 0x1000) (val / 16 % 8) (val % 16)
  else s.arbWrite off val

/-- `FUR_PG_CTL.CMD` (R351, R357). -/
def State.pgCtl (s : State) (g cmd : Nat) : State :=
  match cmd with
  | 0 => s
  | 1 => s.pgStop g
  | 2 => s.pgStart g
  | _ => s.setF (Reg.FUR_PG_STAT_RESULT g) St.badOperand

/-- A rule dword (R342). -/
def State.writeRule (s : State) (off val : Nat) : State :=
  let i := (off - 0x640000) / 0x20
  if off % 0x20 = 0x1C then (if bit val 0 then s.ruleCommit (i / 8192) (i % 8192) else s)
  else if (fieldsAt off).isEmpty then s
  else s.shadowWrite off val

/-- A channel dword (R360, R366). -/
def State.writeChannel (s : State) (off val : Nat) : State :=
  let c := (off - 0x800000) / 0x40
  let o := off % 0x40
  if o < 0x18 then s.shadowWrite off val
  else if o = 0x20 then s.tryArm c (val / 16 % 4) (val / 64 % 4) (s.swPn c)
  else if o = 0x3C then (if bit val 0 then s.channelCommit c else s)
  else s.storeReg off val

/-- An association dword (R368). -/
def State.writeSa (s : State) (off val : Nat) : State :=
  let o := off % 0x20
  if o < 0xC then s.shadowWrite off val
  else if o = 0x1C then (if bit val 0 then s.saCommit ((off - 0x900000) / 0x20) else s)
  else s

/-- The Furrow block (R357, R380). -/
def State.writeFur (s : State) (off val : Nat) : State :=
  if off = 0x610000 || off = 0x611000 then s.pgCtl ((off - 0x610000) / 0x1000) (val % 16)
  else if off = 0x610008 || off = 0x611008 then s.pgCfg ((off - 0x610000) / 0x1000) val
  else if 0x620000 ≤ off && off < 0x630000 then
    if !s.portExists (portAt off).2 then s
    else if off % 0x800 = 4 then s.portCfg (portAt off).1 (portAt off).2 val
    else s
  else if 0x640000 ≤ off && off < 0x6C0000 then s.writeRule off val
  else if 0x800000 ≤ off && off < 0x900000 then s.writeChannel off val
  else if 0x900000 ≤ off && off < 0xB00000 then s.writeSa off val
  else s.storeReg off val

/-- The Gorse block: four registers act (R420). -/
def State.writeGor (s : State) (off val : Nat) : State :=
  if off = 0xD00000 then (if bit val 4 then s.peatClear else s)
  else if off = 0xD00004 then s.alarmClear val
  else if off = 0xD00010 then s.storeReg off val
  else if off = 0xD00024 then (if bit val 8 then s.bistStart (val % 32) (val / 32 % 8) else s)
  else s

/-- `CRN_CTL.CMD` (R434). -/
def State.crnCtl (s : State) (cmd : Nat) : State :=
  match cmd with
  | 0 => s
  | 1 => s.freeze
  | 2 => s.thaw false
  | 3 => s.loadRing
  | 4 => s.loadFlash
  | 5 => s.wall
  | _ => s.setF Reg.CRN_EVENT_CFG_REFUSED 1

/-- A write of `PWR_SLEEP_CFG`: where the idle time changes, the idle timers of the meadows start anew (R64). -/
def State.sleepCfg (s : State) (off val : Nat) : State :=
  let was := s.getF Reg.PWR_SLEEP_CFG_S2_IDLE_US
  let s := s.storeReg off val
  if s.getF Reg.PWR_SLEEP_CFG_S2_IDLE_US = was then s
  else (List.range 8).foldl (fun (s : State) m => (s.dropTimer (.sleep m)).armIdle m) s

/-- `PWR_MDW_CTL` (R56, R64, R65, R71): an unpopulated meadow takes no level and refuses every command (R68). -/
def State.pwrMdw (s : State) (m val : Nat) : State :=
  let s := s.reqLevel m (val % 4)
  match val / 16 % 8 with
  | 0 => s
  | 1 => s.cmdS2 m
  | 2 => s.cmdS3 m
  | 3 => s.cmdWake m
  | _ => s.sleepRefused m

/-- `LCS_CTL.CMD` (R104). -/
def State.lcsCtl (s : State) (cmd : Nat) : State :=
  match cmd with
  | 0 => s
  | 1 => s.enterTest
  | 2 => s.enterEol
  | 3 => s.programSigner
  | 4 => s.cmdNonce
  | _ => s.lcRefuse refNotPermitted

/-- The life cycle and Stile block (R104): the signer data registers are written and never read. -/
def State.writeLcs (s : State) (off val : Nat) : State :=
  if off = 0x1000004 then s.lcsCtl (val % 16)
  else if 0x1000040 ≤ off && off < 0x1000060 then s.setF (Reg.LCS_SIGNER_DATA_DATA ((off - 0x1000040) / 4)) val
  else if off = 0x1001010 then (if bit val 0 then s.stileEnd else s)
  else s.storeReg off val

/-- A write to the registers of a block, nothing hidden, absent or asleep. -/
def State.writeAt (s : State) (off val : Nat) : State :=
  let b := off / 0x100000
  if b = 0 then s.writeHif off val
  else if b = 1 then (if off = 0x100004 || (fieldsAt off).isEmpty then s.altWrite (off - 0x100000) val else s.storeReg off val)
  else if b = 2 then s.writeDrv off val
  else if b = 3 then s.writeCell off val
  else if off = 0x500004 then s.setLimit val
  else if 6 ≤ b && b < 0xC then s.writeFur off val
  else if off = 0xC00008 then (if 168 < val % 256 then s.setF Reg.THA_EVENT_CFG_REFUSED 1 else s.storeReg off val)
  else if b = 0xD then s.writeGor off val
  else if off = 0xE00004 then s.crnCtl (val % 16)
  else if off = 0xF00010 then s.sagCfg val
  else if off = 0xF00014 then s.sleepCfg off val
  else if 0xF00020 ≤ off && off < 0xF00040 then s.pwrMdw ((off - 0xF00020) / 4) val
  else if b = 0x10 then s.writeLcs off val
  else if off = 0x1100020 then (if 10 ≤ val % 65536 && val % 65536 ≤ 10000 then s.storeReg off val else s)
  else if off = 0x1100024 then s.peerSel val
  else if off = 0x1200008 then
    (if 1 ≤ val % 2048 && val % 2048 ≤ 1440 then s.storeReg off val else s.setF Reg.CUS_EVENT_CFG_REFUSED 1)
  else s.storeReg off val

/-- A BAR0 write of one dword: one that does not enable all four bytes is discarded (R12). -/
def State.dwordWrite (s : State) (off be val : Nat) : State :=
  if be % 16 ≠ 15 || s.hidden off then s
  else if s.absent off then s.absentHit
  else if (s.inS3 off).isSome then s.s3Hit
  else (s.wakeFor off).writeAt off (val % 2 ^ 32)

/-- A BAR0 write by its byte enables, one for each byte from `a` on: enables beyond the fourth make it a 64-bit write, split into two
of a dword, the lower address first (R12). -/
def State.barWrite (s : State) (a be val : Nat) : State :=
  let off := a / 4 * 4
  let t := s.dwordWrite off be val
  if be < 16 then t else t.dwordWrite (off + 4) (be / 16) (val / 2 ^ 32)

/-! ### The commands -/

/-- An access to BAR0 or BAR2 while the host interface is out of reset; an offset beyond the BAR is a fault of the command (R109). -/
def State.barAccess (s : State) (off : Nat) (f : State → State) : Res :=
  if off < barSize then .next (s.whenHif f) else .fault .outsideBar

/-- The last byte an access by byte enables addresses. -/
def lastByte (off be : Nat) : Nat := off / 4 * 4 + (if be < 16 then 3 else 7)

def execRegisterWrite (off be val : Nat) (s : State) : Res := s.barAccess (lastByte off be) (fun s => s.barWrite off be val)

def execRcRead (bar2 : Bool) (off n : Nat) (s : State) : Res := s.barAccess (off + n - 1) (fun s => s.barRead bar2 off n)

def execLatchedRead (bar2 : Bool) (off n : Nat) (s : State) : Res := s.barAccess (off + n - 1) (fun s => s.barRead bar2 off n)

/-- An access to a window of an absent unit (R3); any other offset is no such access. -/
def execAbsentUnitAccess (off : Nat) (write : Bool) (s : State) : Res :=
  s.barAccess off (fun s =>
    let o := off / 4 * 4
    if s.absent o && !s.hidden o then (if write then s.absentHit else s.absentHit.answer 0) else s)

/-- An access to a window of a meadow in S3 (R66); any other offset is no such access. -/
def execS3Access (off : Nat) (write : Bool) (s : State) : Res :=
  s.barAccess off (fun s =>
    let o := off / 4 * 4
    match s.inS3 o with
    | some c => if s.hidden o || s.absent o then s else if write then s.s3Hit else (s.answer (s.readSaved c o)).s3Hit
    | none => s)

/-- Get Health: four status registers and the alarm bits, in the order the spec names them (R128, log 41). -/
def State.health (s : State) : Bytes :=
  le 4 (s.readReg 0x10) ++ le 4 (s.readReg 0xF00000) ++ le 4 (s.readReg 0x1000000) ++ le 4 (s.readReg 0x208) ++ le 4 (s.readReg 0xD00004)

def execGetHealth (s : State) : Res := .next (s.smb (fun s => s.emit (.mctp 0x7E s.health)))

def execGetInputs (s : State) : Res :=
  .next (s.smb (fun s => s.emit (.mctp 0x7E (le 4 (s.readReg 0xF00004) ++ le 4 (s.readReg 0xF00008)))))

end Sys2Proof.Machine
end

