-- ==== Sys2Proof/Machine/Digest.lean ====
section
/-! DEFINITION. The 0x0Axx digest commands (spec/13). -/

namespace Sys2Proof.Machine

/-- A digest code (R279). -/
def digestCode (c : Nat) : Bool := c == 1 || c == 2 || c == 3 || c == 0x10 || c == 0x11 || c == 0x18 || c == 0x19

/-- A code over which HMAC exists (R279). -/
def hmacCode (c : Nat) : Bool := c == 1 || c == 2 || c == 3 || c == 0x10 || c == 0x11

/-- The output length field agrees with the code: 0 but for SHAKE, where it is 1 to 512 (R290). -/
def digestD (c d : Nat) : Bool := if c = 0x18 || c = 0x19 then decide (1 ≤ d) && decide (d ≤ 512) else d == 0

/-- Run the digest unit over the input behind a header: the declared length is IN_LEN less the header, the source the host buffer, the padding
COUNTED; a stream of another length ends the node with LENGTH_MISMATCH (R280 to R282, R290). -/
def Graph.withDigest (gr : Graph) (s : State) (head code d : Nat) (key : Option Bytes) (dest : DigestDest) (f : Bytes → OpRes) : OpRes :=
  match runDigest { code, d, len := gr.desc.inLen - head, dest, key } [gr.inp.drop head] [] with
  | some r => f r
  | none => .fail s St.lengthMismatch

/-- DIGEST (R290). -/
def digestCmd : OpWork := fun gr s =>
  let b := gr.inp
  let c := byteAt b 0
  let d := leAt b 2 2
  if b.length < 4 then .form s St.badLength
  else if !digestCode c || byteAt b 1 ≠ 0 || !digestD c d then .form s St.badOperand
  else if gr.desc.outLen < digestLen c d then .form s St.badLength
  else gr.withDigest s 4 c d none .firmware (fun r => .ok s r)

def execDigest (g : Nat) (s : State) : Res := .next (s.whenLive (fun s => s.runOp 0x0A01 g digestCmd))

/-- A tag length of HMAC: 16 up to the output length (R290). -/
def tagLen (c t : Nat) : Bool := decide (16 ≤ t) && decide (t ≤ digestLen c 0)

/-- HMAC_GENERATE (R290). -/
def hmacGenerate : OpWork := fun gr s =>
  let b := gr.inp
  let c := byteAt b 0
  let t := byteAt b 1
  if b.length < 4 then .form s St.badLength
  else if !hmacCode c || !tagLen c t || leAt b 2 2 ≠ 0 then .form s St.badOperand
  else if gr.desc.outLen < t then .form s St.badLength
  else gr.withKey s 0 (fun k =>
    k.require s ['G', 'C'] [usage2 'M' '7'] [8] (gr.withDigest s 4 c 0 (some k.key) .firmware (fun r => .ok s (r.take t))))

def execHmacGenerate (g : Nat) (s : State) : Res := .next (s.whenLive (fun s => s.runOp 0x0A02 g hmacGenerate))

/-- HMAC_VERIFY (R290, R284). -/
def hmacVerify : OpWork := fun gr s =>
  let b := gr.inp
  let c := byteAt b 0
  let t := byteAt b 1
  if b.length < 68 then .form s St.badLength
  else if !hmacCode c || !tagLen c t || leAt b 2 2 ≠ 0 || !allZero (slice b (4 + t) (64 - t)) then .form s St.badOperand
  else gr.withKey s 0 (fun k =>
    k.require s ['V', 'C'] [usage2 'M' '7'] [8]
      (gr.withDigest s 68 c 0 (some k.key) (.compare (slice b 4 t)) (fun r => if r.take t = slice b 4 t then .ok s else .fail s St.verifyFailed)))

def execHmacVerify (g : Nat) (s : State) : Res := .next (s.whenLive (fun s => s.runOp 0x0A03 g hmacVerify))

/-- DIGEST_COMPARE: the expected digest has 64 bytes of room, so a longer SHAKE output is refused (R290, log 34). -/
def digestCompare : OpWork := fun gr s =>
  let b := gr.inp
  let c := byteAt b 0
  let d := leAt b 2 2
  let n := digestLen c d
  if b.length < 68 then .form s St.badLength
  else if !digestCode c || byteAt b 1 ≠ 0 || !digestD c d || 64 < n || !allZero (slice b (4 + n) (64 - n)) then .form s St.badOperand
  else gr.withDigest s 68 c d none (.compare (slice b 4 n)) (fun r => if r = slice b 4 n then .ok s else .fail s St.compareUnequal)

def execDigestCompare (g : Nat) (s : State) : Res := .next (s.whenLive (fun s => s.runOp 0x0A04 g digestCompare))

/-- DIGEST_DERIVE (R290). -/
def digestDerive : OpWork := fun gr s =>
  let b := gr.inp
  let c := byteAt b 0
  let la := byteAt b 1
  let lb := byteAt b 2
  let blk := slice b 4 8
  let st := isSteward gr.qid
  if b.length < 12 then .form s St.badLength
  else if !(c == 1 || c == 2 || c == 3) || 64 < la || 64 < lb || byteAt b 3 ≠ 0 then .form s St.badOperand
  else match derivedBlock blk with
    | none => .form s St.badOperand
    | some (t, klen) =>
      if digestLen c 0 < klen then .form s St.badOperand
      else if b.length ≠ 12 + la + lb then .form s St.lengthMismatch
      else gr.withKey s 0 (fun k =>
        k.require s ['X'] [usage2 'M' '7'] [8]
          (s.withKeyMade gr (tierFor st (isKek (blk.take 2))) t (s.derivedAttr st blk t klen 0)
            (digestKdf c k.key (slice b 12 la) (slice b (12 + la) lb) klen) [] (s.worldParent gr.qid) (fun h s => .ok s h)))

def execDigestDerive (g : Nat) (s : State) : Res := .next (s.whenLive (fun s => s.runOp 0x0A05 g digestDerive))

end Sys2Proof.Machine
end

