-- ==== Sys2Proof/Machine/Dispatch.lean ====
section
/-! DEFINITION. exec: the meaning of each command, one arm per constructor of Instr. -/

namespace Sys2Proof.Machine

def exec (i : Instr) (s : State) : Host.Outcome State Fault Refusal :=
  match i with
  | .registerWrite off be val => Sys2Proof.Machine.execRegisterWrite off be val s
  | .rcRead bar2 off n => Sys2Proof.Machine.execRcRead bar2 off n s
  | .latchedRead bar2 off n => Sys2Proof.Machine.execLatchedRead bar2 off n s
  | .absentUnitAccess off write => Sys2Proof.Machine.execAbsentUnitAccess off write s
  | .channelRefused sender meadow => Sys2Proof.Machine.execChannelRefused sender meadow s
  | .vinValid => Sys2Proof.Machine.execVinValid s
  | .romStart kat bad mis => Sys2Proof.Machine.execRomStart kat bad mis s
  | .entropyReady ref156 => Sys2Proof.Machine.execEntropyReady ref156 s
  | .startHeld => Sys2Proof.Machine.execStartHeld s
  | .katRetry ok => Sys2Proof.Machine.execKatRetry ok s
  | .fullService failed => Sys2Proof.Machine.execFullService failed s
  | .pcieEndpointReady => Sys2Proof.Machine.execPcieEndpointReady s
  | .pcieConfigRequest write off val => Sys2Proof.Machine.execPcieConfigRequest write off val s
  | .perstAssert => Sys2Proof.Machine.execPerstAssert s
  | .perstRelease => Sys2Proof.Machine.execPerstRelease s
  | .functionLevelReset => Sys2Proof.Machine.execFunctionLevelReset s
  | .d3hotEntry => Sys2Proof.Machine.execD3hotEntry s
  | .d3hotToD0 => Sys2Proof.Machine.execD3hotToD0 s
  | .resetAssert => Sys2Proof.Machine.execResetAssert s
  | .resetRelease => Sys2Proof.Machine.execResetRelease s
  | .vinLoss blocks => Sys2Proof.Machine.execVinLoss blocks s
  | .vinOvervoltage blocks => Sys2Proof.Machine.execVinOvervoltage blocks s
  | .vinBreak above16 stab => Sys2Proof.Machine.execVinBreak above16 stab s
  | .operatingTimeTick vin pin vbak low16 lowStab => Sys2Proof.Machine.execOperatingTimeTick vin pin vbak low16 lowStab s
  | .holdupCharged => Sys2Proof.Machine.execHoldupCharged s
  | .holdupDischarged energy => Sys2Proof.Machine.execHoldupDischarged energy s
  | .powerCapSet => Sys2Proof.Machine.execPowerCapSet s
  | .powerCapClear => Sys2Proof.Machine.execPowerCapClear s
  | .sagDetect => Sys2Proof.Machine.execSagDetect s
  | .sagEnd => Sys2Proof.Machine.execSagEnd s
  | .levelStepComplete m => Sys2Proof.Machine.execLevelStepComplete m s
  | .pwrReqLevelWrite m level => Sys2Proof.Machine.execPwrReqLevelWrite m level s
  | .pwrSagCfgWrite val => Sys2Proof.Machine.execPwrSagCfgWrite val s
  | .droopStretchBegin island pct => Sys2Proof.Machine.execDroopStretchBegin island pct s
  | .droopStretchEnd island pct => Sys2Proof.Machine.execDroopStretchEnd island pct s
  | .s1Entry clump => Sys2Proof.Machine.execS1Entry clump s
  | .s1Wake clump => Sys2Proof.Machine.execS1Wake clump s
  | .enterS2 m => Sys2Proof.Machine.execEnterS2 m s
  | .s2IdleEntry m => Sys2Proof.Machine.execS2IdleEntry m s
  | .s2EntryComplete m => Sys2Proof.Machine.execS2EntryComplete m s
  | .enterS3 m => Sys2Proof.Machine.execEnterS3 m s
  | .s3EntryComplete m => Sys2Proof.Machine.execS3EntryComplete m s
  | .wakeCmd m => Sys2Proof.Machine.execWakeCmd m s
  | .s3WakeComplete m misread => Sys2Proof.Machine.execS3WakeComplete m misread s
  | .s2Wake m => Sys2Proof.Machine.execS2Wake m s
  | .s2WakeComplete m ok => Sys2Proof.Machine.execS2WakeComplete m ok s
  | .s3Access off write => Sys2Proof.Machine.execS3Access off write s
  | .baleOpen => Sys2Proof.Machine.execBaleOpen s
  | .baleEraseComplete ok => Sys2Proof.Machine.execBaleEraseComplete ok s
  | .baleApertureWrite off val => Sys2Proof.Machine.execBaleApertureWrite off val s
  | .baleWrite => Sys2Proof.Machine.execBaleWrite s
  | .baleChunkProgrammed ok => Sys2Proof.Machine.execBaleChunkProgrammed ok s
  | .baleClose => Sys2Proof.Machine.execBaleClose s
  | .baleCloseCheckComplete mis => Sys2Proof.Machine.execBaleCloseCheckComplete mis s
  | .baleAdopt => Sys2Proof.Machine.execBaleAdopt s
  | .baleAbort => Sys2Proof.Machine.execBaleAbort s
  | .baleAbortComplete => Sys2Proof.Machine.execBaleAbortComplete s
  | .overlapTimerExpire => Sys2Proof.Machine.execOverlapTimerExpire s
  | .enterTest => Sys2Proof.Machine.execEnterTest s
  | .enterEol => Sys2Proof.Machine.execEnterEol s
  | .programSigner => Sys2Proof.Machine.execProgramSigner s
  | .newNonce => Sys2Proof.Machine.execNewNonce s
  | .lcTransition g => Sys2Proof.Machine.execLcTransition g s
  | .stileAuthorise g => Sys2Proof.Machine.execStileAuthorise g s
  | .signerRevoke g => Sys2Proof.Machine.execSignerRevoke g s
  | .fuseWriteComplete ok => Sys2Proof.Machine.execFuseWriteComplete ok s
  | .eolPendingWrite => Sys2Proof.Machine.execEolPendingWrite s
  | .stileAccess target write => Sys2Proof.Machine.execStileAccess target write s
  | .stlRevoke => Sys2Proof.Machine.execStlRevoke s
  | .stileExpiry => Sys2Proof.Machine.execStileExpiry s
  | .memoryTestEntry mode mem => Sys2Proof.Machine.execMemoryTestEntry mode mem s
  | .sqTailWrite qid tail => Sys2Proof.Machine.execSqTailWrite qid tail s
  | .cqHeadWrite qid head => Sys2Proof.Machine.execCqHeadWrite qid head s
  | .bar2StrayWrite qid off => Sys2Proof.Machine.execBar2StrayWrite qid off s
  | .descriptorFetch => Sys2Proof.Machine.execDescriptorFetch s
  | .descriptorArrival qid data input => Sys2Proof.Machine.execDescriptorArrival qid data input s
  | .graphAccept qid => Sys2Proof.Machine.execGraphAccept qid s
  | .nodeDispatch die role => Sys2Proof.Machine.execNodeDispatch die role s
  | .hostBufferReadComplete g data => Sys2Proof.Machine.execHostBufferReadComplete g data s
  | .keyResolve g pos => Sys2Proof.Machine.execKeyResolve g pos s
  | .operandTransfer g src dst data => Sys2Proof.Machine.execOperandTransfer g src dst data s
  | .yieldPoint cell mismatch => Sys2Proof.Machine.execYieldPoint cell mismatch s
  | .nodeComplete g n fault => Sys2Proof.Machine.execNodeComplete g n fault s
  | .deadlineExpire g => Sys2Proof.Machine.execDeadlineExpire g s
  | .ageingTimer die role => Sys2Proof.Machine.execAgeingTimer die role s
  | .atsInvalidation tag pasid page count deny => Sys2Proof.Machine.execAtsInvalidation tag pasid page count deny s
  | .msixUnmask vector => Sys2Proof.Machine.execMsixUnmask vector s
  | .coalesceTimerExpire qid => Sys2Proof.Machine.execCoalesceTimerExpire qid s
  | .linkChange speed width flit => Sys2Proof.Machine.execLinkChange speed width flit s
  | .spdmGetVersion mctp req => Sys2Proof.Machine.execSpdmGetVersion mctp req s
  | .spdmGetCapabilities mctp req minor => Sys2Proof.Machine.execSpdmGetCapabilities mctp req minor s
  | .spdmNegotiateAlgorithms mctp req ext base hash measHash dhe aead => Sys2Proof.Machine.execSpdmNegotiateAlgorithms mctp req ext base hash measHash dhe aead s
  | .spdmGetDigests mctp req => Sys2Proof.Machine.execSpdmGetDigests mctp req s
  | .spdmGetCertificate mctp req slot off len => Sys2Proof.Machine.execSpdmGetCertificate mctp req slot off len s
  | .spdmChallenge mctp req slot => Sys2Proof.Machine.execSpdmChallenge mctp req slot s
  | .spdmGetMeasurements mctp req index signed => Sys2Proof.Machine.execSpdmGetMeasurements mctp req index signed s
  | .spdmKeyExchange mctp req slot peer => Sys2Proof.Machine.execSpdmKeyExchange mctp req slot peer s
  | .spdmFinish mctp req sid ok => Sys2Proof.Machine.execSpdmFinish mctp req sid ok s
  | .spdmHeartbeat mctp req sid => Sys2Proof.Machine.execSpdmHeartbeat mctp req sid s
  | .spdmKeyUpdate mctp req sid => Sys2Proof.Machine.execSpdmKeyUpdate mctp req sid s
  | .spdmEndSession mctp req sid => Sys2Proof.Machine.execSpdmEndSession mctp req sid s
  | .spdmChunkSend mctp last data => Sys2Proof.Machine.execSpdmChunkSend mctp last data s
  | .spdmChunkGet mctp seq => Sys2Proof.Machine.execSpdmChunkGet mctp seq s
  | .spdmUnsupportedRequest mctp req => Sys2Proof.Machine.execSpdmUnsupportedRequest mctp req s
  | .ideKmQuery req sid => Sys2Proof.Machine.execIdeKmQuery req sid s
  | .ideKmKeyProg req sid stream sub kset => Sys2Proof.Machine.execIdeKmKeyProg req sid stream sub kset s
  | .ideKmKSetGo req sid stream sub kset => Sys2Proof.Machine.execIdeKmKSetGo req sid stream sub kset s
  | .ideKmKSetStop req sid stream sub kset => Sys2Proof.Machine.execIdeKmKSetStop req sid stream sub kset s
  | .ideIntegrityFailure stream => Sys2Proof.Machine.execIdeIntegrityFailure stream s
  | .mctpSetEndpointId eid => Sys2Proof.Machine.execMctpSetEndpointId eid s
  | .mctpGetEndpointId => Sys2Proof.Machine.execMctpGetEndpointId s
  | .mctpGetVersionSupport => Sys2Proof.Machine.execMctpGetVersionSupport s
  | .mctpGetMessageTypeSupport => Sys2Proof.Machine.execMctpGetMessageTypeSupport s
  | .getHealth => Sys2Proof.Machine.execGetHealth s
  | .getInputs => Sys2Proof.Machine.execGetInputs s
  | .smbAlertResponse => Sys2Proof.Machine.execSmbAlertResponse s
  | .smbAlertReassert => Sys2Proof.Machine.execSmbAlertReassert s
  | .altCreate => Sys2Proof.Machine.execAltCreate s
  | .altQuiesce => Sys2Proof.Machine.execAltQuiesce s
  | .quiesceFence a => Sys2Proof.Machine.execQuiesceFence a s
  | .altResume => Sys2Proof.Machine.execAltResume s
  | .altReset => Sys2Proof.Machine.execAltReset s
  | .altResetComplete a => Sys2Proof.Machine.execAltResetComplete a s
  | .altRemove => Sys2Proof.Machine.execAltRemove s
  | .altRemoveComplete a => Sys2Proof.Machine.execAltRemoveComplete a s
  | .altConfigWrite off val => Sys2Proof.Machine.execAltConfigWrite off val s
  | .queueConfigWrite off val => Sys2Proof.Machine.execQueueConfigWrite off val s
  | .queueEnable => Sys2Proof.Machine.execQueueEnable s
  | .queueDisable => Sys2Proof.Machine.execQueueDisable s
  | .queueReset => Sys2Proof.Machine.execQueueReset s
  | .queueDrainComplete qid => Sys2Proof.Machine.execQueueDrainComplete qid s
  | .tenantMbxWrite a off val => Sys2Proof.Machine.execTenantMbxWrite a off val s
  | .tenantMbxRing a => Sys2Proof.Machine.execTenantMbxRing a s
  | .stewardMbxAck => Sys2Proof.Machine.execStewardMbxAck s
  | .stewardMbxWrite off val => Sys2Proof.Machine.execStewardMbxWrite off val s
  | .stewardMbxRing => Sys2Proof.Machine.execStewardMbxRing s
  | .tenantMbxAck a => Sys2Proof.Machine.execTenantMbxAck a s
  | .logEnable val => Sys2Proof.Machine.execLogEnable val s
  | .logDisable val => Sys2Proof.Machine.execLogDisable val s
  | .logFlushTimer a => Sys2Proof.Machine.execLogFlushTimer a s
  | .logHeadWrite head => Sys2Proof.Machine.execLogHeadWrite head s
  | .cusLodge g => Sys2Proof.Machine.execCusLodge g s
  | .cusCancel g => Sys2Proof.Machine.execCusCancel g s
  | .cusEnrol g => Sys2Proof.Machine.execCusEnrol g s
  | .cusRevoke g => Sys2Proof.Machine.execCusRevoke g s
  | .cusSetClass g => Sys2Proof.Machine.execCusSetClass g s
  | .cusReadSlot g => Sys2Proof.Machine.execCusReadSlot g s
  | .approvalVerifyComplete e mis => Sys2Proof.Machine.execApprovalVerifyComplete e mis s
  | .pendingEntryExpire e => Sys2Proof.Machine.execPendingEntryExpire e s
  | .meadowRestart m => Sys2Proof.Machine.execMeadowRestart m s
  | .meadowFallow m => Sys2Proof.Machine.execMeadowFallow m s
  | .meadowReturn m => Sys2Proof.Machine.execMeadowReturn m s
  | .meadowDrainComplete m => Sys2Proof.Machine.execMeadowDrainComplete m s
  | .drainLimitExpire m cell => Sys2Proof.Machine.execDrainLimitExpire m cell s
  | .meadowReloadComplete m misread => Sys2Proof.Machine.execMeadowReloadComplete m misread s
  | .meadowSelftestComplete m failed => Sys2Proof.Machine.execMeadowSelftestComplete m failed s
  | .cellFallow cell => Sys2Proof.Machine.execCellFallow cell s
  | .cellReturn cell => Sys2Proof.Machine.execCellReturn cell s
  | .nextRoleWrite cell role cmd => Sys2Proof.Machine.execNextRoleWrite cell role cmd s
  | .cellDrainComplete cell => Sys2Proof.Machine.execCellDrainComplete cell s
  | .cellSelftestComplete cell pass => Sys2Proof.Machine.execCellSelftestComplete cell pass s
  | .periodicSelftestDue cell => Sys2Proof.Machine.execPeriodicSelftestDue cell s
  | .mismatchWindowClose cell => Sys2Proof.Machine.execMismatchWindowClose cell s
  | .memoryPortRequest clump r => Sys2Proof.Machine.execMemoryPortRequest clump r s
  | .memoryPortRelease clump r => Sys2Proof.Machine.execMemoryPortRelease clump r s
  | .emergencyPreempt clump r => Sys2Proof.Machine.execEmergencyPreempt clump r s
  | .portHoldViolation cell => Sys2Proof.Machine.execPortHoldViolation cell s
  | .arbConfigWrite off val => Sys2Proof.Machine.execArbConfigWrite off val s
  | .nopCmd qid => Sys2Proof.Machine.execNopCmd qid s
  | .abortCmd qid input => Sys2Proof.Machine.execAbortCmd qid input s
  | .pinTranslate g => Sys2Proof.Machine.execPinTranslate g s
  | .pinVerifyOffset g => Sys2Proof.Machine.execPinVerifyOffset g s
  | .pinGenerateOffset g => Sys2Proof.Machine.execPinGenerateOffset g s
  | .pinVerifyPvv g => Sys2Proof.Machine.execPinVerifyPvv g s
  | .pinGeneratePvv g => Sys2Proof.Machine.execPinGeneratePvv g s
  | .macGenerate g => Sys2Proof.Machine.execMacGenerate g s
  | .macVerify g => Sys2Proof.Machine.execMacVerify g s
  | .macTranslate g => Sys2Proof.Machine.execMacTranslate g s
  | .cvvGenerate g => Sys2Proof.Machine.execCvvGenerate g s
  | .cvvVerify g => Sys2Proof.Machine.execCvvVerify g s
  | .arqcVerify g => Sys2Proof.Machine.execArqcVerify g s
  | .arqcVerifyArpc g => Sys2Proof.Machine.execArqcVerifyArpc g s
  | .dukptPinTranslate g => Sys2Proof.Machine.execDukptPinTranslate g s
  | .dukptMacVerify g => Sys2Proof.Machine.execDukptMacVerify g s
  | .dukptDataDecrypt g => Sys2Proof.Machine.execDukptDataDecrypt g s
  | .dukptInitialKey g => Sys2Proof.Machine.execDukptInitialKey g s
  | .kbImport g => Sys2Proof.Machine.execKbImport g s
  | .kbExport g => Sys2Proof.Machine.execKbExport g s
  | .pkKeygen g => Sys2Proof.Machine.execPkKeygen g s
  | .rsaSign g => Sys2Proof.Machine.execRsaSign g s
  | .rsaVerify g => Sys2Proof.Machine.execRsaVerify g s
  | .ecdsaSign g => Sys2Proof.Machine.execEcdsaSign g s
  | .ecdsaVerify g => Sys2Proof.Machine.execEcdsaVerify g s
  | .ecdhDerive g => Sys2Proof.Machine.execEcdhDerive g s
  | .ecPointMul g => Sys2Proof.Machine.execEcPointMul g s
  | .ed25519Sign g => Sys2Proof.Machine.execEd25519Sign g s
  | .ed25519Verify g => Sys2Proof.Machine.execEd25519Verify g s
  | .pqKeygen g => Sys2Proof.Machine.execPqKeygen g s
  | .mlkemEncaps g => Sys2Proof.Machine.execMlkemEncaps g s
  | .mlkemDecaps g => Sys2Proof.Machine.execMlkemDecaps g s
  | .mldsaSign g => Sys2Proof.Machine.execMldsaSign g s
  | .mldsaVerify g => Sys2Proof.Machine.execMldsaVerify g s
  | .slhdsaVerify g => Sys2Proof.Machine.execSlhdsaVerify g s
  | .digest g => Sys2Proof.Machine.execDigest g s
  | .hmacGenerate g => Sys2Proof.Machine.execHmacGenerate g s
  | .hmacVerify g => Sys2Proof.Machine.execHmacVerify g s
  | .digestCompare g => Sys2Proof.Machine.execDigestCompare g s
  | .digestDerive g => Sys2Proof.Machine.execDigestDerive g s
  | .keyGenerate g => Sys2Proof.Machine.execKeyGenerate g s
  | .keySave g => Sys2Proof.Machine.execKeySave g s
  | .keySaveUnder g => Sys2Proof.Machine.execKeySaveUnder g s
  | .keyLoad g => Sys2Proof.Machine.execKeyLoad g s
  | .keyLoadUnder g => Sys2Proof.Machine.execKeyLoadUnder g s
  | .keyRelease g => Sys2Proof.Machine.execKeyRelease g s
  | .keyRestrict g => Sys2Proof.Machine.execKeyRestrict g s
  | .keyInfo g => Sys2Proof.Machine.execKeyInfo g s
  | .keyPublic g => Sys2Proof.Machine.execKeyPublic g s
  | .keyCheckValue g => Sys2Proof.Machine.execKeyCheckValue g s
  | .keyProve g => Sys2Proof.Machine.execKeyProve g s
  | .masterCreate g => Sys2Proof.Machine.execMasterCreate g s
  | .masterInvalidate g => Sys2Proof.Machine.execMasterInvalidate g s
  | .masterStatus g => Sys2Proof.Machine.execMasterStatus g s
  | .invalidationPass => Sys2Proof.Machine.execInvalidationPass s
  | .keyValidityExpire slot => Sys2Proof.Machine.execKeyValidityExpire slot s
  | .rootRecoveryComplete => Sys2Proof.Machine.execRootRecoveryComplete s
  | .noiseBlockComplete src bits => Sys2Proof.Machine.execNoiseBlockComplete src bits s
  | .skyFailLimitWrite val => Sys2Proof.Machine.execSkyFailLimitWrite val s
  | .expanderReseed inst => Sys2Proof.Machine.execExpanderReseed inst s
  | .randomRead reader client n => Sys2Proof.Machine.execRandomRead reader client n s
  | .randomStallTimeout reader => Sys2Proof.Machine.execRandomStallTimeout reader s
  | .skyDataRead => Sys2Proof.Machine.execSkyDataRead s
  | .randomGenerate g => Sys2Proof.Machine.execRandomGenerate g s
  | .randomFresh g => Sys2Proof.Machine.execRandomFresh g s
  | .egressFrame port data fcsOk fec busy mismatch => Sys2Proof.Machine.execEgressFrame port data fcsOk fec busy mismatch s
  | .ingressFrame port data fcsOk fec => Sys2Proof.Machine.execIngressFrame port data fcsOk fec s
  | .icvVerdict port mismatch => Sys2Proof.Machine.execIcvVerdict port mismatch s
  | .furrowMismatchWindowClose pg => Sys2Proof.Machine.execFurrowMismatchWindowClose pg s
  | .ruleCommit pg rule => Sys2Proof.Machine.execRuleCommit pg rule s
  | .portConfigWrite side port val => Sys2Proof.Machine.execPortConfigWrite side port val s
  | .pgConfigWrite pg val => Sys2Proof.Machine.execPgConfigWrite pg val s
  | .pgStop pg => Sys2Proof.Machine.execPgStop pg s
  | .pgStopComplete pg => Sys2Proof.Machine.execPgStopComplete pg s
  | .pgStart pg => Sys2Proof.Machine.execPgStart pg s
  | .pgStartComplete pg pass => Sys2Proof.Machine.execPgStartComplete pg pass s
  | .portLinkChange side port up remote => Sys2Proof.Machine.execPortLinkChange side port up remote s
  | .statsWriteback assoc => Sys2Proof.Machine.execStatsWriteback assoc s
  | .channelCommit ch => Sys2Proof.Machine.execChannelCommit ch s
  | .saCommit assoc => Sys2Proof.Machine.execSaCommit assoc s
  | .switchArm ch val => Sys2Proof.Machine.execSwitchArm ch val s
  | .linkMkaCreate g => Sys2Proof.Machine.execLinkMkaCreate g s
  | .linkMkaDelete g => Sys2Proof.Machine.execLinkMkaDelete g s
  | .linkMkaStatus g => Sys2Proof.Machine.execLinkMkaStatus g s
  | .linkMkaCreatePersist g => Sys2Proof.Machine.execLinkMkaCreatePersist g s
  | .linkMkaDeletePersist g => Sys2Proof.Machine.execLinkMkaDeletePersist g s
  | .linkSaInstall g => Sys2Proof.Machine.execLinkSaInstall g s
  | .linkSaInstallWrapped g => Sys2Proof.Machine.execLinkSaInstallWrapped g s
  | .linkSaClear g => Sys2Proof.Machine.execLinkSaClear g s
  | .linkSaSwitch g => Sys2Proof.Machine.execLinkSaSwitch g s
  | .linkStatsRead g => Sys2Proof.Machine.execLinkStatsRead g s
  | .linkMasterLoad g => Sys2Proof.Machine.execLinkMasterLoad g s
  | .mkpduReceive cell => Sys2Proof.Machine.execMkpduReceive cell s
  | .mkaTimerExpire inst kind => Sys2Proof.Machine.execMkaTimerExpire inst kind s
  | .dramRead addr finding g => Sys2Proof.Machine.execDramRead addr finding g s
  | .dramWrite addr data g => Sys2Proof.Machine.execDramWrite addr data g s
  | .counterBlockRewriteComplete e block bad => Sys2Proof.Machine.execCounterBlockRewriteComplete e block bad s
  | .scrubRead e finding => Sys2Proof.Machine.execScrubRead e finding s
  | .thatchInitComplete e => Sys2Proof.Machine.execThatchInitComplete e s
  | .hedgerowAccessCheck unit master kind attr addr len => Sys2Proof.Machine.execHedgerowAccessCheck unit master kind attr addr len s
  | .inactiveSetLoad cell ok => Sys2Proof.Machine.execInactiveSetLoad cell ok s
  | .hedgerowUpdate unit set commit => Sys2Proof.Machine.execHedgerowUpdate unit set commit s
  | .monitorTrip ms => Sys2Proof.Machine.execMonitorTrip ms s
  | .swaleComplete => Sys2Proof.Machine.execSwaleComplete s
  | .haltBegin => Sys2Proof.Machine.execHaltBegin s
  | .gorAlarmClear mask => Sys2Proof.Machine.execGorAlarmClear mask s
  | .peatRecordsClear => Sys2Proof.Machine.execPeatRecordsClear s
  | .gorBistStart mon chan => Sys2Proof.Machine.execGorBistStart mon chan s
  | .gorBistComplete pass => Sys2Proof.Machine.execGorBistComplete pass s
  | .bistOverdue => Sys2Proof.Machine.execBistOverdue s
  | .shadowScan bad => Sys2Proof.Machine.execShadowScan bad s
  | .backupTrip ms => Sys2Proof.Machine.execBackupTrip ms s
  | .ledgerRecordProgrammed => Sys2Proof.Machine.execLedgerRecordProgrammed s
  | .cairnEventPost code key payload => Sys2Proof.Machine.execCairnEventPost code key payload s
  | .rateWindowClose code key => Sys2Proof.Machine.execRateWindowClose code key s
  | .freezeCmd => Sys2Proof.Machine.execFreezeCmd s
  | .thawCmd => Sys2Proof.Machine.execThawCmd s
  | .freezeTimeout => Sys2Proof.Machine.execFreezeTimeout s
  | .loadRing => Sys2Proof.Machine.execLoadRing s
  | .loadFlash => Sys2Proof.Machine.execLoadFlash s
  | .loadFlashComplete => Sys2Proof.Machine.execLoadFlashComplete s
  | .wallCmd => Sys2Proof.Machine.execWallCmd s
  | .spillBlockProgrammed => Sys2Proof.Machine.execSpillBlockProgrammed s
  | .cmnFound g => Sys2Proof.Machine.execCmnFound g s
  | .cmnEvidence g => Sys2Proof.Machine.execCmnEvidence g s
  | .cmnInvite g => Sys2Proof.Machine.execCmnInvite g s
  | .cmnJoin g => Sys2Proof.Machine.execCmnJoin g s
  | .cmnLeave g => Sys2Proof.Machine.execCmnLeave g s
  | .cmnExpel g => Sys2Proof.Machine.execCmnExpel g s
  | .cmnRosterExport g => Sys2Proof.Machine.execCmnRosterExport g s
  | .cmnRosterLoad g => Sys2Proof.Machine.execCmnRosterLoad g s
  | .cmnSessionOpen g => Sys2Proof.Machine.execCmnSessionOpen g s
  | .cmnRelayIn g => Sys2Proof.Machine.execCmnRelayIn g s
  | .cmnRelayOut g => Sys2Proof.Machine.execCmnRelayOut g s
  | .cmnReplicate g full => Sys2Proof.Machine.execCmnReplicate g full s
  | .cmnReplicaBind g => Sys2Proof.Machine.execCmnReplicaBind g s
  | .cmnReplicaDrop g => Sys2Proof.Machine.execCmnReplicaDrop g s
  | .cmnGenNotify g => Sys2Proof.Machine.execCmnGenNotify g s
  | .cmnPeerSelWrite val => Sys2Proof.Machine.execCmnPeerSelWrite val s
  | .handshakeReceive => Sys2Proof.Machine.execHandshakeReceive s
  | .heartbeatReceive => Sys2Proof.Machine.execHeartbeatReceive s
  | .joinRequestReceive => Sys2Proof.Machine.execJoinRequestReceive s
  | .rosterUpdateReceive => Sys2Proof.Machine.execRosterUpdateReceive s
  | .rosterRequestReceive => Sys2Proof.Machine.execRosterRequestReceive s
  | .rosterSegmentReceive => Sys2Proof.Machine.execRosterSegmentReceive s
  | .replicaReceive => Sys2Proof.Machine.execReplicaReceive s
  | .genNoticeReceive => Sys2Proof.Machine.execGenNoticeReceive s
  | .bindAckReceive => Sys2Proof.Machine.execBindAckReceive s
  | .heartbeatTimer peer => Sys2Proof.Machine.execHeartbeatTimer peer s
  | .peerTimeout peer => Sys2Proof.Machine.execPeerTimeout peer s
  | .vbakLoss => Sys2Proof.Machine.execVbakLoss s
  | .monitorReturnToWindow m => Sys2Proof.Machine.execMonitorReturnToWindow m s
  | .loadRingComplete => Sys2Proof.Machine.execLoadRingComplete s
  | .skyDataRefill => Sys2Proof.Machine.execSkyDataRefill s
  | .egressFrameDeparture port => Sys2Proof.Machine.execEgressFrameDeparture port s
  | .adminFirmwareTimer g id set => Sys2Proof.Machine.execAdminFirmwareTimer g id set s

end Sys2Proof.Machine
end

