-- ==== Sys2Proof/Safety.lean ====
section
/-! DEFINITION. The terms the statements use: what counts as a safe run, when BAR0 answers, and what a command leaves alone. -/

namespace Sys2Proof

open Machine

/-- A step that does not stop the machine. -/
def StepsOn (s : State) : Prop := ∃ t, step s = .next t

namespace Machine

/-- BAR0 answers the host: the islands run and the host interface is out of reset (R28, R77). -/
def State.up (s : State) : Prop := s.live = true ∧ s.hif.perst = false

/-- BAR0 answers and shows every block (R77, R78, R89). -/
def State.shown (s : State) : Prop := s.up ∧ s.fullMap = true

/-- `t` differs from `s` in the register fields `fs` alone. -/
def OnlyFields (s t : State) (fs : List Fld) : Prop :=
  t = { s with regs := t.regs } ∧ ∀ g : Fld, g.key ∉ fs.map Fld.key → t.getF g = s.getF g

/-- The register fields of `t` are those of `s`, but for `fs`. -/
def FieldsBut (s t : State) (fs : List Fld) : Prop := ∀ g : Fld, g.key ∉ fs.map Fld.key → t.getF g = s.getF g

/-- The command answers a next state with the property. -/
def Gives (c : Instr) (s : State) (P : State → Prop) : Prop := ∃ t, exec c s = .next t ∧ P t

/-- The fields in which the event recorder and its timers count (R183, R426, R427, R429). -/
def logFields : List Fld :=
  [Reg.CRN_FROZEN_COUNT, Reg.CRN_DROPPED_COUNT, Reg.CRN_EVENT_DROPPED, Reg.CRN_EVENT_NO_WINDOW, Reg.DRV_TIMER_FULL_COUNT,
    Reg.DRV_EVENT_TIMER_FULL]

/-- `t` is `s` but for what recording events changes. -/
def Recorded (s t : State) : Prop :=
  t = { s with regs := t.regs, cairn := t.cairn, drv := { s.drv with timers := t.drv.timers } } ∧ FieldsBut s t logFields

/-- The fields of the register at a BAR0 offset. -/
def fieldsOf (off : Nat) : List Fld := (fieldsAt off).map (fun r => ⟨off, r.lo, r.w⟩)

/-! ### The work of a command of the transaction model -/

/-- The running node of graph `g` is its sink `n`, its input is there, its handles wait for nothing, its work has not been done, and its
deadline has not passed (R184, R213, R216). -/
def AtSink (s : State) (op g : Nat) (gr : Graph) (n : Nat) : Prop :=
  s.live = true ∧ s.graph g = some gr ∧ gr.order = g ∧ s.openNode g = some n ∧ n = gr.sink ∧ gr.desc.opcode = op ∧ gr.committed = false ∧
    gr.input.isSome = true ∧ s.drv.tick ≤ gr.deadline ∧ s.keyWait gr = false

/-- The graph presents no key handle. -/
def NoKeys (gr : Graph) : Prop := gr.desc.key0 = 0 ∧ gr.desc.key1 = 0 ∧ gr.desc.key2 = 0

/-- The command commits in node `n` of graph `gr`: status DONE, the output `out`, and the effects that make the state `u`. -/
def Commits (c : Instr) (s : State) (g n : Nat) (gr : Graph) (out : Bytes) (u : State) : Prop :=
  exec c s = .next ((u.unstall (.node g)).setGraph g
    (some ({ gr with committed := true, out := out }.setNode n { gr.node n with verdict := some St.done })))

/-- The work of node `n` of graph `gr` ends with the status `x` and leaves the state `u`. -/
def Ends (c : Instr) (s : State) (g n : Nat) (gr : Graph) (x : Nat) (u : State) : Prop :=
  exec c s = .next (u.setGraph g (some (gr.setNode n { gr.node n with verdict := some x })))

end Machine

end Sys2Proof
end

