-- ==== Sys2Proof/Certificates/Slice0/Obligations.lean ====
section
/-! DEFINITION. The statements for the provers, chapter by chapter of the spec. -/

open Sys2Proof Sys2Proof.Machine

/-! ### Register access (spec/00) -/

/-- A write of all four bytes of a dword sets RW fields, clears the W1C bits written as 1, and leaves every other field and
everything else alone (of the HIF global block and the power block, but for the registers whose writes act); a write that does not enable all
four bytes has no side effect; a 64-bit write is two writes of a dword, the lower address first; reserved BAR0 space discards writes and
reads as zero, by every size (R10, R11, R12). In every register that carries a CMD
field, a write of zero to it is no command: it changes nothing, posts no result and sets no refusal bit, and the other fields of the same
write (NEXT_ROLE of a cell, REQ_LEVEL of a meadow) act under their own rules (R459). -/
def Obligations.WritesFollowAccessTypes : Prop :=
  ∀ (s : State) (off val : Nat), s.up →
    (off % 4 = 0 → val < 2 ^ 32 →
      ((off < 0x1000 ∧ off ≠ 0x14 ∧ off ≠ 0x200) ∨
        (0xF00000 ≤ off ∧ off < 0xF01000 ∧ off ≠ 0xF00010 ∧ ¬ (0xF00020 ≤ off ∧ off < 0xF00040) ∧
          (off = 0xF00014 → val / 4096 % 65536 = s.getF Reg.PWR_SLEEP_CFG_S2_IDLE_US))) →
      ∃ t, exec (.registerWrite off 15 val) s = .next t ∧ OnlyFields s t (fieldsOf off) ∧
        ∀ r ∈ fieldsAt off, t.getF ⟨off, r.lo, r.w⟩ =
          (if r.acc = .rw then val / 2 ^ r.lo % 2 ^ r.w
           else if r.acc = .w1c ∧ val.testBit r.lo then 0
           else s.getF ⟨off, r.lo, r.w⟩)) ∧
    (∀ be, be < 16 → off < 0x4000000 →
      (be ≠ 15 → exec (.registerWrite off be val) s = .next s) ∧
      (0x1300000 ≤ off → exec (.registerWrite off be val) s = .next s ∧
        ∀ n ∈ [1, 2, 4, 8], off + n ≤ 0x4000000 →
          exec (.rcRead false off n) s = .next { s with rdata := 0 } ∧ exec (.latchedRead false off n) s = .next { s with rdata := 0 })) ∧
    (∀ t : State, off % 4 = 0 → off + 8 ≤ 0x4000000 → exec (.registerWrite off 15 val) s = .next t → t.up →
      exec (.registerWrite off 255 val) s = exec (.registerWrite (off + 4) 15 (val / 2 ^ 32)) t) ∧
    (s.shown → val % 16 = 0 →
      (∀ o, o ∈ [0x200, 0x100004, 0x100054, 0xE00004, 0x1000004] ∨ (∃ m < 8, o = 0x200080 + 4 * m) ∨
          (s.lc.variant.hasFurrow = true ∧ o ∈ [0x610000, 0x611000]) →
        exec (.registerWrite o 15 val) s = .next s) ∧
      (∀ c < 256, s.hasCell c = true → s.sleepState (meadowOf c) ≠ 4 →
        let u := s.wakeFor (0x300004 + 0x1000 * c)
        let role := val % 2 ^ 32 / 16 % 8
        exec (.registerWrite (0x300004 + 0x1000 * c) 15 val) s =
          .next (match u.judgeRole c role with
            | none => u.setF (Reg.SWD_CELL_CTL_NEXT_ROLE c) role
            | some x => u.drvRefused x))) ∧
    (s.up → ∀ m < 8, val / 16 % 8 = 0 → exec (.registerWrite (0xF00020 + 4 * m) 15 val) s = .next (s.reqLevel m (val % 4)))

/-- Windows of absent units (R3): the Furrow block of an EZ8-P1700, the Commons block of an EZ8-H1700, and the cell and Hedgerow
windows of an unpopulated meadow, read as zero and
discard writes; each access adds one to `HIF_ABSENT_HITS`, a 64-bit one two, which saturates, and reserved space adds none. An access to a cell window of a
meadow in S3 counts in `PWR_S3_HITS`, a read returning the saved role and role epoch of `SWD_CELL_STAT` and zero elsewhere (R66). A channel
whose island is in S3 or in restart refuses, and the sender sees it (R17). -/
def Obligations.AbsentAndSleepingUnitsAnswer : Prop :=
  (∀ (s : State) (off val : Nat), s.shown → off % 4 = 0 →
    ((0x600000 ≤ off ∧ off < 0xC00000 ∧ s.lc.variant = .p1700) ∨
      (0x300000 ≤ off ∧ off < 0x400000 ∧ s.hasMeadow ((off - 0x300000) / 0x1000 / 32) = false) ∨
      (inHedge off = true ∧ s.hasUnit (hedgeUnit off) = false) ∨ (0x1100000 ≤ off ∧ off < 0x1200000 ∧ s.lc.variant = .h1700)) →
    (∀ c ∈ [Instr.registerWrite off 15 val, .absentUnitAccess off true, .rcRead false off 4, .latchedRead false off 4,
        .absentUnitAccess off false],
      ∃ t, exec c s = .next t ∧
        t.getF Reg.HIF_ABSENT_HITS_HITS = min (s.getF Reg.HIF_ABSENT_HITS_HITS + 1) (2 ^ 32 - 1) ∧
        t.getF Reg.HIF_EVENT_ABSENT_HIT = 1 ∧
        FieldsBut s t [Reg.HIF_ABSENT_HITS_HITS, Reg.HIF_EVENT_ABSENT_HIT] ∧
        t = { s with regs := t.regs, hif := t.hif, outbox := t.outbox, rdata := t.rdata } ∧
        (c = .rcRead false off 4 ∨ c = .latchedRead false off 4 ∨ c = .absentUnitAccess off false → t.rdata = 0)) ∧
    (off % 8 = 0 → ∃ t, exec (.registerWrite off 255 val) s = .next t ∧
      t.getF Reg.HIF_ABSENT_HITS_HITS = min (s.getF Reg.HIF_ABSENT_HITS_HITS + 2) (2 ^ 32 - 1)) ∧
    (∀ o, 0x1300000 ≤ o → o < 0x4000000 → ∃ t, exec (.absentUnitAccess o true) s = .next t ∧ t = s)) ∧
  (∀ (s : State) (c o : Nat), s.shown → s.hasCell c = true → s.sleepState (meadowOf c) = 4 → c < 256 → o % 4 = 0 → o < 0x1000 →
    (∃ t, exec (.s3Access (0x300000 + 0x1000 * c + o) true) s = .next t ∧ OnlyFields s t [Reg.PWR_S3_HITS_HITS] ∧
      t.getF Reg.PWR_S3_HITS_HITS = min (s.getF Reg.PWR_S3_HITS_HITS + 1) (2 ^ 32 - 1)) ∧
    (∃ t, exec (.s3Access (0x300000 + 0x1000 * c + o) false) s = .next t ∧
      OnlyFields { s with rdata := t.rdata } t [Reg.PWR_S3_HITS_HITS] ∧
      t.getF Reg.PWR_S3_HITS_HITS = min (s.getF Reg.PWR_S3_HITS_HITS + 1) (2 ^ 32 - 1) ∧
      (o = 0 → ∀ w, (getC {} s.pwr.save (meadowOf c)).cells[c % 32]? = some w → t.rdata = 16 * w.1 + 256 * (w.2.1 % 256)) ∧
      (0x20 ≤ o → t.rdata = 0))) ∧
  (∀ (s : State) (sender m : Nat), s.live = true →
    (s.sleepState m = 4 ∨ s.mdwState m = 3 → exec (.channelRefused sender m) s = .next (s.emit (.refused sender))) ∧
    (s.sleepState m ≠ 4 → s.mdwState m ≠ 3 → exec (.channelRefused sender m) s = .next s))

/-- A read of an RC counter returns it and clears it; the other fields keep their values (R10, R71). A read of the low dword of Drover's tick
count, or of Cairn's operating time, latches the upper bits; the next read of the high dword returns them (R200, R434). -/
def Obligations.ReadsClearAndLatch : Prop :=
  (∀ (s : State), s.up →
    (∃ t, exec (.rcRead false 0xF00068 4) s = .next t ∧ t.rdata = s.getF Reg.PWR_S3_HITS_HITS % 2 ^ 32 ∧
      t.getF Reg.PWR_S3_HITS_HITS = 0 ∧ OnlyFields { s with rdata := t.rdata } t [Reg.PWR_S3_HITS_HITS]) ∧
    (∃ t, exec (.rcRead false 0xF00064 4) s = .next t ∧
      t.rdata = s.getF Reg.PWR_SAG_CNT_SAGS % 2 ^ 16 + s.getF Reg.PWR_SAG_CNT_CAPS % 2 ^ 16 * 2 ^ 16 ∧
      t.getF Reg.PWR_SAG_CNT_SAGS = 0 ∧ t.getF Reg.PWR_SAG_CNT_CAPS = 0 ∧
      OnlyFields { s with rdata := t.rdata } t [Reg.PWR_SAG_CNT_SAGS, Reg.PWR_SAG_CNT_CAPS])) ∧
  (∀ s : State, s.shown →
    exec (.latchedRead false 0x200028 4) s =
      .next { s with rdata := s.drv.tick % 2 ^ 32, drv := { s.drv with tickLatch := s.drv.tick / 2 ^ 32 } } ∧
    exec (.latchedRead false 0x20002C 4) s = .next { s with rdata := s.drv.tickLatch % 2 ^ 32 }) ∧
  (∀ s : State, s.up →
    exec (.latchedRead false 0xE0001C 4) s =
      .next { s with rdata := s.cairn.opTime % 2 ^ 32, cairn := { s.cairn with timeLatch := s.cairn.opTime / 2 ^ 32 } } ∧
    exec (.latchedRead false 0xE00020 4) s = .next { s with rdata := s.cairn.timeLatch % 2 ^ 16 })

/-! ### The block as a whole -/

/-- The front command of the queue acts on the state with the queue's rest; with nothing waiting one tick passes (log 1). -/
def Obligations.StepRunsTheFrontCommand : Prop :=
  (∀ (c : Instr) (s : State), step { s with pending := c :: s.pending } = exec c s) ∧
  (∀ s : State, s.pending = [] → step s = .next s.idle) ∧
  (∀ s : State, s.live = true → s.idle = { s with drv := { s.drv with tick := s.drv.tick + 1 } })

/-- No command touches the queue, the variant or the identity of the module, and none erases a ledger record: the ledger a command leaves begins
with the ledger it found (R1, R91, R417). Every command goes on in a next state, but for a register access beyond the BAR (R109). -/
def Obligations.CommandsKeepQueueIdentityAndLedger : Prop :=
  (∀ (c : Instr) (s t : State), exec c s = .next t →
    t.pending = s.pending ∧ t.lc.variant = s.lc.variant ∧ t.lc.uid = s.lc.uid ∧ ∃ l, t.gorse.ledger = s.gorse.ledger ++ l) ∧
  (∀ (c : Instr) (s : State),
    (∀ a be v, c = .registerWrite a be v → lastByte a be < barSize) →
    (∀ b a n, c = .rcRead b a n ∨ c = .latchedRead b a n → a + n - 1 < barSize) →
    (∀ a w, c = .absentUnitAccess a w ∨ c = .s3Access a w → a < barSize) →
    ∃ t, exec c s = .next t ∧ t.pending = s.pending ∧ t.lc.variant = s.lc.variant ∧ t.lc.uid = s.lc.uid ∧
      ∃ l, t.gorse.ledger = s.gorse.ledger ++ l)

/-- Every step keeps the register file in its one canonical form, so that equal registers are equal data. -/
def Obligations.StepsKeepRegistersCanonical : Prop :=
  ∀ s t : State, wfM regDefault s.regs = true → step s = .next t → wfM regDefault t.regs = true

/-- What reset leaves: no command waits, the register file is canonical and every field at the value of its table, among them the
responses of Gorse's monitors, the scrub period, the test interval and the heartbeat interval (R400, R402, R403, R420, R447). -/
def Obligations.ResetLeavesTheTablesValues : Prop :=
  State.reset.pending = [] ∧ wfM regDefault State.reset.regs = true ∧ State.reset.outbox = [] ∧
  (∀ f : Fld, State.reset.getF f = regDefault f.key) ∧
  (∀ m, m < 26 → State.reset.getF (Reg.GOR_MON_CFG_RESP m) =
    ([3, 3, 3, 3, 3, 3, 2, 2, 3, 2, 2, 2, 0, 3, 3, 3, 3, 5, 1, 0, 5, 4, 0, 0, 0, 3] : List Nat).getD m 0) ∧
  (∀ m, m < 26 → State.reset.getF (Reg.GOR_MON_CFG_ENABLED m) = if 13 ≤ m ∧ m ≤ 16 then 0 else 1) ∧
  State.reset.getF Reg.THA_SCRUB_CFG_PERIOD_H = 24 ∧ State.reset.getF Reg.GOR_BIST_CFG_INTERVAL_H = 24 ∧
  State.reset.getF Reg.CMN_CFG_HB_MS = 100

/-! ### Supply, power levels and sleep (spec/03) -/

/-- The effective level R56 computes from the request, the cap and the sag, in levels 0 (P0) to 3 (P3). -/
def Claims.effective (req cap sag : Nat) : Nat := min 3 (max req (if cap = 1 then 1 else 0) + (if sag = 1 then 1 else 0))

/-- Setting the power cap sets `CAP_ACTIVE`, its event bit and its count, records 0x1002, and starts a step down in every
meadow at P0; clearing it clears `CAP_ACTIVE` and starts the step back up where P0 is requested (R56, R57, R58, R71). -/
def Obligations.PowerCapMovesMeadowsFromAndToP0 : Prop :=
  ∀ s : State, s.live = true →
    (s.getF Reg.PWR_STATUS_CAP_ACTIVE = 0 →
      Gives .powerCapSet s fun t => ∃ u, t = u.post 0x1002 0 0 0 ∧ u = { s with regs := u.regs, pwr := u.pwr } ∧
        u.pwr = { s.pwr with stepping := u.pwr.stepping } ∧
        FieldsBut s u [Reg.PWR_STATUS_CAP_ACTIVE, Reg.PWR_EVENT_CAP_SET, Reg.PWR_SAG_CNT_CAPS, Reg.PWR_STATUS_LEVEL_CHANGING] ∧
        u.getF Reg.PWR_STATUS_CAP_ACTIVE = 1 ∧ u.getF Reg.PWR_EVENT_CAP_SET = 1 ∧
        u.getF Reg.PWR_SAG_CNT_CAPS = min (s.getF Reg.PWR_SAG_CNT_CAPS + 1) 65535 ∧
        ∀ m, s.hasMeadow m = true → s.stepping m = none → s.getF (Reg.PWR_MDW_STAT_EFF_LEVEL m) = 0 →
          6 ≤ s.bale.step → s.pwr.holdP3 = false → u.stepping m = some false ∧ u.getF Reg.PWR_STATUS_LEVEL_CHANGING = 1) ∧
    (Gives .powerCapClear s fun t => t = { s with regs := t.regs, pwr := t.pwr } ∧
      t.pwr = { s.pwr with stepping := t.pwr.stepping } ∧
      FieldsBut s t [Reg.PWR_STATUS_CAP_ACTIVE, Reg.PWR_STATUS_LEVEL_CHANGING] ∧ t.getF Reg.PWR_STATUS_CAP_ACTIVE = 0 ∧
      ∀ m, s.hasMeadow m = true → s.stepping m = none → s.getF (Reg.PWR_MDW_STAT_EFF_LEVEL m) = 1 → s.levelInForce m = 0 → s.getF Reg.PWR_STATUS_SAG_ACTIVE = 0 → 6 ≤ s.bale.step →
        s.pwr.holdP3 = false → t.stepping m = some true)

/-- A sag sets `SAG_ACTIVE`, its event bit and its count, breaks the stable counter, records 0x1003, and steps every meadow
that is at its level down; its end clears `SAG_ACTIVE`. A threshold from 9.5 V to 56.0 V is taken and any other one is refused
(R56, R59, R60, R71). -/
def Obligations.SagStepsMeadowsDown : Prop :=
  ∀ s : State,
    (s.live = true → s.getF Reg.PWR_STATUS_SAG_ACTIVE = 0 → s.getF Reg.PWR_SAG_CFG_SAG_EN = 1 →
      Gives .sagDetect s fun t => ∃ u, t = u.post 0x1003 0 0 0 ∧ u = { s with regs := u.regs, pwr := u.pwr } ∧
        u.pwr = { s.pwr with stepping := u.pwr.stepping, breakS := true } ∧
        FieldsBut s u [Reg.PWR_STATUS_SAG_ACTIVE, Reg.PWR_EVENT_SAG_SEEN, Reg.PWR_SAG_CNT_SAGS, Reg.PWR_STATUS_LEVEL_CHANGING,
          Reg.PWR_LC_STAB_STABLE_MS, Reg.PWR_STATUS_HOLDUP_CHARGED, Reg.PWR_STATUS_LC_POWER_OK, Reg.PWR_STATUS_LC_LOW_PATH] ∧
        u.getF Reg.PWR_STATUS_SAG_ACTIVE = 1 ∧ u.getF Reg.PWR_EVENT_SAG_SEEN = 1 ∧ u.getF Reg.PWR_LC_STAB_STABLE_MS = 0 ∧
        u.getF Reg.PWR_STATUS_LC_LOW_PATH = 0 ∧
        u.getF Reg.PWR_SAG_CNT_SAGS = min (s.getF Reg.PWR_SAG_CNT_SAGS + 1) 65535 ∧
        ∀ m, s.hasMeadow m = true → s.stepping m = none → 6 ≤ s.bale.step → s.pwr.holdP3 = false →
          s.getF (Reg.PWR_MDW_STAT_EFF_LEVEL m) < 3 → s.getF Reg.PWR_STATUS_CAP_ACTIVE ≤ 1 →
          s.getF (Reg.PWR_MDW_STAT_EFF_LEVEL m) =
            Claims.effective (s.levelInForce m) (s.getF Reg.PWR_STATUS_CAP_ACTIVE) 0 →
          u.stepping m = some false) ∧
    (s.live = true →
      Gives .sagEnd s fun t => t = { s with regs := t.regs, pwr := { s.pwr with stepping := t.pwr.stepping } } ∧
        FieldsBut s t [Reg.PWR_STATUS_SAG_ACTIVE, Reg.PWR_STATUS_LEVEL_CHANGING] ∧ t.getF Reg.PWR_STATUS_SAG_ACTIVE = 0) ∧
    (∀ val, s.up → 95 ≤ val % 1024 → val % 1024 ≤ 560 →
      Gives (.pwrSagCfgWrite val) s fun t =>
        OnlyFields s t [Reg.PWR_SAG_CFG_SAG_THRESH, Reg.PWR_SAG_CFG_SAG_EN] ∧ t.getF Reg.PWR_SAG_CFG_SAG_THRESH = val % 1024 ∧
        t.getF Reg.PWR_SAG_CFG_SAG_EN = if val.testBit 31 then 1 else 0) ∧
    (∀ val, s.up → (val % 1024 < 95 ∨ 560 < val % 1024) →
      Gives (.pwrSagCfgWrite val) s fun t => ∃ u, t = u.post 0x1005 0 0 0 ∧
        OnlyFields s u [Reg.PWR_SAG_CFG_SAG_EN, Reg.PWR_EVENT_CFG_REFUSED] ∧ u.getF Reg.PWR_EVENT_CFG_REFUSED = 1)

/-- A requested level is held, and an ACTIVE meadow begins to step toward the effective level of R56; a meadow that sleeps or changes state
keeps the level in force until it is next ACTIVE. A step ends one level nearer, and the next one begins at once, in the direction the newest
decision requires (R56, R57, R68). -/
def Obligations.LevelsStepTowardTheEffectiveLevel : Prop :=
  ∀ (s : State) (m : Nat), s.hasMeadow m = true →
    (∀ level, s.up → level < 4 → s.sleepState m ≠ 0 →
      Gives (.pwrReqLevelWrite m level) s fun t => t.getF (Reg.PWR_MDW_CTL_REQ_LEVEL m) = level ∧ t.levelInForce m = s.levelInForce m ∧
        OnlyFields { s with pwr := t.pwr } t [Reg.PWR_MDW_CTL_REQ_LEVEL m] ∧ t.pwr = { s.pwr with heldReq := t.pwr.heldReq }) ∧
    (6 ≤ s.bale.step → s.pwr.holdP3 = false → s.getF Reg.PWR_STATUS_CAP_ACTIVE ≤ 1 → s.getF Reg.PWR_STATUS_SAG_ACTIVE ≤ 1 →
      (∀ level, s.up → level < 4 → s.sleepState m = 0 → s.stepping m = none →
        Gives (.pwrReqLevelWrite m level) s fun t => t = { s with regs := t.regs, pwr := { s.pwr with stepping := t.pwr.stepping } } ∧
          FieldsBut s t [Reg.PWR_MDW_CTL_REQ_LEVEL m, Reg.PWR_STATUS_LEVEL_CHANGING] ∧
          t.getF (Reg.PWR_MDW_CTL_REQ_LEVEL m) = level ∧
          let goal := Claims.effective level (s.getF Reg.PWR_STATUS_CAP_ACTIVE) (s.getF Reg.PWR_STATUS_SAG_ACTIVE)
          let now := s.getF (Reg.PWR_MDW_STAT_EFF_LEVEL m)
          t.stepping m = if now = goal then none else some (decide (goal < now))) ∧
      (∀ up, s.live = true → s.stepping m = some up → s.getF (Reg.PWR_MDW_STAT_EFF_LEVEL m) < 4 →
        Gives (.levelStepComplete m) s fun t => t = { s with regs := t.regs, pwr := { s.pwr with stepping := t.pwr.stepping } } ∧
          FieldsBut s t [Reg.PWR_MDW_STAT_EFF_LEVEL m, Reg.PWR_STATUS_LEVEL_CHANGING] ∧
          let now := if up then s.getF (Reg.PWR_MDW_STAT_EFF_LEVEL m) - 1 else min 3 (s.getF (Reg.PWR_MDW_STAT_EFF_LEVEL m) + 1)
          let goal := Claims.effective (s.levelInForce m) (s.getF Reg.PWR_STATUS_CAP_ACTIVE) (s.getF Reg.PWR_STATUS_SAG_ACTIVE)
          t.getF (Reg.PWR_MDW_STAT_EFF_LEVEL m) = now ∧
          t.stepping m = if now = goal then none else some (decide (goal < now))))

/-- `CHARGED` sets at 5.20 J and clears below 5.00 J; `LC_POWER_OK` needs it with 1,000 ms on either counter, and the low path is
the stable counter alone. A break returns its counter to 0 at once. The operating-time tick counts a millisecond on each counter
without a break, takes the readings, and charges the store with 4.0 W to 4.4 W up to 6.00 J; in a reset or a halt the time and the charge go on
alone (R60, R71, R421). -/
def Obligations.HoldUpAndVinCounters : Prop :=
  ∀ s : State, s.pwr.storeUj < 655360000 →
    (s.live = true →
      (5200000 ≤ s.pwr.storeUj →
        Gives .holdupCharged s fun t =>
          OnlyFields s t [Reg.PWR_HOLDUP_ENERGY, Reg.PWR_HOLDUP_CHARGED, Reg.PWR_STATUS_HOLDUP_CHARGED, Reg.PWR_STATUS_LC_POWER_OK,
            Reg.PWR_STATUS_LC_LOW_PATH] ∧
          t.getF Reg.PWR_HOLDUP_ENERGY = s.pwr.storeUj / 10000 ∧ t.getF Reg.PWR_HOLDUP_CHARGED = 1 ∧
          t.getF Reg.PWR_STATUS_HOLDUP_CHARGED = 1 ∧
          (t.getF Reg.PWR_STATUS_LC_POWER_OK = 1 ↔
            1000 ≤ s.getF Reg.PWR_STATUS_ABOVE16_MS ∨ 1000 ≤ s.getF Reg.PWR_LC_STAB_STABLE_MS) ∧
          (t.getF Reg.PWR_STATUS_LC_LOW_PATH = 1 ↔
            s.getF Reg.PWR_STATUS_ABOVE16_MS < 1000 ∧ 1000 ≤ s.getF Reg.PWR_LC_STAB_STABLE_MS)) ∧
      (∀ e, e < 500 → 10000 * e ≤ s.pwr.storeUj →
        Gives (.holdupDischarged e) s fun t =>
          OnlyFields { s with pwr := { s.pwr with storeUj := 10000 * e } } t
            [Reg.PWR_HOLDUP_ENERGY, Reg.PWR_HOLDUP_CHARGED, Reg.PWR_STATUS_HOLDUP_CHARGED, Reg.PWR_STATUS_LC_POWER_OK,
              Reg.PWR_STATUS_LC_LOW_PATH] ∧
          t.getF Reg.PWR_HOLDUP_ENERGY = e ∧ t.getF Reg.PWR_HOLDUP_CHARGED = 0 ∧ t.getF Reg.PWR_STATUS_LC_POWER_OK = 0) ∧
      (∀ a b : Bool,
        Gives (.vinBreak a b) s fun t =>
          t = { s with regs := t.regs, pwr := { s.pwr with breakA := s.pwr.breakA || a, breakS := s.pwr.breakS || b } } ∧
          FieldsBut s t [Reg.PWR_STATUS_ABOVE16_MS, Reg.PWR_LC_STAB_STABLE_MS, Reg.PWR_STATUS_HOLDUP_CHARGED,
            Reg.PWR_STATUS_LC_POWER_OK, Reg.PWR_STATUS_LC_LOW_PATH] ∧
          t.getF Reg.PWR_STATUS_ABOVE16_MS = (if a then 0 else s.getF Reg.PWR_STATUS_ABOVE16_MS) ∧
          t.getF Reg.PWR_LC_STAB_STABLE_MS = (if b then 0 else s.getF Reg.PWR_LC_STAB_STABLE_MS) ∧
          (a = true → b = true → t.getF Reg.PWR_STATUS_LC_POWER_OK = 0))) ∧
    (∀ (vin pin vbak : Nat) (lowA lowS : Bool), s.pwr.vin = true → vin < 65536 → pin < 65536 →
      Gives (.operatingTimeTick vin pin vbak lowA lowS) s fun t =>
        (if s.pwr.storeUj < 6000000 then
          min 6000000 (s.pwr.storeUj + 4000) ≤ t.pwr.storeUj ∧ t.pwr.storeUj ≤ min 6000000 (s.pwr.storeUj + 4400)
        else t.pwr.storeUj = s.pwr.storeUj) ∧
        (s.live = false → t = { s with pwr := { s.pwr with storeUj := t.pwr.storeUj }
                                       cairn := { s.cairn with opTime := s.cairn.opTime + 1 } }) ∧
        (s.live = true →
          t = { s with regs := t.regs, pwr := { s.pwr with breakA := false, breakS := false, storeUj := t.pwr.storeUj }
                       cairn := { s.cairn with opTime := s.cairn.opTime + 1 } } ∧
          FieldsBut s t [Reg.PWR_INPUT_VIN_CV, Reg.PWR_INPUT_PIN_DW, Reg.PWR_VBAK_VBAK_MV, Reg.PWR_STATUS_ABOVE16_MS,
            Reg.PWR_LC_STAB_STABLE_MS, Reg.PWR_HOLDUP_ENERGY, Reg.PWR_HOLDUP_CHARGED, Reg.PWR_STATUS_HOLDUP_CHARGED,
            Reg.PWR_STATUS_LC_POWER_OK, Reg.PWR_STATUS_LC_LOW_PATH] ∧
          t.getF Reg.PWR_INPUT_VIN_CV = vin ∧ t.getF Reg.PWR_INPUT_PIN_DW = pin ∧ t.getF Reg.PWR_HOLDUP_ENERGY = t.pwr.storeUj / 10000 ∧
          t.getF Reg.PWR_STATUS_ABOVE16_MS = (if lowA then 0 else if s.pwr.breakA then s.getF Reg.PWR_STATUS_ABOVE16_MS
            else min (s.getF Reg.PWR_STATUS_ABOVE16_MS + 1) 65535) ∧
          (s.getF Reg.PWR_STATUS_SAG_ACTIVE = 0 → t.getF Reg.PWR_LC_STAB_STABLE_MS = (if lowS then 0 else if s.pwr.breakS then
            s.getF Reg.PWR_LC_STAB_STABLE_MS else min (s.getF Reg.PWR_LC_STAB_STABLE_MS + 1) 65535))))

/-- A drop of 4 % lengthens the clock period of an island by 25 %, one of 8 % by 50 %, and of a Furrow port group by 2 %; the counter
of the kind of island rises once for each stretch, which a deeper drop deepens and a part recovery lessens, and the end returns the period
(R69, R71). A clump with empty slots, no request
and S1 enabled enters S1, and a first access wakes it (R63, R66). -/
def Obligations.ClockStretchAndClumpSleep : Prop :=
  ∀ s : State, s.live = true →
    (∀ island pct, island < 41 → 4 ≤ pct → getC 0 s.pwr.stretch island = 0 →
      Gives (.droopStretchBegin island pct) s fun t =>
        t = { s with regs := t.regs, pwr := { s.pwr with stretch := t.pwr.stretch } } ∧
        (∀ i, getC 0 t.pwr.stretch i =
          if i = island then (if island = 32 ∨ island = 33 then 2 else if pct < 8 then 25 else 50) else getC 0 s.pwr.stretch i) ∧
        let cnt := if island < 32 then Reg.PWR_DROOP_CNT_CELL
          else if island < 34 then Reg.PWR_DROOP_CNT_FURROW else Reg.PWR_DROOP_CNT_OTHER
        FieldsBut s t [cnt] ∧ t.getF cnt = min (s.getF cnt + 1) 1023) ∧
    (∀ island,
      Gives (.droopStretchEnd island 0) s fun t => t = { s with pwr := { s.pwr with stretch := t.pwr.stretch } } ∧
        ∀ i, getC 0 t.pwr.stretch i = if i = island then 0 else getC 0 s.pwr.stretch i) ∧
    (∀ island pct, island < 41 → island ≠ 32 → island ≠ 33 →
      (8 ≤ pct → getC 0 s.pwr.stretch island = 25 →
        Gives (.droopStretchBegin island pct) s fun t => t = { s with pwr := { s.pwr with stretch := t.pwr.stretch } } ∧
          ∀ i, getC 0 t.pwr.stretch i = if i = island then 50 else getC 0 s.pwr.stretch i) ∧
      (4 ≤ pct → pct < 8 → getC 0 s.pwr.stretch island = 50 →
        Gives (.droopStretchEnd island pct) s fun t => t = { s with pwr := { s.pwr with stretch := t.pwr.stretch } } ∧
          ∀ i, getC 0 t.pwr.stretch i = if i = island then 25 else getC 0 s.pwr.stretch i)) ∧
    (∀ k, k < 32 → s.hasMeadow (k / 4) = true → s.sleepState (k / 4) = 0 → s.getF Reg.PWR_SLEEP_CFG_S1_EN = 1 →
      (∀ i, i < 8 → s.slotsEmpty (8 * k + i) = true) → (s.port k).req = [] →
      Gives (.s1Entry k) s fun t => t = { s with pwr := { s.pwr with s1 := t.pwr.s1 } } ∧
        ∀ i, getC false t.pwr.s1 i = if i = k then true else getC false s.pwr.s1 i) ∧
    (∀ k, Gives (.s1Wake k) s fun t => t = { s with pwr := { s.pwr with s1 := t.pwr.s1 } } ∧
      ∀ i, getC false t.pwr.s1 i = if i = k then false else getC false s.pwr.s1 i)

/-- The sleep commands by meadow state (R64, R65, R66, R68): an ACTIVE meadow begins its entry to S2 on command, whatever its cells run, and by
itself when its idle timer is due and it holds no work; a Fallow one begins its entry to S3; `WAKE` begins a wake from either, and during an
entry it is held; a command that asks for what is under way, or for what is so, has no effect; one the table does not permit, or to a meadow
the variant lacks, is refused with `CMD_REFUSED` and record 0x1004; an access wakes a meadow from S2. -/
def Obligations.SleepCommandsByMeadowState : Prop :=
  (∀ (s : State) (m : Nat), s.hasMeadow m = true →
    let refused : State := (s.setF Reg.PWR_EVENT_CMD_REFUSED 1).post 0x1004 m 0 0
    (s.up → s.sleepState m = 0 →
      Gives (.enterS2 m) s (fun t => t.sleepState m = 1 ∧ t.deep m = false) ∧
      ((∀ k e, k / 64 = m → s.slot k = some e → e.mode ≠ .prefetched) → exec (.enterS2 m) s = .next ((s.setSleep m 1).setDeep m false))) ∧
    (s.up → (s.sleepState m = 1 ∨ s.sleepState m = 2) → exec (.enterS2 m) s = .next s) ∧
    (s.up → 3 ≤ s.sleepState m → exec (.enterS2 m) s = .next refused) ∧
    (s.live = true → s.sleepState m = 0 → s.getF Reg.PWR_SLEEP_CFG_S2_IDLE_US ≠ 0 → s.noWork m = true → s.isDue (.sleep m) = true →
      exec (.s2IdleEntry m) s = .next (((s.dropTimer (.sleep m)).setSleep m 1).setDeep m false)) ∧
    (s.up → s.allFallow m = true → (s.sleepState m = 0 ∨ s.sleepState m = 2) →
      exec (.enterS3 m) s = .next ((s.setSleep m 3).setDeep m true)) ∧
    (s.up → (s.sleepState m = 3 ∨ s.sleepState m = 4) → exec (.enterS3 m) s = .next s) ∧
    (s.up → (s.allFallow m = false ∧ (s.sleepState m = 0 ∨ s.sleepState m = 2)) ∨ s.sleepState m = 1 ∨ s.sleepState m = 5 ∨
        s.sleepState m = 6 →
      exec (.enterS3 m) s = .next refused) ∧
    (s.up → s.sleepState m = 4 → exec (.wakeCmd m) s = .next ((s.setSleep m 5).setDeep m true)) ∧
    (s.up → s.sleepState m = 2 → exec (.wakeCmd m) s = .next ((s.setSleep m 5).setDeep m false)) ∧
    (s.up → (s.sleepState m = 1 ∨ s.sleepState m = 3) → exec (.wakeCmd m) s = .next (s.setSleep m 6)) ∧
    (s.up → (s.sleepState m = 0 ∨ s.sleepState m = 5 ∨ s.sleepState m = 6) → exec (.wakeCmd m) s = .next s)) ∧
  (∀ (s : State) (m : Nat), s.up → m < 8 → s.hasMeadow m = false → (s.sleepState m = 0 ∨ s.sleepState m = 7) →
    ∀ c ∈ [Instr.enterS2 m, .enterS3 m, .wakeCmd m], exec c s = .next ((s.setF Reg.PWR_EVENT_CMD_REFUSED 1).post 0x1004 m 0 0)) ∧
  (∀ (s : State) (m : Nat), s.live = true →
    (s.sleepState m = 2 → exec (.s2Wake m) s = .next (s.setSleep m 5)) ∧ (s.sleepState m ≠ 2 → exec (.s2Wake m) s = .next s))

/-- An entry ends once the meadow's slots are empty and its memory ports idle, with the save list written, at S2 or S3, or at WAKING where a
wake was held; a wake from S2 whose save memory holds its integrity ends ACTIVE and is counted, one that does not goes on as from S3; a wake
from S3 whose digests match ends ACTIVE with every cell Fallow with cause STEWARD, its saved role and an epoch raised by one, Drover reads the
meadow FALLOW, and it serves the adopted epoch; a digest that does not match is recorded as 0xE004 (R64 to R68, R84). -/
def Obligations.SleepTransitionsEnd : Prop :=
  ∀ (s : State) (m : Nat), m < 8 → s.live = true →
    (s.noWork m = true → s.portsIdle m = true →
      (s.deep m = false → (s.sleepState m = 1 ∨ s.sleepState m = 6) →
        Gives (.s2EntryComplete m) s fun t => t.sleepState m = (if s.sleepState m = 6 ∨ s.mdwState m = 3 then 5 else 2) ∧
          (getC {} t.pwr.save m).valid = true ∧ (getC {} t.pwr.save m).level = s.getF (Reg.PWR_MDW_CTL_REQ_LEVEL m) ∧
          (getC {} t.pwr.save m).epoch = getC 0 s.bale.mdwEpoch m ∧
          (∀ i, i < 32 → (getC {} t.pwr.save m).cells[i]? =
            some (s.cellRole (32 * m + i), s.roleEpoch (32 * m + i), s.nextRole (32 * m + i))) ∧
          t = { s with regs := t.regs, pwr := { s.pwr with save := t.pwr.save }
                       drv := { s.drv with winOpen := t.drv.winOpen, oram := t.drv.oram } }) ∧
      (s.deep m = true → (s.sleepState m = 3 ∨ s.sleepState m = 6) →
        Gives (.s3EntryComplete m) s fun t => t.sleepState m = (if s.sleepState m = 6 then 5 else 4) ∧ t.mdwState m = 5 ∧
          (getC {} t.pwr.save m).valid = true ∧
          t = { s with regs := t.regs, pwr := { s.pwr with save := t.pwr.save }
                       drv := { s.drv with winOpen := t.drv.winOpen, oram := t.drv.oram } })) ∧
    (s.sleepState m = 5 → s.deep m = false → s.mdwState m ≠ 3 → getC false s.pwr.wiped m = false →
      Gives (.s2WakeComplete m true) s fun t => t.sleepState m = 0 ∧
        (getC false s.pwr.saveBad m = false → t.getF (Reg.PWR_MDW_STAT_SAVE_FAULT m) = 0) ∧
        t.getF (Reg.PWR_MDW_STAT_WAKE_COUNT m) = min (s.getF (Reg.PWR_MDW_STAT_WAKE_COUNT m) + 1) 65535 ∧
        (∀ c, c < 32 → t.getF (Reg.SWD_ARB_WAIT (32 * m + c)) = 0) ∧
        (s.noWork m = true → t = { s with regs := t.regs, pwr := t.pwr, cairn := t.cairn
                                          drv := { s.drv with timers := t.drv.timers, ports := t.drv.ports } })) ∧
    (s.sleepState m = 5 → s.deep m = false → s.mdwState m ≠ 3 →
      Gives (.s2WakeComplete m false) s fun t => t.sleepState m = 5 ∧ t.deep m = true ∧
        t.getF (Reg.PWR_MDW_STAT_SAVE_FAULT m) = 1 ∧ t.getF Reg.PWR_EVENT_SAVE_FAULT = 1) ∧
    (∀ misread, s.sleepState m = 5 → s.deep m = true → s.mdwState m ≠ 3 →
      (s.badSection misread = none → s.sky.seeds ≠ 0 →
        Gives (.s3WakeComplete m misread) s fun t => t.sleepState m = 0 ∧ t.mdwState m = 5 ∧
          (getC false s.pwr.saveBad m = false → t.getF (Reg.PWR_MDW_STAT_SAVE_FAULT m) = 0) ∧
          getC 0 t.bale.mdwEpoch m = s.bale.adoptedEpoch ∧
          ∀ i, i < 32 → t.cellState (32 * m + i) = 3 ∧ t.getF (Reg.SWD_CELL_STAT_FALLOW_CAUSE (32 * m + i)) = 0 ∧
            ∀ w, (getC {} s.pwr.save m).cells[i]? = some w → t.cellRole (32 * m + i) = w.1 % 8 ∧
              t.roleEpoch (32 * m + i) = (w.2.1 + 1) % 256 ∧ t.nextRole (32 * m + i) = w.2.2 % 8) ∧
      (∀ x, s.badSection misread = some x →
        Gives (.s3WakeComplete m misread) s fun t => ∃ u : State, t = u.post 0xE004 m x 0 ∧ u.sleepState m = 0 ∧ u.mdwState m = 5 ∧
          u.bale = s.bale))

/-! ### The start sequence, resets and bales (spec/02, spec/04) -/

/-- VIN brings the module to step 1. The mask ROM then runs from step 3: a module in Blank and one whose slots both fail enter the no-bale
state, one in End of Life stops at step 3, and one whose selected slot or fallback slot passes reaches step 6 on that slot's bale. The hypotheses leave out a
Peat buffer with records and inputs out of window (R54, R72, R73, R75, R76, R77, R89). -/
def Obligations.StartReachesItsStopPoint : Prop :=
  ∀ s : State,
    (s.pwr.vin = false →
      Gives .vinValid s fun t => t = { s with pwr := t.pwr, pins := t.pins, bale := { s.bale with step := 1 } } ∧
        t.pwr = { s.pwr with vin := true, reset := s.pwr.resetHeld, startCause := 1 } ∧
        t.pins = { s.pins with ready := false, alarmLow := false }) ∧
    (s.pwr.vin = true → s.pwr.on = false → s.pwr.reset = false → s.pwr.resetHeld = false → (s.bale.step = 1 ∨ s.bale.step = 2) →
      s.gorse.outs = [] → s.gorse.peat = [] → s.gorse.latch = [] → s.gorse.overflow = 0 → s.gorse.full = false →
      (∀ kat bad mis, s.lc.decoded = 0 →
        Gives (.romStart kat bad mis) s fun t => t.live = true ∧ t.lc.st = 0 ∧ t.bale.step = 3 ∧ t.getF Reg.HIF_STATUS_START_STEP = 3 ∧
          t.getF Reg.HIF_BALE_STATUS_NO_BALE = 1 ∧ t.pwr.save = [] ∧ t.pins.haltLow = false ∧ t.pins.flResetN = .high ∧ t.fullMap = false) ∧
      (∀ kat bad mis, s.lc.decoded = 3 →
        Gives (.romStart kat bad mis) s fun t => t.live = true ∧ t.lc.st = 3 ∧ t.bale.step = 3 ∧
          t.getF Reg.HIF_BALE_STATUS_NO_BALE = 0 ∧ t.bale.running = s.bale.running ∧ t.fullMap = false) ∧
      (∀ (kat : Bool) (bad : List Nat) (mis : List (Nat × HubCheck)) (r : State), (s.lc.decoded = 1 ∨ s.lc.decoded = 2) →
        r = { s with lc := { s.lc with st := s.lc.decoded }, bale := { s.bale with deviceBad := r.bale.deviceBad } } →
        (∀ d, d < 2 → getC false r.bale.deviceBad d = bad.contains d) →
        let a := s.selSlot
        let of_ (k : Nat) : List HubCheck := (mis.filter (fun x => x.1 == k)).map Prod.snd
        let first := r.judgeSlot a (fun e => decide (s.eAdopt ≤ e)) 6 (of_ a)
        let second := r.judgeSlot (1 - a) (fun e => decide (s.ePrev ≤ e)) 6 (of_ (1 - a))
        let runs (t : State) (slot : Nat) : Prop := t.live = true ∧ t.bale.running = some slot ∧ t.bale.adoptedEpoch = hdrEpoch (s.header slot) ∧
          t.bale.content = s.contentOf slot ∧ t.bale.step = 6 ∧ t.getF Reg.HIF_STATUS_START_STEP = 6 ∧
          t.getF Reg.HIF_BALE_STATUS_FALLBACK = (if slot = a then 0 else 1) ∧ t.pins.tampDrive = true ∧ t.sky.step7 = true ∧ t.sky.katOk = kat
        (first = 0 → Gives (.romStart kat bad mis) s fun t => runs t a) ∧
        (first ≠ 0 → second = 0 → Gives (.romStart kat bad mis) s fun t => runs t (1 - a)) ∧
        (first ≠ 0 → second ≠ 0 →
          Gives (.romStart kat bad mis) s fun t => t.live = true ∧ t.lc.st = s.lc.decoded ∧ t.bale.step = 3 ∧
            t.getF Reg.HIF_BALE_STATUS_NO_BALE = 1 ∧ t.fullMap = false)))

/-- Step 7 ends when a die supplies and every instance is there, and steps 8 to 10 follow; a start without supply is held; a failed
known-answer test is repeated; step 12 serves each cell in its role of the role map (R72, R78, R329). -/
def Obligations.StartIsHeldAndResumes : Prop :=
  ∀ s : State, s.live = true →
    (∀ ref156, s.bale.step = 6 → s.step7Done = true →
      Gives (.entropyReady ref156) s fun t => t.bale.step = 10 ∧ t.bale.ref156 = ref156 ∧ t.getF Reg.HIF_STATUS_START_STEP = 10 ∧
        t.getF Reg.HIF_STATUS_ENTROPY_READY = 1 ∧ t.getF Reg.HIF_STATUS_START_HELD = 0 ∧ t.getF Reg.BAR_STATUS_ROOT_OPEN = 1 ∧
        t.root.seeded = true ∧ t.lc.attSeen = true) ∧
    (s.bale.step = 6 → (s.supplyBits = 0 ∨ s.sky.katOk = false) → s.getF Reg.HIF_STATUS_START_HELD = 0 →
      Gives .startHeld s fun t => t = (s.setF Reg.HIF_STATUS_START_HELD 1).post 0x7008 0 0 0) ∧
    (∀ ok, s.bale.step = 6 → s.sky.katOk = false →
      Gives (.katRetry ok) s fun t => t = { s with sky := { s.sky with katOk := ok } }) ∧
    (s.bale.step = 10 → s.getF Reg.LCS_STATUS_EOL_PENDING = 0 → s.getF Reg.HIF_STATUS_FULL_SERVICE = 0 →
      s.getF Reg.HIF_BALE_STATUS_OVERLAP = 0 →
      Gives (.fullService []) s fun t => t.bale.step = 12 ∧ t.getF Reg.HIF_STATUS_FULL_SERVICE = 1 ∧ t.pins.ready = true ∧
        (s.sky.service.length = 8 → t.sky.serving = []) ∧
        ∀ c, s.hasCell c = true → 1 ≤ s.mapRole c → s.mapRole c ≤ 6 → s.roleFits (s.mapRole c) = true →
          t.cellState c = 0 ∧ t.cellRole c = s.mapRole c ∧ t.roleEpoch c = (s.roleEpoch c + 1) % 256 ∧
          t.cellEpoch c = getC 0 s.bale.mdwEpoch (meadowOf c))

/-- The endpoint answers configuration requests with Request Retry Status until step 11, and with data afterwards (R72, R107).
`PERST_N`, a function level reset and the return from D3hot reset the host interface alone: queues, sessions and IDE streams end,
`SKY_DATA` empties, the count rises, and Furrow, the root store and Gorse's ledger stay (R26, R79, R107, R130, R142). -/
def Obligations.HostResetsLeaveTheModuleRunning : Prop :=
  ∀ s : State, s.live = true → s.hif.perst = false →
    (s.hif.endpoint = false → s.pastStop = true → s.bale.step ≠ 10 →
      Gives .pcieEndpointReady s fun t => t = { s with regs := t.regs, hif := { s.hif with endpoint := true } } ∧
        FieldsBut s t [Reg.PWR_CLK_STATUS_PCIE_REF_OK] ∧ t.getF Reg.PWR_CLK_STATUS_PCIE_REF_OK = 1) ∧
    (∀ write off val, s.hif.endpoint = false →
      Gives (.pcieConfigRequest write off val) s fun t => t = { s with outbox := .cfg true 0 :: s.outbox }) ∧
    (∀ off val, s.hif.endpoint = true →
      Gives (.pcieConfigRequest false off val) s fun t =>
        t = { s with outbox := .cfg false (s.configDword (off % 4096 / 4 * 4)) :: s.outbox }) ∧
    (∀ off val, s.hif.endpoint = true → off % 4096 / 4 * 4 ≠ Config.capAt 0x11 →
      Gives (.pcieConfigRequest true off val) s fun t =>
        t = { s with hif := { s.hif with cfgSpace := t.hif.cfgSpace, atsEn := t.hif.atsEn }, outbox := .cfg false 0 :: s.outbox } ∧
        t.hif.atsEn = (if off % 4096 / 4 * 4 = Config.capAt 0x1000F + 4 then val.testBit 31 else s.hif.atsEn) ∧
        getM Config.configDefault t.hif.cfgSpace (off % 4096 / 4 * 4) = val % 2 ^ 32) ∧
    (s.lc.check = none → s.bale.job = none →
      let after (t : State) (perst : Bool) : Prop := t.hif.perst = perst ∧ t.hif.spdm = {} ∧ t.hif.ide = [] ∧ t.hif.msixEn = false ∧
        t.sky.buffer = 0 ∧ (∀ q, (t.queue q).st = .disabled) ∧ t.fur = s.fur ∧ t.root = s.root ∧ t.gorse.ledger = s.gorse.ledger ∧
        ((∀ m, s.restartWaits m = false) → t.pwr = s.pwr) ∧ t.bale.running = s.bale.running ∧
        ((s.getF Reg.HIF_BALE_STATUS_STAGE = 1 ∨ s.getF Reg.HIF_BALE_STATUS_STAGE = 2) → s.blowing = false →
          t.getF Reg.HIF_BALE_STATUS_STAGE = 5)
      (Gives .perstAssert s fun t => after t true ∧ t.hif.endpoint = false ∧
        t.getF Reg.HIF_RESET_CNT_PERST = min (s.getF Reg.HIF_RESET_CNT_PERST + 1) (2 ^ Reg.HIF_RESET_CNT_PERST.w - 1)) ∧
      (Gives .functionLevelReset s fun t => after t false ∧
        t.getF Reg.HIF_RESET_CNT_FLR = min (s.getF Reg.HIF_RESET_CNT_FLR + 1) (2 ^ Reg.HIF_RESET_CNT_FLR.w - 1)) ∧
      (s.hif.d3hot = true → Gives .d3hotToD0 s fun t => after t false ∧ t.hif.d3hot = false ∧
        t.getF Reg.HIF_RESET_CNT_D3 = min (s.getF Reg.HIF_RESET_CNT_D3 + 1) (2 ^ Reg.HIF_RESET_CNT_D3.w - 1))) ∧
    (Gives .d3hotEntry s fun t => t = { s with hif := { s.hif with d3hot := true } }) ∧
    (Gives .perstRelease { s with hif := { s.hif with perst := true } } fun t => t = s)

/-- `RESET_N` stops every island and leaves the root store, the fuses, the flash slots and the ledger; during a fuse write it waits; its
release lets the start go on. VIN loss and over-voltage do the same and drop the supply (R26, R39, R53, R61, R79). -/
def Obligations.ResetAndVinLossKeepTheRootStore : Prop :=
  ∀ s : State,
    let stopped (t : State) : Prop := t.regs = [] ∧ t.drv = {} ∧ t.queues = [] ∧ t.allots = [] ∧ t.fur = {} ∧ t.bar.slots = [] ∧
      t.sky = {} ∧ t.tha = {} ∧ t.cmn = {} ∧ t.root = s.root ∧ t.lc.uid = s.lc.uid ∧ t.lc.variant = s.lc.variant ∧
      t.bale.flash = s.bale.flash ∧ t.gorse.ledger = s.gorse.ledger ∧ t.live = false
    (s.pwr.resetHeld = false → s.pwr.vin = true → s.pwr.reset = false →
      (s.live = true → s.lc.job = none → s.lc.check = none → s.bale.job = none → s.gorse.swale = none →
        Gives .resetAssert s fun t => stopped t ∧ t.pwr.reset = true ∧ t.pwr.resetHeld = true ∧ t.pwr.vin = true ∧ t.bale.step = 2 ∧
          (s.pwr.on = true → t.pwr.startCause = 2) ∧ t.pins.ready = false ∧ t.pins.haltLow = s.pins.haltLow) ∧
      (s.live = true → s.fuseBusy = true →
        Gives .resetAssert s fun t => t = { s with pwr := { s.pwr with resetHeld := true }, lc := { s.lc with resetHeld := true } })) ∧
    (s.pwr.resetHeld = true →
      Gives .resetRelease s fun t => t = { s with pwr := { s.pwr with resetHeld := false, reset := false } }) ∧
    (∀ blocks, s.pwr.vin = true → s.live = true → s.lc.job = none → s.lc.check = none → s.bale.job = none → s.gorse.swale = none →
      let down (t : State) : Prop := stopped t ∧ t.pwr.vin = false ∧ t.pins.alarmLow = s.pins.alarmLow ∧
        t.gorse.downTime = t.cairn.opTime ∧ t.gorse.downUs = 0 ∧ t.cairn.opTime = s.cairn.opTime ∧ t.cairn.unspilled = []
      Gives (.vinLoss blocks) s down ∧ Gives (.vinOvervoltage blocks) s down)

/-- OPEN, WRITE and CLOSE act in the stages that accept them and end with `BAD_STATE` in the others; ABORT leaves any stage for ABORTED, after the
sector in progress; the write count rises at OPEN
up to its end, a chunk is written once, and a dword of the aperture is taken unless the stage is BUSY (R80, R81, R82). -/
def Obligations.StagingCommandsByStage : Prop :=
  ∀ s : State, s.up →
    let tgt := s.openTarget
    let result (t : State) (x : Nat) : Prop := OnlyFields s t [Reg.HIF_BALE_STATUS_RESULT] ∧ t.getF Reg.HIF_BALE_STATUS_RESULT = x
    let begun (t : State) (j : StageJob) : Prop := FieldsBut s t [Reg.HIF_BALE_STATUS_STAGE, Reg.HIF_BALE_STATUS_RESULT,
        Reg.HIF_BALE_EPOCH_STAGED_EPOCH] ∧ t.stage = 2 ∧ t.getF Reg.HIF_BALE_STATUS_RESULT = 0 ∧
      t.getF Reg.HIF_BALE_EPOCH_STAGED_EPOCH = 0 ∧ t.bale.job = some j
    (s.stage ≠ 2 → s.getF Reg.HIF_BALE_STATUS_OVERLAP = 0 → s.wcnt tgt < 10000 →
      Gives .baleOpen s fun t => begun t .erase ∧ t.bale.target = tgt ∧ t.bale.written = [] ∧ t.wcnt tgt = s.wcnt tgt + 1 ∧
        getC 0 t.bale.flashCnt tgt = s.wcnt tgt + 1 ∧ t.bale.flash = s.bale.flash ∧
        t = { s with regs := t.regs, bale := t.bale, root := t.root }) ∧
    (s.stage = 2 → Gives .baleOpen s fun t => result t 9) ∧
    (s.stage ≠ 2 → s.getF Reg.HIF_BALE_STATUS_OVERLAP = 1 → Gives .baleOpen s fun t => result t 2) ∧
    (s.stage ≠ 2 → s.getF Reg.HIF_BALE_STATUS_OVERLAP = 0 → 10000 ≤ s.wcnt tgt → Gives .baleOpen s fun t => result t 1) ∧
    (∀ off val, s.stage ≠ 2 →
      Gives (.baleApertureWrite off val) s fun t => t = { s with bale := { s.bale with aperture := t.bale.aperture } } ∧
        ∀ i, getC 0 t.bale.aperture i = if i = off % 65536 / 4 then val % 2 ^ 32 else getC 0 s.bale.aperture i) ∧
    (∀ off val, s.stage = 2 → Gives (.baleApertureWrite off val) s fun t => t = s) ∧
    (s.stage = 1 → s.getF Reg.HIF_BALE_CHUNK_INDEX ≤ 767 → s.getF Reg.HIF_BALE_CHUNK_INDEX ∉ s.bale.written →
      Gives .baleWrite s fun t => begun t .program ∧ t.bale.written = s.getF Reg.HIF_BALE_CHUNK_INDEX :: s.bale.written ∧
        t = { s with regs := t.regs, bale := { s.bale with job := t.bale.job, written := t.bale.written } }) ∧
    (s.stage = 1 → (767 < s.getF Reg.HIF_BALE_CHUNK_INDEX ∨ s.getF Reg.HIF_BALE_CHUNK_INDEX ∈ s.bale.written) →
      Gives .baleWrite s fun t => result t 0xB) ∧
    (s.stage = 1 → Gives .baleClose s fun t => begun t .check ∧
      t = { s with regs := t.regs, bale := { s.bale with job := some .check } }) ∧
    (s.stage ≠ 1 → (Gives .baleWrite s fun t => result t 9) ∧ Gives .baleClose s fun t => result t 9) ∧
    (s.stage ≠ 2 ∨ s.bale.job = some .check → Gives .baleAbort s fun t => t.stage = 5 ∧ t.getF Reg.HIF_BALE_STATUS_RESULT = 0 ∧
      t.getF Reg.HIF_BALE_EPOCH_STAGED_EPOCH = 0 ∧ t = { s with regs := t.regs, bale := { s.bale with job := none } }) ∧
    (s.stage = 2 → s.bale.job = some .erase → Gives .baleAbort s fun t =>
      OnlyFields { s with bale := { s.bale with job := some .abortErase } } t [Reg.HIF_BALE_STATUS_RESULT] ∧ t.stage = 2) ∧
    (s.stage = 2 → s.bale.job = some .program → Gives .baleAbort s fun t =>
      OnlyFields { s with bale := { s.bale with job := some .abortProgram } } t [Reg.HIF_BALE_STATUS_RESULT] ∧ t.stage = 2)

/-- The erase leaves the slot's chunks blank and the stage OPEN; a chunk takes the aperture's bytes; the CLOSE check ends in VERIFIED with
the staged epoch where the slot passes with EPOCH above E_ADOPT, and in FAILED with the code of the failing step otherwise, two mismatches of a hub digest engine in one
check failing it; an aborted program ends in ABORTED (R80, R86, R285). -/
def Obligations.StagingWorkEnds : Prop :=
  ∀ s : State, s.live = true → s.stage = 2 →
    let tgt := s.bale.target
    let verdict (mis : List HubCheck) : Nat := s.judgeSlot tgt (fun e => decide (s.eAdopt < e)) 6 mis
    (∀ mis c, 2 ≤ (mis.filter (fun x => x == c)).length → verdict mis ≠ 0) ∧
    (s.bale.job = some .erase →
      Gives (.baleEraseComplete true) s fun t => t.stage = 1 ∧ t.bale.job = none ∧ t.getF Reg.HIF_BALE_STATUS_RESULT = 0 ∧
        (∀ i, i < 768 → t.chunk tgt i = List.replicate 65536 0xFF) ∧ (∀ k, (k < 768 * tgt ∨ 768 * tgt + 768 ≤ k) → getC [] t.bale.flash k = getC [] s.bale.flash k) ∧
        t = { s with regs := t.regs, bale := { s.bale with flash := t.bale.flash, job := none } }) ∧
    (∀ i rest, s.bale.job = some .program → s.bale.written = i :: rest →
      Gives (.baleChunkProgrammed true) s fun t => t.stage = 1 ∧ t.bale.job = none ∧ t.chunk tgt i = s.apertureBytes ∧
        (∀ slot k, 768 * slot + k ≠ 768 * tgt + i → t.chunk slot k = s.chunk slot k) ∧
        t = { s with regs := t.regs, bale := { s.bale with flash := t.bale.flash, job := none } }) ∧
    (∀ mis, s.bale.job = some .check → verdict mis = 0 →
      Gives (.baleCloseCheckComplete mis) s fun t => t.stage = 3 ∧ t.getF Reg.HIF_BALE_STATUS_RESULT = 0 ∧ t.bale.staged = s.contentOf tgt ∧
        t.bale.stagedLimit = hdrOverlap (s.header tgt) ∧
        t.getF Reg.HIF_BALE_EPOCH_STAGED_EPOCH = hdrEpoch (s.header tgt) % 2 ^ 32 ∧ t.root = s.root) ∧
    (∀ mis, s.bale.job = some .check → verdict mis ≠ 0 →
      Gives (.baleCloseCheckComplete mis) s fun t => t.stage = 4 ∧ t.getF Reg.HIF_BALE_STATUS_RESULT = verdict mis % 256 ∧
        t.getF Reg.HIF_BALE_EPOCH_STAGED_EPOCH = 0 ∧ t.root = s.root ∧ (mis = [] → t = { s with regs := t.regs, bale := { s.bale with job := none } })) ∧
    (∀ i rest, s.bale.job = some .abortProgram → s.bale.written = i :: rest →
      Gives .baleAbortComplete s fun t => t.stage = 5 ∧ t.chunk tgt i = s.apertureBytes ∧ t.root = s.root ∧
        t.bale.written = s.bale.written)

/-- ADOPT of a VERIFIED bale with power, no overlap and a higher epoch: where its slot is the one named, the record takes the epochs and
the overlap starts at once; otherwise one selector bit is blown first. Each missing condition ends with its own result. A timer that
has run out restarts the lowest meadow of the older epoch (R83, R84, R86). -/
def Obligations.AdoptionStartsTheOverlap : Prop :=
  ∀ s : State, s.up →
    let e := s.bale.stagedEpoch
    let ready : Prop := s.stage = 3 ∧ s.lcPower = true ∧ s.inRows = false ∧ s.lc.job = none ∧ s.getF Reg.HIF_BALE_STATUS_OVERLAP = 0 ∧
      s.eAdopt < e
    let result (t : State) (x : Nat) : Prop := OnlyFields s t [Reg.HIF_BALE_STATUS_RESULT] ∧ t.getF Reg.HIF_BALE_STATUS_RESULT = x
    (∀ r m, ready → s.bale.target = s.selSlot → s.bale.running = some r → s.hasMeadow m = true → getC 0 s.bale.mdwEpoch m ≠ e →
      Gives .baleAdopt s fun t => t.root = { s.root with baleRec := some (e, s.eAdopt) } ∧ t.stage = 0 ∧ t.bale.adoptedEpoch = e ∧
        t.bale.adopted = s.bale.staged ∧ t.getF Reg.HIF_BALE_STATUS_OVERLAP = 1 ∧
        t.bale.overlapEnd = s.cairn.opTime + 60000 * s.bale.stagedLimit ∧
        t.drv.banks = (e, s.bale.staged.templates) :: s.drv.banks.take 1 ∧ t.lc = s.lc ∧ t.bale.running = some r) ∧
    (ready → s.bale.target ≠ s.selSlot → s.lc.selBlown < 16384 → s.getF Reg.PWR_STATUS_LC_LOW_PATH = 0 →
      Gives .baleAdopt s fun t => t.lc = { s.lc with job := some .selector } ∧ t.stage = 2 ∧ t.root = s.root) ∧
    (ready → s.bale.target ≠ s.selSlot → 16384 ≤ s.lc.selBlown → Gives .baleAdopt s fun t => result t 8) ∧
    (s.stage ≠ 3 → Gives .baleAdopt s fun t => result t 9) ∧
    (s.stage = 3 → s.lcPower = false → Gives .baleAdopt s fun t => result t 0xA) ∧
    (s.stage = 3 → s.lcPower = true → s.inRows = false → s.lc.job = none → s.getF Reg.HIF_BALE_STATUS_OVERLAP = 1 →
      Gives .baleAdopt s fun t => result t 2) ∧
    (s.stage = 3 → s.lcPower = true → s.inRows = false → s.lc.job = none → s.getF Reg.HIF_BALE_STATUS_OVERLAP = 0 → e ≤ s.eAdopt →
      Gives .baleAdopt s fun t => result t 6) ∧
    (s.getF Reg.HIF_BALE_STATUS_OVERLAP = 0 → (∀ m, s.restartWaits m = false) → s.hif.aborts = [] → Gives .overlapTimerExpire s fun t => t = s) ∧
    (s.getF Reg.HIF_BALE_STATUS_OVERLAP = 1 → s.bale.expiryNext = none → s.cairn.opTime < s.bale.overlapEnd →
      (∀ m, s.restartWaits m = false) → s.hif.aborts = [] → Gives .overlapTimerExpire s fun t => t = s) ∧
    (∀ m, s.getF Reg.HIF_BALE_STATUS_OVERLAP = 1 → s.bale.expiryNext = none → s.bale.overlapEnd ≤ s.cairn.opTime →
      s.hasMeadow m = true → getC 0 s.bale.mdwEpoch m ≠ s.bale.adoptedEpoch → s.sleepState m = 0 → s.mdwState m = 0 →
      s.mustWait m = false → (∀ k, k < m → s.hasMeadow k = true → getC 0 s.bale.mdwEpoch k = s.bale.adoptedEpoch) →
      (∀ k, s.restartWaits k = false) → s.lc.check = none →
      Gives .overlapTimerExpire s fun t => t.bale = { s.bale with expiryNext := some (m + 1) } ∧ t.mdwState m = 1 ∧
        getC .none t.drv.mdwGoal m = .restart ∧ t.lc = s.lc ∧ t.root = s.root)

/-! ### Life cycle and Stile (spec/05) -/

/-- ENTER_TEST, ENTER_EOL, PROGRAM_SIGNER and NEW_NONCE: the first case of R95 that holds refuses the command and is reported in
`REFUSE`; otherwise the rows of the transition begin, the Swale-R runs, the signer's fuse write begins, or a new nonce is drawn, at once
or when its read is served (R92 to R96, R104, R330). -/
def Obligations.LifeCycleControlCommands : Prop :=
  ∀ s : State, s.up →
    let refused (t : State) (x : Nat) : Prop := OnlyFields s t [Reg.LCS_STATUS_REFUSE] ∧ t.getF Reg.LCS_STATUS_REFUSE = x
    let data := (List.range 8).map Reg.LCS_SIGNER_DATA_DATA
    let turned (x : Nat) : Prop :=
      Gives .programSigner s fun t => OnlyFields s t (Reg.LCS_STATUS_REFUSE :: data) ∧ t.getF Reg.LCS_STATUS_REFUSE = x
    (s.lcPower = false → (Gives .enterTest s fun t => refused t 1) ∧ Gives .enterEol s fun t => refused t 1) ∧
    (s.lcPower = true → s.lcBusy = true → (Gives .enterTest s fun t => refused t 4) ∧ Gives .enterEol s fun t => refused t 4) ∧
    (s.lcPower = true → s.lcBusy = false → s.lc.st ≠ 0 →
      (Gives .enterTest s fun t => refused t 2) ∧ Gives .enterEol s fun t => refused t 2) ∧
    (s.lcPower = true → s.lcBusy = false → s.lc.st = 0 →
      ((∀ d ∈ s.lc.signers, d = none) → Gives .enterTest s fun t => refused t 3) ∧
      ((∃ d ∈ s.lc.signers, d ≠ none) →
        Gives .enterTest s fun t => t.lc = { s.lc with check := none, retried := false, job := some (.row 1 0 1 none) } ∧
          t.phase = 2 ∧ t.root = s.root ∧
          (s.getF Reg.PWR_STATUS_LC_LOW_PATH = 0 → t.pwr = s.pwr ∧ FieldsBut s t (Reg.LCS_STATUS_PHASE :: logFields))) ∧
      (Gives .enterEol s fun t => t.lc.check = some (3, none) ∧ t.phase = 1 ∧ t.lc.t1 = s.lc.t1 ∧
          (s.gorse.swale = none → t.gorse.swale = some ⟨2, 0xFF, 3⟩ ∧ t.root = {}))) ∧
    (s.lcPower = false → turned 1) ∧ (s.lcPower = true → s.lcBusy = true → turned 4) ∧
    (s.lcPower = true → s.lcBusy = false → s.lc.st ≠ 0 → s.lc.st ≠ 1 → turned 2) ∧
    (∀ h, h = s.signerData → s.lcPower = true → s.lcBusy = false → (s.lc.st = 0 ∨ s.lc.st = 1) →
      (s.lc.signers[s.getF Reg.LCS_SIGNER_CTL_SLOT]? = some none →
        Gives .programSigner s fun t => t.lc = { s.lc with job := some (.signer (s.getF Reg.LCS_SIGNER_CTL_SLOT) h) } ∧
          (∀ j, j < 8 → t.getF (Reg.LCS_SIGNER_DATA_DATA j) = 0) ∧
          (s.getF Reg.PWR_STATUS_LC_LOW_PATH = 0 → t = { s with regs := t.regs, lc := t.lc } ∧ FieldsBut s t data)) ∧
      (∀ d, s.lc.signers[s.getF Reg.LCS_SIGNER_CTL_SLOT]? = some (some d) → turned 6)) ∧
    (s.entropyReady = false → Gives .newNonce s fun t => refused t 5) ∧
    (∀ r : State, s.entropyReady = true → r = { s with lc := { s.lc with nonce := [] } } →
      (∀ b (u : State), r.draw 9 16 = some (b, u) →
        Gives .newNonce s fun t => t = ({ u with lc := { u.lc with nonce := b } } : State).unstall .hub) ∧
      (r.draw 9 16 = none → Gives .newNonce s fun t => t = r.stall .hub))

/-- A fuse row that is read back right takes its value and the next row follows; after the commit row the phase is AWAIT_RESET and the
fuses decode to the target; a row is tried twice, and one that fails twice leaves fuses that decode to Lost. Signer slots and
revocations are blown whole, and a full ledger starts the rows toward End of Life (R92, R96, R97, R98). -/
def Obligations.FuseRowsAdvanceAndDecode : Prop :=
  ∀ s : State, s.live = true → s.lc.resetHeld = false → s.pwr.holdP3 = false →
    (∀ k stage target g, s.lc.job = some (.row k stage target g) → 1 ≤ k → k ≤ 3 → stage < 3 → target < 8 →
      (stage < 2 →
        Gives (.fuseWriteComplete true) s fun t => t = { s with regs := t.regs, lc := t.lc } ∧ FieldsBut s t [Reg.LCS_STATUS_PHASE] ∧
          t.phase = stage + 3 ∧ t.lc.job = some (.row k (stage + 1) target g) ∧ t.lc.retried = false ∧
          t.lc.triple k = (s.lc.triple k).setRow stage (rowValue stage target) ∧
          (∀ j, j ≠ k → 1 ≤ j → j ≤ 3 → t.lc.triple j = s.lc.triple j) ∧ t.lc.st = s.lc.st) ∧
      (stage = 2 →
        Gives (.fuseWriteComplete true) s fun t => t.lc.job = none ∧ t.phase = 5 ∧ t.getF Reg.LCS_STATUS_PENDING_TARGET = target ∧
          t.lc.st = s.lc.st ∧ (t.lc.triple k).commit = allOnes ∧
          (decodeFuses (s.lc.triples.take (k - 1)) 0 = k - 1 → permitted (k - 1) target = true →
            (s.lc.triple k).intent = allOnes → (s.lc.triple k).target = targetCode target →
            (∀ j, k < j → j ≤ 3 → (s.lc.triple j).intent = 0) → t.lc.decoded = target)) ∧
      (s.lc.retried = false → Gives (.fuseWriteComplete false) s fun t => t = { s with lc := { s.lc with retried := true } }) ∧
      (s.lc.retried = true → g = none →
        Gives (.fuseWriteComplete false) s fun t => OnlyFields s { t with lc := s.lc, freeCtr := s.freeCtr } [Reg.LCS_STATUS_FUSE_FAIL] ∧
          t.getF Reg.LCS_STATUS_FUSE_FAIL = 1 ∧ t.lc.job = none ∧
          (decodeFuses (s.lc.triples.take (k - 1)) 0 = k - 1 → (stage = 0 ∨ (s.lc.triple k).intent ≠ 0) →
            (stage = 2 ∨ (s.lc.triple k).commit ≠ allOnes) → t.lc.decoded = 4))) ∧
    (∀ k h ok, s.lc.job = some (.signer k h) →
      Gives (.fuseWriteComplete ok) s fun t => t = { s with lc := { s.lc with job := none, signers := s.lc.signers.set k (some h) } }) ∧
    (∀ k g ok, s.lc.job = some (.revoke k g) →
      Gives (.fuseWriteComplete ok) s fun t => t = { s with lc := { s.lc with job := none, revoked := s.lc.revoked ||| 2 ^ k } }) ∧
    (s.getF Reg.LCS_STATUS_EOL_PENDING = 1 → s.lcPower = true → s.lc.job = none → s.phase = 0 → s.gorse.swale = none →
      s.getF Reg.PWR_STATUS_LC_LOW_PATH = 0 →
      Gives .eolPendingWrite s fun t => t.phase = 2 ∧ t.root = s.root ∧
        t.lc = { s.lc with check := none, retried := false, job := some (.row (s.lc.st + 1) 0 3 none) }) ∧
    (s.getF Reg.LCS_STATUS_EOL_PENDING = 0 → Gives .eolPendingWrite s fun t => t = s)

/-- Stile serves every access outside Test and Production; in Production without a token it serves three reads and counts every other
access as one to region 0; a locked region is refused and counted, in Gorse too. A scope opens its part. An access to a cell wakes its
clump and its meadow, and ends with an error in S3. A memory test runs where its mode is reachable; in Test every mode but the restoring
one waits for a Swale-W. A revocation or the token's end closes a scope (R66, R87, R88, R101, R102, R104). -/
def Obligations.StileServesOrLocks : Prop :=
  ∀ s : State, s.live = true →
    let free : Prop := s.lc.st = 0 ∨ s.lc.st = 3 ∨ s.lc.st = 4
    let locked (t : State) (r : Nat) : Prop :=
      t = { s with regs := t.regs, cairn := t.cairn, drv := { s.drv with timers := t.drv.timers },
                   lc := { s.lc with lockLast := t.lc.lockLast }, outbox := .stile false 0 :: s.outbox } ∧
      FieldsBut s t ([Reg.STL_LOCK_HITS_HITS, Reg.STL_LAST_LOCK_REGION, Reg.GOR_MON_STAT_TRIPS 23, Reg.GOR_ALARM_ALARM,
        Reg.GOR_COUNTS_NOTES] ++ logFields) ∧
      t.getF Reg.STL_LOCK_HITS_HITS = min (s.getF Reg.STL_LOCK_HITS_HITS + 1) 0xFFFFFFFF ∧ t.getF Reg.STL_LAST_LOCK_REGION = r ∧
      t.alarmed 23 = true
    let closed (t : State) : Prop :=
      t = { s with regs := t.regs, drv := { s.drv with timers := t.drv.timers } } ∧
      FieldsBut s t [Reg.STL_STATUS_AUTHORISED, Reg.STL_STATUS_OPEN, Reg.STL_STATUS_SCOPE, Reg.STL_EXPIRY_LO_TIME,
        Reg.STL_EXPIRY_HI_TIME] ∧
      t.getF Reg.STL_STATUS_AUTHORISED = 0 ∧ t.getF Reg.STL_STATUS_OPEN = (if s.lc.st = 2 then 0 else 1) ∧
      t.getF Reg.STL_STATUS_SCOPE = 0 ∧ t.getF Reg.STL_EXPIRY_LO_TIME = 0 ∧ t.getF Reg.STL_EXPIRY_HI_TIME = 0
    let cell (x : StileTarget) : Prop := ∃ c, x = .cell c
    (∀ x, free → ¬ cell x → Gives (.stileAccess x true) s fun t => t = { s with outbox := .stile true 0 :: s.outbox }) ∧
    (∀ c w, free ∨ s.lc.st = 1 ∨ (s.lc.st = 2 ∧ s.inScope (.cell c) w = true) →
      (s.sleepState (meadowOf c) = 4 →
        Gives (.stileAccess (.cell c) w) s fun t =>
          t = { s with regs := t.regs, outbox := .stile false 0 :: s.outbox } ∧ FieldsBut s t [Reg.PWR_S3_HITS_HITS] ∧
          t.getF Reg.PWR_S3_HITS_HITS = min (s.getF Reg.PWR_S3_HITS_HITS + 1) (2 ^ 32 - 1)) ∧
      (s.sleepState (meadowOf c) ≠ 4 →
        Gives (.stileAccess (.cell c) w) s fun t =>
          getC false t.pwr.s1 (clumpOf c) = false ∧ (∀ d, d ≠ clumpOf c → getC false t.pwr.s1 d = getC false s.pwr.s1 d) ∧
          t.sleepState (meadowOf c) = (if s.sleepState (meadowOf c) = 2 then 5 else s.sleepState (meadowOf c)) ∧
          FieldsBut s t [Reg.PWR_MDW_STAT_STATE (meadowOf c)] ∧
          ∃ v, t = { s with regs := t.regs, pwr := { s.pwr with s1 := t.pwr.s1 }, freeCtr := t.freeCtr, outbox := .stile true v :: s.outbox })) ∧
    (free ∨ s.lc.st = 1 ∨ s.lc.st = 2 →
      Gives (.stileAccess .identity false) s fun t =>
        t = { s with outbox := .stile true (leNat (fit 16 s.lc.uid)) :: s.outbox }) ∧
    (∀ x w, s.lc.st = 2 → s.getF Reg.STL_STATUS_AUTHORISED = 0 → stilePublic x w = false →
      Gives (.stileAccess x w) s fun t => locked t 0) ∧
    (∀ r w, r ≤ 5 → s.lc.st = 1 → Gives (.stileAccess (.region r) w) s fun t => locked t r) ∧
    (∀ x, s.lc.st = 2 → s.getF Reg.STL_STATUS_AUTHORISED = 1 → ¬ cell x → s.inScope x true = true →
      Gives (.stileAccess x true) s fun t => t = { s with outbox := .stile true 0 :: s.outbox }) ∧
    (∀ r w, free → r ≤ 5 → Gives (.stileAccess (.region r) w) s fun t =>
      ∃ v, t = { s with freeCtr := t.freeCtr, outbox := .stile true v :: s.outbox }) ∧
    (∀ f x, free ∨ (s.lc.st = 1 ∧ x ≠ .rootStore) ∨ (s.lc.st = 2 ∧ s.bistReach x = true) →
      Gives (.memoryTestEntry (.bist f) x) s fun t => t = { s with outbox := .memTest f :: s.outbox }) ∧
    (free →
      (∀ f x, Gives (.memoryTestEntry (.destructive f) x) s fun t => t.outbox = .memTest f :: s.outbox ∧ t.regs = s.regs ∧
        t.root = (if x = .rootStore then {} else s.root) ∧ (∀ e, x ≠ .dram e → t.engine e = s.engine e) ∧
        ∀ c, getC [] t.drv.oram c = if x = .sram c then [] else getC [] s.drv.oram c) ∧
      (∀ l w x, Gives (.memoryTestEntry (.direct l (some w)) x) s fun t => t.outbox = .stile true 0 :: s.outbox ∧ t.regs = s.regs ∧
        ∀ e, x ≠ .dram e → t.engine e = s.engine e) ∧
      (∀ l x, Gives (.memoryTestEntry (.direct l none) x) s fun t =>
        ∃ v, t = { s with freeCtr := t.freeCtr, outbox := .stile true v :: s.outbox } ∧
          ∀ e b, x = .dram e → (s.engine e).arrayLine e l = some b → v = leNat b) ∧
      (∀ r x, Gives (.memoryTestEntry (.repair r) x) s fun t =>
        t = { s with lc := { s.lc with repairs := (x, r) :: s.lc.repairs }, outbox := .stile true 0 :: s.outbox })) ∧
    (∀ m x, s.lc.st = 1 → x ≠ .rootStore → restores m = false →
      Gives (.memoryTestEntry m x) s fun t => t.lc.memTest = some (m, x) ∧
        (s.gorse.swale = none → t.gorse.swale = some ⟨1, 0xFF, 2⟩ ∧ t.getF Reg.GOR_STATUS_SWALE_BUSY = 1)) ∧
    (∀ m, s.lc.st = 1 → Gives (.memoryTestEntry m .rootStore) s fun t => locked t 2) ∧
    (∀ m x, s.lc.st = 2 → restores m = false ∨ s.bistReach x = false →
      Gives (.memoryTestEntry m x) s fun t => locked t (if s.getF Reg.STL_STATUS_AUTHORISED = 0 then 0 else memRegion x)) ∧
    (s.hif.perst = false → s.getF Reg.STL_STATUS_AUTHORISED = 1 → Gives .stlRevoke s closed) ∧
    (s.getF Reg.STL_EXPIRY_LO_TIME + 2 ^ 32 * s.getF Reg.STL_EXPIRY_HI_TIME ≤ s.cairn.opTime → s.getF Reg.STL_STATUS_AUTHORISED = 1 →
      Gives .stileExpiry s closed) ∧
    (s.cairn.opTime < s.getF Reg.STL_EXPIRY_LO_TIME + 2 ^ 32 * s.getF Reg.STL_EXPIRY_HI_TIME → Gives .stileExpiry s fun t => t = s)

/-- LC_TRANSITION, STILE_AUTHORISE and SIGNER_REVOKE in the sink of their graph: a tenant ends with `ACCESS_DENIED` and a wrong length
with `BAD_LENGTH`; a transition to End of Life commits at the beginning of its Swale-R, one to Production at its intent row with the
attestation public key as output; a token opens its scope; a revocation begins its fuse write (R92, R95, R96, R101, R103). -/
def Obligations.LifeCycleGraphCommands : Prop :=
  ∀ (s : State) (g n : Nat) (gr : Graph), NoKeys gr →
    let b := gr.inp
    (∀ c op, (c, op) ∈ [(Instr.lcTransition g, 0x0180), (.stileAuthorise g, 0x0181), (.signerRevoke g, 0x0182)] →
      AtSink s op g gr n → isSteward gr.qid = false → Ends c s g n gr St.accessDenied s) ∧
    (AtSink s 0x0180 g gr n → isSteward gr.qid = true → b.length ≠ 36 → Ends (.lcTransition g) s g n gr St.badLength s) ∧
    (AtSink s 0x0181 g gr n → isSteward gr.qid = true → b.length ≠ 7904 → Ends (.stileAuthorise g) s g n gr St.badLength s) ∧
    (AtSink s 0x0182 g gr n → isSteward gr.qid = true → b.length ≠ 4 → Ends (.signerRevoke g) s g n gr St.badLength s) ∧
    (AtSink s 0x0180 g gr n → isSteward gr.qid = true → b.length = 36 → byteAt b 0 = 3 → allZero (slice b 1 3) = true →
      s.lcPower = true → s.lcBusy = false → (s.lc.st = 1 ∨ s.lc.st = 2) → s.lc.check = none → s.entropyReady = true →
      s.lc.nonce ≠ [] → slice b 20 16 = fit 16 s.lc.nonce → slice b 4 16 = fit 16 s.lc.uid → s.gorse.swale = none →
      ∃ u, Commits (.lcTransition g) s g n gr [] u ∧ u.gorse.swale = some ⟨2, 0xFF, 3⟩ ∧ u.lc.check = some (3, some g) ∧
        u.phase = 1 ∧ u.root = {} ∧ u.lc.st = s.lc.st) ∧
    (∀ k, AtSink s 0x0180 g gr n → isSteward gr.qid = true → b.length = 36 → byteAt b 0 = 2 → allZero (slice b 1 3) = true →
      s.lc.st = 1 → s.lc.check = some (2, some g) → s.lc.attPending = some k → 32 ≤ gr.desc.outLen →
      s.getF Reg.PWR_STATUS_LC_LOW_PATH = 0 →
      ∃ u, Commits (.lcTransition g) s g n gr (attPublic k) u ∧ u.phase = 2 ∧ u.root = s.root ∧
        u.lc = { s.lc with check := none, retried := false, job := some (.row 2 0 2 (some g)) }) ∧
    (∀ pk, AtSink s 0x0181 g gr n → isSteward gr.qid = true → b.length = 7904 → tokenForm b = true →
      s.bale.content.stileKeys[byteAt b 7]? = some pk → s.getF Reg.STL_STATUS_AUTHORISED = 0 → s.entropyReady = true →
      s.lc.nonce ≠ [] → slice b 0x18 16 = fit 16 s.lc.nonce → slice b 8 16 = fit 16 s.lc.uid →
      verifyPure 0x50 pk [] (b.take 0x30) (b.drop 0x30) = true →
      ∃ u, Commits (.stileAuthorise g) s g n gr [] u ∧ u.getF Reg.STL_STATUS_OPEN = 1 ∧ u.getF Reg.STL_STATUS_AUTHORISED = 1 ∧
        u.getF Reg.STL_STATUS_SCOPE = byteAt b 6 ∧
        u.getF Reg.STL_EXPIRY_LO_TIME = (s.cairn.opTime + 60000 * leAt b 0x28 4) % 2 ^ 32 ∧ u.root = s.root) ∧
    (AtSink s 0x0182 g gr n → isSteward gr.qid = true → b.length = 4 → byteAt b 0 ≤ 3 → allZero (slice b 1 3) = true →
      s.lcPower = true → s.lcBusy = false → (s.lc.st = 1 ∨ s.lc.st = 2) → s.getF Reg.PWR_STATUS_LC_LOW_PATH = 0 →
      (s.liveSigners ≠ [byteAt b 0] →
        Commits (.signerRevoke g) s g n gr [] { s with lc := { s.lc with job := some (.revoke (byteAt b 0) (some g)) } }) ∧
      (s.liveSigners = [byteAt b 0] → Ends (.signerRevoke g) s g n gr St.badOperand s))

/-! ### Doorbells, fetch and the host's messages (spec/06) -/

/-- Nothing but the registers, the MSI-X pending bits, the messages sent and the recorder changes: what an event of HIF may touch. -/
def Claims.HifOnly (s t : State) : Prop :=
  t = { s with regs := t.regs, queues := t.queues, hif := { s.hif with msix := t.hif.msix }, outbox := t.outbox, cairn := t.cairn,
               drv := { s.drv with timers := t.drv.timers } }

/-- A tail or head write is judged as R115 gives: past N or passing the other end it is a queue error of its kind, which is reported in
the queue, in `HIF_EVENT` and in `HIF_QERR_INFO`; otherwise it moves. A page that does not serve discards and counts (R114 to R116,
R119). -/
def Obligations.DoorbellWritesAreJudged : Prop :=
  ∀ (s : State) (qid x : Nat), s.up →
    let q := s.queue qid
    let v := x % 4096
    let moved (t : State) (y : Queue) : Prop := t = { s with queues := t.queues } ∧ t.queue qid = y ∧ ∀ j, j ≠ qid → t.queue j = s.queue j
    let stray (t : State) : Prop := Claims.HifOnly s t ∧ t.queues = s.queues ∧
      FieldsBut s t [Reg.HIF_BAR2_STRAY_WRITES, Reg.HIF_EVENT_BAR2_STRAY] ∧ t.getF Reg.HIF_EVENT_BAR2_STRAY = 1 ∧
      t.getF Reg.HIF_BAR2_STRAY_WRITES = min (s.getF Reg.HIF_BAR2_STRAY_WRITES + 1) 0xFFFFFFFF
    let error (t : State) (kind : Nat) : Prop := Claims.HifOnly s t ∧ t.queue qid = { q with st := .error, errKind := kind } ∧
      (∀ j, j ≠ qid → t.queue j = s.queue j) ∧ t.getF Reg.HIF_EVENT_QUEUE_ERROR = 1 ∧ t.getF Reg.HIF_QERR_INFO_VALID = 1 ∧
      (s.getF Reg.HIF_QERR_INFO_VALID = 0 → t.getF Reg.HIF_QERR_INFO_KIND = kind ∧ t.getF Reg.HIF_QERR_INFO_QUEUE = qid % 8)
    (q.open = false → q.st ≠ .error →
      (Gives (.sqTailWrite qid x) s stray) ∧ (Gives (.cqHeadWrite qid x) s stray) ∧ Gives (.bar2StrayWrite qid x) s stray) ∧
    (q.st = .error → ∀ c ∈ [Instr.sqTailWrite qid x, .cqHeadWrite qid x, .bar2StrayWrite qid x], Gives c s fun t => t = s) ∧
    (q.open = true → Gives (.bar2StrayWrite qid x) s fun t => t = s) ∧
    (q.open = true → s.getF Reg.HIF_QERR_INFO_VALID ≤ 1 →
      (q.depth ≤ v → Gives (.sqTailWrite qid x) s fun t => error t 1) ∧
      (v < q.depth → (v + q.depth - q.sqHead % q.depth) % q.depth < (q.sqTail + q.depth - q.sqHead % q.depth) % q.depth →
        Gives (.sqTailWrite qid x) s fun t => error t 2) ∧
      (v < q.depth → (q.sqTail + q.depth - q.sqHead % q.depth) % q.depth ≤ (v + q.depth - q.sqHead % q.depth) % q.depth →
        Gives (.sqTailWrite qid x) s fun t => moved t { q with sqTail := v }) ∧
      ((q.depth ≤ v ∨ (q.cqTail + q.depth - q.cqHead % q.depth) % q.depth < (v + q.depth - q.cqHead % q.depth) % q.depth) →
        Gives (.cqHeadWrite qid x) s fun t => error t 3) ∧
      (v < q.depth → (v + q.depth - q.cqHead % q.depth) % q.depth ≤ (q.cqTail + q.depth - q.cqHead % q.depth) % q.depth →
        Gives (.cqHeadWrite qid x) s fun t => moved t { q with cqHead := v }))

/-- One visit of HIF goes to the allotment with fetchable work that is next in turn and to its queue next in turn, and fetches up to eight
descriptors, as far as the ring and the credit rule reach, in two reads where they cross the end of the ring. A descriptor that arrives is
refused where a check fails or its allotment quiesces; it waits in ring order where it passes, and a flagged one begins its exchange; a
failed read is a queue error (R116, R117, R119, R120, R127, R135, R205, R206). -/
def Obligations.FetchAndAdmission : Prop :=
  ∀ s : State, s.live = true →
    let turn (n p k : Nat) : Nat := (k + n - (p + 1) % n) % n
    ((∀ j, j < 16392 → s.fetchable j = false) → Gives .descriptorFetch s fun t => t = s) ∧
    ((∃ j, j < 16392 ∧ s.fetchable j = true) → ∃ qid, qid < 16392 ∧ s.fetchable qid = true ∧
      (∀ j, j < 16392 → s.fetchable j = true → turn 2049 s.hif.rrAllot (qid / 8) ≤ turn 2049 s.hif.rrAllot (j / 8) ∧
        (j / 8 = qid / 8 → turn 8 (getC 7 s.hif.rrQueue (qid / 8)) (qid % 8) ≤ turn 8 (getC 7 s.hif.rrQueue (qid / 8)) (j % 8))) ∧
      let q := s.queue qid
      let n := min 8 (min ((q.sqTail + q.depth - q.sqHead % q.depth) % q.depth) (q.depth - 1 - q.outstanding))
      let read (i m : Nat) : Out := .descRead qid (q.sqBase + 64 * i) (64 * m) (s.readAttr (allotOf qid))
      Gives .descriptorFetch s fun t =>
        t = { s with queues := t.queues, outbox := t.outbox, hif := { s.hif with rrAllot := qid / 8, rrQueue := t.hif.rrQueue } } ∧
        t.queue qid = { q with sqHead := (q.sqHead + n) % q.depth, inAir := q.inAir + n, fetched := q.fetched + n } ∧
        (∀ j, j ≠ qid → t.queue j = s.queue j) ∧ getC 7 t.hif.rrQueue (qid / 8) = qid % 8 ∧
        (s.hif.atsEn = false → 0 < n → q.sqHead < q.depth →
          (q.sqHead + n ≤ q.depth → t.outbox = read q.sqHead n :: s.outbox) ∧
          (q.depth < q.sqHead + n →
            t.outbox = read 0 (q.sqHead + n - q.depth) :: read q.sqHead (q.depth - q.sqHead) :: s.outbox))) ∧
    (∀ qid data input, (s.queue qid).inAir = 0 → Gives (.descriptorArrival qid data input) s fun t => t = s) ∧
    (∀ qid data input, 0 < (s.queue qid).inAir → ∀ base : State,
      let q := s.queue qid
      base = s.setQueue qid { q with inAir := q.inAir - 1 } →
      (data = none ∨ s.denies (allotOf qid) q.airAddr 64 = true → Gives (.descriptorArrival qid data input) s fun t =>
        (t.queue qid).st = .error ∧ (t.queue qid).errKind = 4 ∧ (t.queue qid).fetched = q.fetched - 1 ∧
          (∀ j, j ≠ qid → t.queue j = s.queue j) ∧ t.getF Reg.HIF_EVENT_QUEUE_ERROR = 1) ∧
      (∀ b, data = some b → s.denies (allotOf qid) q.airAddr 64 = false →
        let d := parseDesc (fit 64 b)
        let al := (s.allot (allotOf qid)).st
        ((al = .quiescing ∨ al = .pendingEnable) →
          Gives (.descriptorArrival qid data input) s fun t => t = base.refuse qid d.tag St.quiesced) ∧
        (al ≠ .quiescing → al ≠ .pendingEnable → s.ideDrops = true →
          Gives (.descriptorArrival qid data input) s fun t => t = base.refuse qid d.tag St.hostAccessFault) ∧
        (al ≠ .quiescing → al ≠ .pendingEnable → s.ideDrops = false →
          (s.chooseBank d.opcode d.template = none →
            Gives (.descriptorArrival qid data input) s fun t =>
              t = (base.post 0x4004 (allotOf qid) St.badDescriptor d.opcode).refuse qid d.tag St.badDescriptor) ∧
          (∀ e tpl, s.chooseBank d.opcode d.template = some (e, tpl) →
            (∀ x, s.admission qid d tpl = some x →
              Gives (.descriptorArrival qid data input) s fun t => t = (base.post 0x4004 (allotOf qid) x d.opcode).refuse qid d.tag x) ∧
            (s.admission qid d tpl = none → tpl.quorum = none →
              Gives (.descriptorArrival qid data input) s fun t => t = { s with queues := t.queues } ∧
                t.queue qid = { q with inAir := q.inAir - 1, waiting := q.waiting ++ [⟨d, tpl, [], none⟩] } ∧
                ∀ j, j ≠ qid → t.queue j = s.queue j) ∧
            (∀ r : State, s.admission qid d tpl = none → tpl.quorum ≠ none → r = base.readInput qid d.inAddr d.inLen →
              (d.inLen ≠ 0 → (input = none ∨ s.denies (allotOf qid) d.inAddr d.inLen = true) →
                Gives (.descriptorArrival qid data input) s fun t => t = r.refuse qid d.tag St.hostAccessFault) ∧
              (∀ b, d.inLen ≠ 0 → input = some b → s.denies (allotOf qid) d.inAddr d.inLen = false → b.length ≠ d.inLen →
                Gives (.descriptorArrival qid data input) s fun t => t = r.refuse qid d.tag St.lengthMismatch) ∧
              (∀ b, ((d.inLen = 0 ∧ b = []) ∨ (d.inLen ≠ 0 ∧ input = some b ∧ s.denies (allotOf qid) d.inAddr d.inLen = false)) →
                b.length = d.inLen →
                (s.getF Reg.BAR_STATUS_ROOT_OPEN = 0 ∨ q.parked = true →
                  Gives (.descriptorArrival qid data input) s fun t =>
                    t = { s with queues := t.queues, outbox := r.outbox } ∧
                    t.queue qid = { q with inAir := q.inAir - 1, waiting := q.waiting ++ [⟨d, tpl, b, none⟩] }) ∧
                (s.getF Reg.BAR_STATUS_ROOT_OPEN ≠ 0 → q.parked = false →
                  Gives (.descriptorArrival qid data input) s fun t => t = r.quorumExchange qid false d tpl b)))))))

/-! ### SPDM, IDE and MCTP (spec/06) -/

/-- GET_VERSION and GET_CAPABILITIES are always answered; every other request is answered Busy until the responder is ready, and out of turn it
is unexpected. Negotiation picks the algorithms; digests, certificates, the challenge and measurement blocks are what R123 and R124 give, a
response larger than a transfer being kept for CHUNK_GET; an unsupported request gets UnsupportedRequest (R122 to R125). -/
def Obligations.SpdmEvidence : Prop :=
  ∀ (s : State) (mctp : Bool) (req : Bytes), s.live = true →
    let said (t : State) (code : Nat) (body : Bytes) : Prop := t.outbox = .spdm mctp code body :: s.outbox
    let sent (t : State) (code : Nat) (body : Bytes) : Prop :=
      (body.length ≤ 4096 → said t code body) ∧ (4096 < body.length → t.hif.spdm.large = body ∧ said t 0x7F [0x0F])
    let kept (t : State) : Prop := t = { s with regs := t.regs, hif := { s.hif with spdm := t.hif.spdm }, outbox := t.outbox,
                                                freeCtr := t.freeCtr }
    let blk (i : Nat) : Bytes := le 1 i ++ le 2 (s.measurement i).length ++ s.measurement i
    (s.pathOpen mctp = false → ∀ c ∈ [Instr.spdmGetVersion mctp req, .spdmGetCapabilities mctp req 2, .spdmGetDigests mctp req,
        .spdmUnsupportedRequest mctp req], Gives c s fun t => t = s) ∧
    (s.pathOpen mctp = true →
      (Gives (.spdmGetVersion mctp req) s fun t => kept t ∧ t.regs = s.regs ∧ said t 0x04 [0x00, 0x12, 0x00, 0x13] ∧
        t.hif.spdm.caps = false ∧ t.hif.spdm.algs = false ∧ t.hif.spdm.transcript = req) ∧
      (∀ minor, minor = 2 ∨ minor = 3 →
        Gives (.spdmGetCapabilities mctp req minor) s fun t => kept t ∧ said t 0x61 (le 4 4096 ++ le 4 65536) ∧ t.hif.spdm.caps = true ∧
          FieldsBut s t [Reg.HIF_SPDM_STATUS_VERSION] ∧ t.getF Reg.HIF_SPDM_STATUS_VERSION = minor - 1) ∧
      (∀ minor, minor ≠ 2 → minor ≠ 3 →
        Gives (.spdmGetCapabilities mctp req minor) s fun t => t = { s with outbox := .spdm mctp 0x7F [0x41] :: s.outbox }) ∧
      (s.spdmReady = false → ∀ a b h m d e i x k, ∀ c ∈ [Instr.spdmGetDigests mctp req, .spdmGetCertificate mctp req i k x,
          .spdmChallenge mctp req i, .spdmGetMeasurements mctp req i a, .spdmNegotiateAlgorithms mctp req a b h m d e,
          .spdmUnsupportedRequest mctp req],
        Gives c s fun t => t = { s with outbox := .spdm mctp 0x7F [0x03] :: s.outbox }) ∧
      (s.spdmReady = true →
        (Gives (.spdmUnsupportedRequest mctp req) s fun t => kept t ∧ t.regs = s.regs ∧ said t 0x7F [0x07]) ∧
        (∀ ext base hash meas dhe aead,
          (s.hif.spdm.caps = false →
            Gives (.spdmNegotiateAlgorithms mctp req ext base hash meas dhe aead) s fun t => kept t ∧ t.regs = s.regs ∧ said t 0x7F [0x04]) ∧
          (s.hif.spdm.caps = true → (ext = true ∨ base = true) ∧ hash = true ∧ meas = true →
            Gives (.spdmNegotiateAlgorithms mctp req ext base hash meas dhe aead) s fun t => kept t ∧ t.hif.spdm.algs = true ∧
              t.hif.spdm.dhe = dhe ∧ t.hif.spdm.aead = aead ∧ FieldsBut s t [Reg.HIF_SPDM_STATUS_EXT_ASYM] ∧
              t.getF Reg.HIF_SPDM_STATUS_EXT_ASYM = (if ext then 1 else 0)) ∧
          (s.hif.spdm.caps = true → ¬ ((ext = true ∨ base = true) ∧ hash = true ∧ meas = true) →
            Gives (.spdmNegotiateAlgorithms mctp req ext base hash meas dhe aead) s fun t => kept t ∧ t.regs = s.regs ∧ said t 0x7F [0x01])) ∧
        (s.hif.spdm.algs = false → ∀ a i x k, ∀ c ∈ [Instr.spdmGetDigests mctp req, .spdmGetCertificate mctp req i k x,
            .spdmChallenge mctp req i, .spdmGetMeasurements mctp req i a],
          Gives c s fun t => kept t ∧ t.regs = s.regs ∧ said t 0x7F [0x04]) ∧
        (s.hif.spdm.algs = true →
          (Gives (.spdmGetDigests mctp req) s fun t => kept t ∧ t.regs = s.regs ∧
            said t 0x01 ([0x03] ++ sha384 s.cert0 ++ sha384 (s.cert0 ++ s.cert1))) ∧
          (∀ slot off len, slot < 2 → off ≤ (s.certChain slot).length →
            Gives (.spdmGetCertificate mctp req slot off len) s fun t => kept t ∧ t.regs = s.regs ∧ ∃ body, sent t 0x02 body ∧
              body.drop 9 = slice (s.certChain slot) off len) ∧
          (∀ slot off len, 2 ≤ slot ∨ (s.certChain slot).length < off →
            Gives (.spdmGetCertificate mctp req slot off len) s fun t => kept t ∧ t.regs = s.regs ∧ said t 0x7F [0x01]) ∧
          (∀ slot, slot = s.signSlot →
            Gives (.spdmChallenge mctp req slot) s fun t => kept t ∧ t.regs = s.regs ∧ ∃ body, sent t 0x03 body ∧
              slice body 1 48 = sha384 (s.certChain slot) ∧ slice body 81 48 = sha384 ((List.range 14).flatMap (fun i => s.measurement (i + 1)))) ∧
          (∀ slot, slot ≠ s.signSlot → Gives (.spdmChallenge mctp req slot) s fun t => kept t ∧ said t 0x7F [0x01]) ∧
          (Gives (.spdmGetMeasurements mctp req 0 false) s fun t => kept t ∧ t.regs = s.regs ∧ said t 0x60 [14]) ∧
          (∀ i, 1 ≤ i → i ≤ 14 →
            Gives (.spdmGetMeasurements mctp req i false) s fun t => kept t ∧ t.regs = s.regs ∧ said t 0x60 (blk i)) ∧
          (Gives (.spdmGetMeasurements mctp req 255 false) s fun t => kept t ∧ t.regs = s.regs ∧
            sent t 0x60 ((List.range 14).flatMap (fun i => blk (i + 1)))) ∧
          (∀ i, 1 ≤ i → i ≤ 14 →
            Gives (.spdmGetMeasurements mctp req i true) s fun t => kept t ∧ t.regs = s.regs ∧ ∃ g, sent t 0x60 (blk i ++ g)) ∧
          (∀ i signed, 14 < i → i ≠ 255 →
            Gives (.spdmGetMeasurements mctp req i signed) s fun t => kept t ∧ said t 0x7F [0x01]))))

/-- At most four sessions are open; one opens at KEY_EXCHANGE, is established at FINISH and closed at END_SESSION; what goes inside one is
protected by AES-256-GCM, and a request that does not open is refused. Chunks are gathered and served. IDE_KM places a key in a slot, a set
that goes makes its sub-stream run, a stopped set is cleared, and a failed integrity check makes a stream Insecure (R122, R125 to R127). -/
def Obligations.SpdmSessionsAndIdeStreams : Prop :=
  ∀ (s : State) (mctp : Bool) (req : Bytes), s.live = true →
    let ss := s.hif.spdm.sessions
    let negotiated (m : Bool) : Prop := s.pathOpen m = true ∧ s.spdmReady = true ∧ s.hif.spdm.algs = true
    let said (t : State) (m : Bool) (code : Nat) (body : Bytes) : Prop := t.outbox = .spdm m code body :: s.outbox
    let sealed (m : Bool) (x : Session) (b : Bytes) : Out :=
      .secured m x.id (gcmSeal (x.key 1) (le 12 x.seqOut) (le 4 x.id ++ le 8 x.seqOut) b)
    let kept (t : State) : Prop := t = { s with regs := t.regs, hif := { s.hif with spdm := t.hif.spdm }, outbox := t.outbox,
                                                freeCtr := t.freeCtr } ∧ FieldsBut s t [Reg.HIF_SPDM_STATUS_SESSIONS]
    let sessions (t : State) (sid : Nat) (f : Session → Session) : Prop :=
      t.hif.spdm.sessions = ss.map (fun y => if y.id = sid then f y else y)
    (negotiated mctp → ∀ slot peer,
      ((s.hif.spdm.dhe = false ∨ s.hif.spdm.aead = false) →
        Gives (.spdmKeyExchange mctp req slot peer) s fun t => kept t ∧ said t mctp 0x7F [0x04] ∧ t.hif.spdm.sessions = ss) ∧
      (s.hif.spdm.dhe = true → s.hif.spdm.aead = true →
        (4 ≤ ss.length → Gives (.spdmKeyExchange mctp req slot peer) s fun t => kept t ∧ said t mctp 0x7F [0x0A] ∧ t.hif.spdm.sessions = ss) ∧
        (ss.length < 4 → (slot ≠ s.signSlot ∨ peer.length ≠ 96) →
          Gives (.spdmKeyExchange mctp req slot peer) s fun t => kept t ∧ said t mctp 0x7F [0x01] ∧ t.hif.spdm.sessions = ss) ∧
        (ss.length < 4 → slot = s.signSlot → peer.length = 96 →
          Gives (.spdmKeyExchange mctp req slot peer) s fun t => kept t ∧ t.getF Reg.HIF_SPDM_STATUS_SESSIONS = ss.length + 1 ∧
            t.hif.spdm.nextId = s.hif.spdm.nextId + 1 ∧
            ∃ x, t.hif.spdm.sessions = ss ++ [x] ∧ x.id = s.hif.spdm.nextId ∧ x.established = false))) ∧
    (negotiated mctp → ∀ sid x, s.session sid = some x →
      (x.established = false →
        (x.unseal req ≠ none →
          (Gives (.spdmFinish mctp req sid true) s fun t => kept t ∧ t.outbox = sealed mctp x (le 1 0x65) :: s.outbox ∧
            sessions t sid fun y => { y with established := true, seqIn := 0, seqOut := 0 }) ∧
          Gives (.spdmFinish mctp req sid false) s fun t => kept t ∧ said t mctp 0x7F [0x01] ∧
            t.hif.spdm.sessions = ss.filter (fun y => y.id != sid)) ∧
        (∀ c ∈ [Instr.spdmHeartbeat mctp req sid, .spdmKeyUpdate mctp req sid, .spdmEndSession mctp req sid],
          Gives c s fun t => kept t ∧ said t mctp 0x7F [0x04] ∧ t.hif.spdm.sessions = ss)) ∧
      (x.established = true → x.unseal req ≠ none →
        (Gives (.spdmHeartbeat mctp req sid) s fun t => kept t ∧ t.outbox = sealed mctp x (le 1 0x68) :: s.outbox ∧
          sessions t sid fun y => { y with seqIn := y.seqIn + 1, seqOut := y.seqOut + 1 }) ∧
        (Gives (.spdmKeyUpdate mctp req sid) s fun t => kept t ∧ t.outbox = sealed mctp x (le 1 0x69) :: s.outbox ∧
          sessions t sid fun y => { y with keyGen := y.keyGen + 1, seqIn := 0, seqOut := 0 }) ∧
        Gives (.spdmEndSession mctp req sid) s fun t => kept t ∧ t.outbox = sealed mctp x (le 1 0x6C) :: s.outbox ∧
          t.hif.spdm.sessions = ss.filter (fun y => y.id != sid)) ∧
      (x.established = true → x.unseal req = none →
        ∀ c ∈ [Instr.spdmHeartbeat mctp req sid, .spdmKeyUpdate mctp req sid, .spdmEndSession mctp req sid],
          Gives c s fun t => kept t ∧ said t mctp 0x7F [0x06] ∧ t.hif.spdm.sessions = ss)) ∧
    (negotiated mctp → ∀ data last,
      let b := s.hif.spdm.chunkIn ++ data
      ((4096 < data.length ∨ 65536 < b.length) →
        Gives (.spdmChunkSend mctp last data) s fun t => kept t ∧ said t mctp 0x7F [0x01] ∧ t.hif.spdm.chunkIn = []) ∧
      (data.length ≤ 4096 → b.length ≤ 65536 →
        (Gives (.spdmChunkSend mctp false data) s fun t => kept t ∧ said t mctp 0x05 (le 4 b.length) ∧ t.hif.spdm.chunkIn = b) ∧
        (byteAt b 1 = 0x81 →
          Gives (.spdmChunkSend mctp true data) s fun t => kept t ∧ t.hif.spdm.chunkIn = [] ∧
            t.outbox = .spdm mctp 0x01 ([0x03] ++ sha384 s.cert0 ++ sha384 (s.cert0 ++ s.cert1)) ::
              .spdm mctp 0x05 (le 4 b.length) :: s.outbox))) ∧
    (negotiated mctp → ∀ k,
      (4096 * k < s.hif.spdm.large.length →
        Gives (.spdmChunkGet mctp k) s fun t => kept t ∧ said t mctp 0x06 (slice s.hif.spdm.large (4096 * k) 4096)) ∧
      (s.hif.spdm.large.length ≤ 4096 * k → Gives (.spdmChunkGet mctp k) s fun t => kept t ∧ said t mctp 0x7F [0x01])) ∧
    (negotiated false → ∀ sid x b stream sub kset, s.session sid = some x → x.established = true → x.unseal req = some b →
      (Gives (.ideKmQuery req sid) s fun t => kept t ∧ ∃ body, body.length = 27 ∧ t.outbox = sealed false x (le 1 0x7E ++ body) :: s.outbox) ∧
      (stream < 9 → sub < 3 → kset < 2 →
        let u := (s.ide stream).subAt sub
        let whole : Prop := (s.ide stream).sub.length = 3
        let others (t : State) : Prop := ∀ j, j ≠ stream → t.ide j = s.ide j
        let took : State := s.mapSession sid (fun y => { y with seqIn := y.seqIn + 1 })
        (∀ r : State, r = ((u.key kset).map took.freeKey).getD took → ∀ o (v : State),
          r.makeKey stewardQ 0x0A 0x50 r.ideAttr (fit 32 b) [] .none = (o, v) →
          Gives (.ideKmKeyProg req sid stream sub kset) s fun t =>
            (whole → ((t.ide stream).subAt sub).key kset = o.map (fun h => (Handle.ofNat h).slot)) ∧ t.bar = v.bar ∧ others t ∧
            t.outbox = sealed false x (le 1 0x7E ++ [if o.isSome then 0x00 else 0x01]) :: v.outbox) ∧
        (∀ k, u.key kset = some k →
          (Gives (.ideKmKSetGo req sid stream sub kset) s fun t =>
            (whole → ((t.ide stream).subAt sub).cur = kset ∧ ((t.ide stream).subAt sub).go = true ∧
              ((t.ide stream).secure = true ↔ ∀ j, j < 3 → j ≠ sub → ((s.ide stream).subAt j).go = true)) ∧
            others t ∧ t.bar = s.bar ∧ t.outbox = sealed false x (le 1 0x7E) :: s.outbox) ∧
          Gives (.ideKmKSetStop req sid stream sub kset) s fun t => (whole → ((t.ide stream).subAt sub).key kset = none) ∧
            (t.kslot k).st = .free ∧ others t) ∧
        (u.key kset = none →
          (Gives (.ideKmKSetGo req sid stream sub kset) s fun t => kept t ∧ said t false 0x7F [0x01]) ∧
          Gives (.ideKmKSetStop req sid stream sub kset) s fun t => others t ∧ t.bar = s.bar ∧
            t.outbox = sealed false x (le 1 0x7E) :: s.outbox))) ∧
    (∀ stream,
      ((s.ide stream).secure = false → Gives (.ideIntegrityFailure stream) s fun t => t = s) ∧
      ((s.ide stream).secure = true →
        Gives (.ideIntegrityFailure stream) s fun t => (t.ide stream).secure = false ∧ (t.ide stream).insecure = true ∧
          t.getF Reg.HIF_EVENT_IDE_INSECURE = 1 ∧
          t.getF Reg.HIF_IDE_STATUS_FAILS = min (s.getF Reg.HIF_IDE_STATUS_FAILS + 1) 255 ∧
          ((s.ide stream).carriesDma = true →
            t.getF Reg.HIF_STATUS_IDE_INSECURE = 1 ∧ (∀ g, t.graph g = none) ∧ ∀ qid, (t.queue qid).waiting = [])))

/-- The MCTP control messages and Get Health and Get Inputs are answered while the port is enabled; `SMB_ALERT_N` is released by the Alert
Response Address and driven again 1 s later; a link change sets `HIF_LINK`; an ATS invalidation is answered; an unmasked or coalesced
vector sends its message once, and a masked one stays pending (R105, R108, R121, R128 to R130, R139). -/
def Obligations.SideMessagesAndVectors : Prop :=
  ∀ s : State, s.live = true →
    let sent (o : Out) (t : State) : Prop := t = { s with outbox := o :: s.outbox }
    (s.getF Reg.HIF_SMB_ENABLE = 1 →
      (∀ eid, Gives (.mctpSetEndpointId eid) s fun t => t.hif = { s.hif with eid := eid % 256 } ∧
        t = { s with hif := t.hif, outbox := .mctp 0x01 (le 1 eid) :: s.outbox }) ∧
      (Gives .mctpGetEndpointId s (sent (.mctp 0x02 (le 1 s.hif.eid)))) ∧
      (Gives .mctpGetVersionSupport s fun t => ∃ b : Bytes, b.length = 4 ∧
        t = { s with freeCtr := s.freeCtr + 4, outbox := .mctp 0x04 b :: s.outbox }) ∧
      (Gives .mctpGetMessageTypeSupport s (sent (.mctp 0x05 [0x05, 0x7E]))) ∧
      (Gives .getHealth s (sent (.mctp 0x7E (le 4 (s.readReg 0x10) ++ le 4 (s.readReg 0xF00000) ++ le 4 (s.readReg 0x1000000) ++
        le 4 (s.readReg 0x208) ++ le 4 (s.readReg 0xD00004))))) ∧
      (Gives .getInputs s (sent (.mctp 0x7E (le 4 (s.readReg 0xF00004) ++ le 4 (s.readReg 0xF00008))))) ∧
      (s.pins.smbAlertLow = false → Gives .smbAlertResponse s fun t => t = s) ∧
      (s.pins.smbAlertLow = true →
        Gives .smbAlertResponse s fun t => t.pins = { s.pins with smbAlertLow := false } ∧ t.hif.alertAt = s.drv.tick ∧ t.regs = s.regs ∧
          t.outbox = .mctp 0x0C (le 1 (s.getF Reg.HIF_SMB_ADDR)) :: s.outbox)) ∧
    (s.getF Reg.HIF_SMB_ENABLE = 0 → Gives .getHealth s fun t => t = s) ∧
    (s.hif.alertMuted = true → s.hif.alertAt + 1000000 ≤ s.drv.tick →
      Gives .smbAlertReassert s fun t =>
        t = { s with pins := { s.pins with smbAlertLow := s.pins.alarmLow || s.isSet Reg.HIF_STATUS_RESTART_ADVISED },
                     hif := { s.hif with alertMuted := false } }) ∧
    (s.hif.alertMuted = false ∨ s.drv.tick < s.hif.alertAt + 1000000 → Gives .smbAlertReassert s fun t => t = s) ∧
    (∀ speed width flit, speed ≤ 6 → width ∈ [0, 4, 8, 16] → s.hif.perst = false →
      Gives (.linkChange speed width flit) s fun t => Claims.HifOnly s t ∧ t.queues = s.queues ∧ t.getF Reg.HIF_LINK_SPEED = speed ∧
        t.getF Reg.HIF_LINK_WIDTH = width ∧ t.getF Reg.HIF_LINK_FLIT = (if flit then 1 else 0) ∧
        t.getF Reg.HIF_LINK_RETRAINS = min (s.getF Reg.HIF_LINK_RETRAINS + 1) 65535 ∧
        (t.getF Reg.HIF_STATUS_LINK_DEGRADED = 1 ↔ speed ≠ 0 ∧ (speed < 4 ∨ width ≠ 16)) ∧ t.getF Reg.HIF_EVENT_LINK_CHANGE = 1) ∧
    (∀ tag pasid page count deny,
      (s.hif.endpoint = true → s.hif.perst = false → Gives (.atsInvalidation tag pasid page count deny) s fun t =>
        t = { s with hif := { s.hif with atsDenied := t.hif.atsDenied }, outbox := .atsDone tag :: s.outbox } ∧
        ∀ x p, t.hif.atsDenied.contains (x, p) =
          (if x = pasid ∧ page ≤ p ∧ p < page + count then deny else s.hif.atsDenied.contains (x, p))) ∧
      (s.hif.endpoint = false ∨ s.hif.perst = true → Gives (.atsInvalidation tag pasid page count deny) s fun t => t = s)) ∧
    (∀ v, v < 8192 → s.hif.perst = false →
      let open_ : Bool := s.hif.msixEn && !s.hif.msixMask
      let e := getC {} s.hif.msix v
      Gives (.msixUnmask v) s fun t => getC {} t.hif.msix v = { e with masked := false, pending := e.pending && !open_ } ∧
        (∀ w, w ≠ v → getC {} t.hif.msix w = getC {} s.hif.msix w) ∧
        t.outbox = (if e.pending && open_ then .msix v :: s.outbox else s.outbox) ∧
        t = { s with hif := { s.hif with msix := t.hif.msix }, outbox := t.outbox }) ∧
    (s.hif.perst = false →
      Gives (.msixUnmask 8192) s fun t => t.hif.msixMask = false ∧
        t = { s with hif := { s.hif with msix := t.hif.msix, msixMask := false }, outbox := t.outbox } ∧
        ∀ v, let e := getC {} s.hif.msix v
          getC {} t.hif.msix v = { e with pending := e.pending && (e.masked || !s.hif.msixEn) }) ∧
    (∀ qid, let q := s.queue qid
      (q.coalUs ≠ 0 → q.unsig ≠ 0 → q.vector ≠ 0 → q.unsigAt + q.coalUs ≤ s.drv.tick →
        Gives (.coalesceTimerExpire qid) s fun t => t.queue qid = { q with unsig := 0 } ∧ (∀ j, j ≠ qid → t.queue j = s.queue j) ∧
          t = { s with queues := t.queues, hif := { s.hif with msix := t.hif.msix }, outbox := t.outbox } ∧
          (s.hif.msixEn = true → s.hif.msixMask = false → (getC {} s.hif.msix q.vector).masked = false →
            t.hif = s.hif ∧ t.outbox = .msix q.vector :: s.outbox) ∧
          (s.hif.msixEn = false ∨ s.hif.msixMask = true ∨ (getC {} s.hif.msix q.vector).masked = true →
            (getC {} t.hif.msix q.vector).pending = true ∧ t.outbox = s.outbox)) ∧
      (s.drv.tick < q.unsigAt + q.coalUs ∨ q.unsig = 0 → Gives (.coalesceTimerExpire qid) s fun t => t = s))

/-! ### Allotments (spec/07) -/

/-- The result registers of the allotment commands. -/
def Claims.altFields : List Fld := [Reg.ALT_RESULT_STATUS, Reg.ALT_RESULT_IN_PROGRESS]

/-- A command that ends at once with a result and changes nothing else. -/
def Claims.AltResult (s t : State) (x : Nat) : Prop :=
  t = { s with regs := t.regs, hif := { s.hif with altBusy := none } } ∧ FieldsBut s t Claims.altFields ∧
    t.getF Reg.ALT_RESULT_STATUS = x ∧ t.getF Reg.ALT_RESULT_IN_PROGRESS = 0

/-- A refused write: its status is reported, and nothing else changes. -/
def Claims.AltRefused (s t : State) (x : Nat) : Prop := OnlyFields s t [Reg.ALT_RESULT_STATUS] ∧ t.getF Reg.ALT_RESULT_STATUS = x

/-- The allotment commands by the state of the selected allotment: CREATE, QUIESCE, RESUME, RESET and REMOVE move it as R132 gives and
are refused in the other states; a configuration write is taken in FREE and QUIESCED alone; the fence, the end of a reset and the end
of an invalidation complete them. The steward selection takes no command (R131 to R136, R143, R144, R147, R152). -/
def Obligations.AllotmentCommandsByState : Prop :=
  (∀ s : State, s.shown → s.altSel = 2048 →
    (∀ c ∈ [Instr.altCreate, .altQuiesce, .altResume, .altReset, .altRemove], Gives c s fun t => Claims.AltResult s t 0x0B02) ∧
    (∀ val, Gives (.altConfigWrite 0x10 val) s fun t => t = { s with allots := t.allots } ∧
      t.allot 2048 = { s.allot 2048 with pasid := val % 2 ^ 20, pasidEn := bit val 31 } ∧ ∀ b, b ≠ 2048 → t.allot b = s.allot b)) ∧
  (∀ (s : State) (a : Nat), a < 2048 → s.shown → s.altSel = a →
    let x := s.allot a
    let ends (t : State) (st : ASt) : Prop := (t.allot a).st = st ∧ (∀ b, b ≠ a → t.allot b = s.allot b) ∧ t.root = s.root
    let freed : Prop := ∀ k, k < 8 → (s.queue (8 * a + k)).st = .disabled
    let strips : Prop := x.st = .quiesced ∨ (x.st = .active ∧ freed)
    let stripped (t : State) : Prop := (t.allot a).log.en = false ∧ (t.allot a).t2sFull = false ∧ (t.allot a).s2tFull = false ∧
      t.getF Reg.ALT_RESULT_IN_PROGRESS = 1 ∧
      ∀ k, k < 8 → (t.queue (8 * a + k)).st = .disabled ∧ (t.queue (8 * a + k)).sqHead = 0 ∧ (t.queue (8 * a + k)).phase = true
    let refused (c : Instr) (y : Nat) : Prop := Gives c s fun t => Claims.AltResult s t y
    (x.st = .free → s.pasidFree a x.pasid = true →
      Gives .altCreate s fun t => ends t .active ∧ t.getF Reg.ALT_RESULT_STATUS = 0 ∧ t.getF Reg.ALT_RESULT_IN_PROGRESS = 0 ∧
        (t.allot a).t2sFull = false ∧ (t.allot a).s2tFull = false ∧ (t.allot a).log.en = false ∧ (t.allot a).pasid = x.pasid ∧
        (t.allot a).quota = x.quota ∧ t.queues = s.queues) ∧
    (x.st = .free → s.pasidFree a x.pasid = false → refused .altCreate 0x0104) ∧
    (x.st = .removing → refused .altCreate 0x0B01) ∧
    (x.st ≠ .free → x.st ≠ .removing → refused .altCreate 0x0B02) ∧
    (x.st = .active → Gives .altQuiesce s fun t => (t.allot a).st = .quiescing ∧ t.getF Reg.ALT_RESULT_IN_PROGRESS = 1 ∧
      t.hif.altBusy = some a ∧ (∀ k, k < 8 → (t.queue (8 * a + k)).waiting = []) ∧ t.root = s.root) ∧
    (x.st = .pendingEnable → Gives .altQuiesce s fun t => ends t .quiescing ∧ t.getF Reg.ALT_RESULT_IN_PROGRESS = 1 ∧ t.queues = s.queues) ∧
    ((x.st = .quiescing ∨ x.st = .quiesced) → refused .altQuiesce 0) ∧
    ((x.st = .free ∨ x.st = .resetting ∨ x.st = .removing) → refused .altQuiesce 0x0B02) ∧
    ((x.st = .quiescing ∨ x.st = .pendingEnable) → s.inFlight a = 0 → (∀ k, k < 8 → (s.queue (8 * a + k)).waiting = []) →
      (∀ k, k < 8 → (s.queue (8 * a + k)).inAir = 0) → x.log.held = [] →
      x.log.cache.length ≤ x.log.depth - 1 - ringDist x.log.depth x.log.head x.log.tail →
      Gives (.quiesceFence a) s fun t => ends t (if x.st = .quiescing then .quiesced else .active) ∧ (t.allot a).log.cache = [] ∧
        (s.hif.altBusy = some a → t.getF Reg.ALT_RESULT_STATUS = 0 ∧ t.getF Reg.ALT_RESULT_IN_PROGRESS = 0)) ∧
    (s.inFlight a ≠ 0 ∨ (x.st ≠ .quiescing ∧ x.st ≠ .pendingEnable) → Gives (.quiesceFence a) s fun t => t = s) ∧
    (x.st = .quiesced → Gives .altResume s fun t => ends t .active ∧ t.getF Reg.ALT_RESULT_STATUS = 0 ∧ t.queues = s.queues) ∧
    (x.st = .quiescing → Gives .altResume s fun t => ends t .pendingEnable ∧ t.getF Reg.ALT_RESULT_IN_PROGRESS = 1) ∧
    ((x.st = .active ∨ x.st = .pendingEnable) → refused .altResume 0) ∧
    ((x.st = .free ∨ x.st = .removing) → refused .altResume 0x0B02) ∧
    (x.st = .resetting → refused .altResume 0x0B01) ∧
    (strips → Gives .altReset s fun t => (t.allot a).st = .resetting ∧ t.root = s.root ∧ stripped t) ∧
    (x.st = .free → refused .altReset 0x0B02 ∧ refused .altRemove 0x0B02) ∧
    (x.st = .active → ¬ freed → refused .altReset 0x0B01 ∧ refused .altRemove 0x0B01) ∧
    ((x.st = .quiescing ∨ x.st = .pendingEnable ∨ x.st = .resetting) → refused .altReset 0x0B01 ∧ refused .altRemove 0x0B01) ∧
    (x.st = .removing → refused .altReset 0x0B01 ∧ refused .altRemove 0) ∧
    (x.st = .resetting → Gives (.altResetComplete a) s fun t => ends t .active ∧
      (s.hif.altBusy = some a → t.getF Reg.ALT_RESULT_STATUS = 0 ∧ t.getF Reg.ALT_RESULT_IN_PROGRESS = 0)) ∧
    (strips → Gives .altRemove s fun t => (t.allot a).st = .removing ∧ t.getF Reg.BAR_STATUS_INVALIDATING = 1 ∧ stripped t ∧
      (t.master a).gen = ((s.master a).gen + 1) % 65536 ∧ (∀ e, e ≠ a → t.master e = s.master e) ∧
      t.bar.inval = s.bar.inval ++ [{ root := .master a, removing := some a }]) ∧
    (x.st = .removing → (∀ i ∈ s.bar.inval, i.removing ≠ some a) →
      Gives (.altRemoveComplete a) s fun t => (t.allot a).st = .free ∧ (t.allot a).pasid = 0 ∧ (t.master a).present = false ∧
        (t.master a).gen = (s.master a).gen ∧ ∀ e, e ≠ a → t.master e = s.master e) ∧
    (∀ val, x.st = .quiesced ∨ x.st = .free →
      (val % 8192 ≤ 4096 → Gives (.altConfigWrite 0x14 val) s fun t => t = { s with allots := t.allots } ∧
        t.allot a = { x with quota := val % 8192 } ∧ ∀ b, b ≠ a → t.allot b = s.allot b) ∧
      (4096 < val % 8192 → Gives (.altConfigWrite 0x14 val) s fun t => Claims.AltRefused s t 0x0104) ∧
      (x.st = .free ∨ s.pasidFree a (val % 2 ^ 20) = true → Gives (.altConfigWrite 0x10 val) s fun t => t = { s with allots := t.allots } ∧
        t.allot a = { x with pasid := val % 2 ^ 20 } ∧ ∀ b, b ≠ a → t.allot b = s.allot b)) ∧
    (∀ val, x.st = .quiesced → s.pasidFree a (val % 2 ^ 20) = false →
      Gives (.altConfigWrite 0x10 val) s fun t => Claims.AltRefused s t 0x0104) ∧
    (∀ off val, x.st ≠ .free → x.st ≠ .quiesced → (off = 0x10 ∨ off = 0x14) →
      Gives (.altConfigWrite off val) s fun t => Claims.AltRefused s t 0x0B02))

/-- The queue commands by queue state (R137, R138, R140, R141), the two mailbox pages and their full, acknowledged and overrun flags
(R145, R146), and the dirty log's switch, head and aged records (R149, R150), on the selected allotment, or the steward's queues; in FREE every one
of them is refused (R152). -/
def Obligations.QueuesMailboxesAndLogs : Prop :=
  ∀ (s : State) (a : Nat), s.shown → s.altSel = a → a ≤ 2048 →
    let x := s.allot a
    let qid := s.altQ
    let q := s.queue qid
    let serves : Prop := a < 2048 ∧ (x.st = .active ∨ x.st = .quiescing ∨ x.st = .pendingEnable ∨ x.st = .quiesced)
    let queueIs (t : State) (y : Queue) : Prop := t.queue qid = y ∧ (∀ j, j ≠ qid → t.queue j = s.queue j) ∧
      t = { s with regs := t.regs, queues := t.queues, hif := { s.hif with altBusy := t.hif.altBusy } } ∧ FieldsBut s t Claims.altFields
    let allotIs (t : State) (y : Allot) : Prop := t.allot a = y ∧ (∀ b, b ≠ a → t.allot b = s.allot b) ∧ t.queues = s.queues
    (a < 2048 → x.st = .free →
      (∀ c ∈ [Instr.queueEnable, .queueDisable, .queueReset], Gives c s fun t => Claims.AltResult s t 0x0B02) ∧
      ∀ val, ∀ c ∈ [Instr.queueConfigWrite 0x50 val, .stewardMbxWrite 0x1100 val, .stewardMbxRing, .stewardMbxAck, .logHeadWrite val,
        .logEnable (2 * val + 1), .logDisable (2 * val)], Gives c s fun t => Claims.AltRefused s t 0x0B02) ∧
    (a = 2048 ∨ x.st ≠ .free →
      (∀ val, q.st = .disabled → val < 2 ^ 32 →
        (Gives (.queueConfigWrite 0x50 val) s fun t => queueIs t { q with
          depthLog2 := val % 16, vector := val / 16 % 8192, coalCount := val / 2 ^ 17 % 256, coalUs := val / 2 ^ 25 % 128 }) ∧
        (Gives (.queueConfigWrite 0x40 val) s fun t => queueIs t { q with sqBase := q.sqBase / 2 ^ 32 * 2 ^ 32 + val / 4096 * 4096 }) ∧
        (Gives (.queueConfigWrite 0x44 val) s fun t => queueIs t { q with sqBase := q.sqBase % 2 ^ 32 + val * 2 ^ 32 }) ∧
        Gives (.queueConfigWrite 0x58 val) s fun t => queueIs t { q with sqHead := val % 4096, sqTail := val / 65536 % 4096 }) ∧
      (∀ val, q.st ≠ .disabled → Gives (.queueConfigWrite 0x50 val) s fun t => Claims.AltRefused s t 0x0B02) ∧
      (q.st = .disabled → s.enableOk qid = true →
        Gives .queueEnable s fun t => queueIs t { q with st := .enabled, errKind := 0, fenced := false } ∧ t.getF Reg.ALT_RESULT_STATUS = 0) ∧
      (q.st = .disabled → s.enableOk qid = false → Gives .queueEnable s fun t => Claims.AltResult s t 0x0104) ∧
      (q.st = .enabled ∨ q.st = .pendingEnable → Gives .queueEnable s fun t => Claims.AltResult s t 0) ∧
      (q.st = .draining → Gives .queueEnable s fun t => queueIs t { q with st := .pendingEnable } ∧ t.getF Reg.ALT_RESULT_IN_PROGRESS = 1) ∧
      (q.st = .error → (Gives .queueEnable s fun t => Claims.AltResult s t 0x0B02) ∧ Gives .queueDisable s fun t => Claims.AltResult s t 0x0B02) ∧
      (q.st = .enabled ∨ q.st = .pendingEnable →
        Gives .queueDisable s fun t => queueIs t { q with st := .draining } ∧ t.getF Reg.ALT_RESULT_IN_PROGRESS = 1) ∧
      (q.st = .disabled ∨ q.st = .draining → Gives .queueDisable s fun t => Claims.AltResult s t 0) ∧
      (q.st = .disabled → Gives .queueReset s fun t => queueIs t q.zeroed ∧ t.getF Reg.ALT_RESULT_STATUS = 0) ∧
      (q.st ≠ .disabled → Gives .queueReset s fun t => queueIs t { q with st := .draining, heldReset := true } ∧
        t.getF Reg.ALT_RESULT_IN_PROGRESS = 1)) ∧
    (q.st = .draining ∨ q.st = .pendingEnable → q.fetched = 0 →
      Gives (.queueDrainComplete qid) s fun t => queueIs t { (if q.heldReset then q.zeroed else q) with
        st := if q.st = .pendingEnable then .enabled else .disabled, errKind := 0, fenced := false }) ∧
    (q.fetched ≠ 0 → Gives (.queueDrainComplete qid) s fun t => t = s) ∧
    (a < 2048 → (s.queue (8 * a)).open = false → ∀ off val, ∀ c ∈ [Instr.tenantMbxWrite a off val, .tenantMbxRing a, .tenantMbxAck a],
      Gives c s fun t => t.allots = s.allots ∧ t.queues = s.queues ∧
        t.getF Reg.HIF_BAR2_STRAY_WRITES = min (s.getF Reg.HIF_BAR2_STRAY_WRITES + 1) 0xFFFFFFFF) ∧
    (serves → (s.queue (8 * a)).open = true →
      (∀ off val, 0x800 ≤ off → off < 0x900 → x.t2sFull = false →
        Gives (.tenantMbxWrite a off val) s fun t => allotIs t { x with t2s := putDword x.t2s off val } ∧ t.regs = s.regs) ∧
      (∀ off val, 0x800 ≤ off → off < 0x900 → x.t2sFull = true →
        Gives (.tenantMbxWrite a off val) s fun t => allotIs t { x with t2sOver := true } ∧ t.regs = s.regs) ∧
      (x.t2sFull = false → Gives (.tenantMbxRing a) s fun t => allotIs t { x with t2sFull := true } ∧
        bit (t.getF (Reg.ALT_MBX_EVT_EVT (a / 32))) (a % 32) = true) ∧
      (x.t2sFull = true → Gives (.tenantMbxRing a) s fun t => allotIs t { x with t2sOver := true } ∧ t.regs = s.regs) ∧
      (x.s2tFull = false → Gives (.tenantMbxAck a) s fun t => t = s) ∧
      (x.s2tFull = true → Gives (.tenantMbxAck a) s fun t =>
        allotIs t { x with s2t := [], s2tFull := false, s2tAcked := true } ∧ bit (t.getF (Reg.ALT_MBX_EVT_EVT (a / 32))) (a % 32) = true)) ∧
    (serves →
      (Gives .stewardMbxAck s fun t => allotIs t { x with t2s := [], t2sFull := false } ∧ t = { s with allots := t.allots }) ∧
      (∀ off val, 0x1100 ≤ off → off < 0x1200 →
        Gives (.stewardMbxWrite off val) s fun t => t = { s with allots := t.allots } ∧
          allotIs t (if x.s2tFull then { x with s2tOver := true } else { x with s2t := putDword x.s2t off val })) ∧
      (x.s2tFull = true → Gives .stewardMbxRing s fun t => t = s) ∧
      (x.s2tFull = false → Gives .stewardMbxRing s fun t => allotIs t { x with s2tFull := true } ∧ t.regs = s.regs)) ∧
    (a < 2048 → x.st ≠ .free →
      (∀ val, bit val 0 = true →
        let d := val / 16 % 32
        (d < 6 ∨ 16 < d → Gives (.logEnable val) s fun t => Claims.AltRefused s t 0x0104) ∧
        (6 ≤ d → d ≤ 16 → x.log.en = false →
          Gives (.logEnable val) s fun t => t = { s with allots := t.allots } ∧ allotIs t { x with log := { x.log with
            depthLog2 := d, flushUs := val / 65536 % 256, en := true, head := 0, tail := 0, phase := true, seq := 0, full := false } }) ∧
        (6 ≤ d → d ≤ 16 → x.log.en = true → d ≠ x.log.depthLog2 → Gives (.logEnable val) s fun t => Claims.AltRefused s t 0x0B02)) ∧
      (∀ val, bit val 0 = false → val / 16 % 32 = x.log.depthLog2 → 6 ≤ x.log.depthLog2 → x.log.depthLog2 ≤ 16 → x.log.en = true →
        Gives (.logDisable val) s fun t => (t.allot a).log.en = false ∧
          (x.log.held = [] → x.log.cache.length ≤ x.log.depth - 1 - ringDist x.log.depth x.log.head x.log.tail →
            (t.allot a).log.cache = [] ∧ (t.allot a).log.seq = x.log.seq + x.log.cache.length ∧ (t.allot a).log.full = false ∧
              t.queues = s.queues)) ∧
      (∀ head, head < 65536 →
        let n := 2 ^ x.log.depthLog2
        let far : Prop := n ≤ head ∨ (x.log.tail + n - x.log.head % n) % n < (head + n - x.log.head % n) % n
        (far → Gives (.logHeadWrite head) s fun t => allotIs t { x with log := { x.log with headErr := true } }) ∧
        (¬ far → Gives (.logHeadWrite head) s fun t => (t.allot a).log.head = head ∧ (t.allot a).log.headErr = x.log.headErr ∧
          (x.log.en = true → (∀ b, (s.allot b).log.held = []) → s.hif.aborts = [] → (∀ m, s.restartWaits m = false) →
            allotIs t { x with log := { x.log with
              head, full := x.log.full && ringDist n head x.log.tail == n - 1 } })))) ∧
    (∀ r rest, x.log.cache = r :: rest → r.opened + max x.log.flushUs 1 ≤ s.drv.tick → x.log.ringFull = false →
      (∀ r' ∈ rest, s.drv.tick < r'.opened + max x.log.flushUs 1) →
      Gives (.logFlushTimer a) s fun t => (t.allot a).log.cache = rest ∧ (t.allot a).log.tail = (x.log.tail + 1) % 2 ^ x.log.depthLog2 ∧
        (t.allot a).log.seq = x.log.seq + 1 ∧
        (s.ideDrops = false → t.outbox =
          .logRecord a (x.log.base + 64 * x.log.tail) (dirtyRecord x.log.phase (x.log.seq + 1) r) (s.writeAttr 2048) :: s.outbox) ∧
        t = { s with allots := t.allots, outbox := t.outbox }) ∧
    ((∀ r ∈ x.log.cache, s.drv.tick < r.opened + max x.log.flushUs 1) ∨ x.log.ringFull = true →
      Gives (.logFlushTimer a) s fun t => t = s)

/-! ### Custodians (spec/08) -/

/-- The custodian commands in the sink of their graph, and the events of the pending table: an approval is stored unverified, a verified
reject counts and beyond n − k rejects the entry; a second verdict is a duplicate; enrolment, revocation and class changes write the
root store; a verification marks its approval or discards it, and the quorum frees the entry and places the nodes, or the next
signature follows (R159, R161 to R167, R169, R285). -/
def Obligations.CustodianCommands : Prop :=
  ∀ (s : State) (g n : Nat) (gr : Graph), NoKeys gr →
    let b := gr.inp
    (∀ slot alg, AtSink s 0x0F01 g gr n → b.take 4 = magic 0x45 0x5A 0x41 0x50 → slot = byteAt b 4 → slot ≤ 15 → alg = byteAt b 6 →
      (alg = 1 ∨ alg = 2) → b.length = approvalLen alg → byteAt b 7 = 0 → (byteAt b 5 = 1 ∨ byteAt b 5 = 2) →
      (s.pendByDigest (slice b 8 32) = none → Ends (.cusLodge g) s g n gr St.requestUnknown s) ∧
      (∀ e, s.pendByDigest (slice b 8 32) = some e →
        let p := s.pendE e
        let allowed : Prop := ((s.cus slot).st = 1 ∧ (s.cus slot).alg = alg ∧ bit (s.cls p.cls).members slot = true) ∨
          ((s.cus slot).st ≠ 1 ∧ p.enrolSlot = some slot ∧ p.enrolAlg = alg ∧ byteAt b 5 = 1)
        let held : Prop := (∃ a ∈ p.approvals, a.slot = slot) ∨ bit p.rejects slot = true
        let good : Bool := verifyPure (cusSet alg) (s.cus slot).pk [] (b.take 0x28) (b.drop 0x28)
        (p.st = 3 → Ends (.cusLodge g) s g n gr St.requestUnknown s) ∧
        (p.st = 1 ∨ p.st = 2 →
          (¬ allowed → Ends (.cusLodge g) s g n gr St.badOperand s) ∧
          (allowed → held → Ends (.cusLodge g) s g n gr St.approvalDuplicate s) ∧
          (allowed → ¬ held → byteAt b 5 = 1 → ∃ u, Commits (.cusLodge g) s g n gr [] u ∧ u = { s with pends := u.pends } ∧
            u.pendE e = { p with approvals := p.approvals ++ [⟨slot, alg, b.take 0x28, b.drop 0x28⟩] } ∧
            ∀ j, j ≠ e → u.pendE j = s.pendE j) ∧
          (allowed → ¬ held → byteAt b 5 = 2 → alg = 2 → gr.verified = false → gr.nodes.length = gr.tpl.nodes.length →
            Gives (.cusLodge g) s fun t => ∃ gr', t.graph g = some gr' ∧ gr'.committed = false ∧ gr'.nodes.length = gr.nodes.length + 1 ∧
              t.pends = s.pends ∧ t.root = s.root) ∧
          (allowed → ¬ held → byteAt b 5 = 2 → alg = 1 ∨ gr.verified = true →
            (good = false → ∃ u, Ends (.cusLodge g) s g n gr St.verifyFailed u ∧
              OnlyFields s u [Reg.CUS_BAD_SIG_COUNT, Reg.CUS_EVENT_BAD_SIG] ∧
              u.getF Reg.CUS_BAD_SIG_COUNT = min (s.getF Reg.CUS_BAD_SIG_COUNT + 1) 0xFFFFFFFF) ∧
            (good = true → ∃ u, Commits (.cusLodge g) s g n gr [] u ∧ u.root = s.root ∧ bit (u.pendE e).rejects slot = true ∧
              (u.pendE e).approvals = p.approvals ∧
              let full : Prop := s.nMembers p.cls - s.kEff p.cls < popCount 16 (setBit p.rejects slot)
              (u.pendE e).st = (if p.st = 1 ∧ full then 3 else p.st) ∧ (p.st = 2 → full → (u.pendE e).rejecting = true)))))) ∧
    (AtSink s 0x0F02 g gr n → b.length = 32 →
      (s.pendByDigest b = none → Ends (.cusCancel g) s g n gr St.requestUnknown s) ∧
      (∀ e, s.pendByDigest b = some e → (s.pendE e).st = 2 → Ends (.cusCancel g) s g n gr St.busy s) ∧
      (∀ e, s.pendByDigest b = some e → (s.pendE e).st ≠ 2 → ∃ u, Commits (.cusCancel g) s g n gr [] u ∧ u.pendE e = {} ∧
        (∀ j, j ≠ e → u.pendE j = s.pendE j) ∧ u = { s with pends := u.pends, drv := { s.drv with timers := u.drv.timers } })) ∧
    (∀ slot alg, AtSink s 0x0F03 g gr n → slot = byteAt b 0 → alg = byteAt b 1 → slot ≤ 15 → (alg = 1 ∨ alg = 2) →
      b.length = 4 + cusKeyLen alg → leAt b 2 2 = 0 →
      ((s.cus slot).st = 1 → Ends (.cusEnrol g) s g n gr St.badOperand s) ∧
      ((s.cus slot).st ≠ 1 → ∃ u v : State, Commits (.cusEnrol g) s g n gr [] u ∧ u = v.post 0xD006 slot alg 0 ∧ v = { s with root := v.root } ∧
        v.cus slot = ⟨1, alg, b.drop 4⟩ ∧ (∀ j, j ≠ slot → v.cus j = s.cus j) ∧ ∀ c, v.cls c = s.cls c)) ∧
    (∀ slot, AtSink s 0x0F04 g gr n → slot = byteAt b 0 → b.length = 4 → slot ≤ 15 → leAt b 1 3 = 0 → (s.cus slot).st = 1 →
      let left (c : Nat) : Nat := if bit (s.cls c).members slot then s.nMembers c - 1 else s.nMembers c
      ((∃ c, c < 6 ∧ left c < s.kEff c) → Ends (.cusRevoke g) s g n gr St.badOperand s) ∧
      ((∀ c, c < 6 → s.kEff c ≤ left c) →
        ∃ u, Commits (.cusRevoke g) s g n gr [] u ∧ u.cus slot = ⟨2, 0, []⟩ ∧ (∀ j, j ≠ slot → u.cus j = s.cus j) ∧
          (∀ c, c < 6 → bit (u.cls c).members slot = false ∧ (u.cls c).k = (s.cls c).k) ∧
          ∀ e, e < 64 → (s.pendE e).st ≠ 0 → (u.pendE e).st = (s.pendE e).st ∧ bit (u.pendE e).rejects slot = false ∧
            ∀ a ∈ (u.pendE e).approvals, a.slot ≠ slot)) ∧
    (∀ c k mem, AtSink s 0x0F05 g gr n → c = byteAt b 0 → k = byteAt b 1 → mem = leAt b 2 2 → b.length = 8 → c ≤ 5 → leAt b 4 4 = 0 →
      ((mem &&& s.enrolled ≠ mem ∨ k = 0 ∨ popCount 16 mem < k ∨ (s.lc.st = 2 ∧ k < 2)) →
        Ends (.cusSetClass g) s g n gr St.badOperand s) ∧
      (mem &&& s.enrolled = mem → k ≠ 0 → k ≤ popCount 16 mem → (s.lc.st = 2 → 2 ≤ k) →
        ∃ u, Commits (.cusSetClass g) s g n gr [] u ∧ u.cls c = ⟨mem, k⟩ ∧ (∀ j, j ≠ c → u.cls j = s.cls j) ∧
          u.getF Reg.CUS_EVENT_CLASS_CHANGED = 1 ∧ ∀ e, e < 64 → (s.pendE e).cls = c →
            ((s.pendE e).st = 1 → (u.pendE e).st = 3) ∧
            ((s.pendE e).st = 2 → (u.pendE e).st = 2 ∧ (u.pendE e).rejecting = true))) ∧
    (∀ slot, AtSink s 0x0F06 g gr n → slot = byteAt b 0 → b.length = 4 → slot ≤ 15 → leAt b 1 3 = 0 →
      4 + (s.cus slot).pk.length ≤ gr.desc.outLen →
      Commits (.cusReadSlot g) s g n gr (le 1 (s.cus slot).st ++ le 1 (s.cus slot).alg ++ zeros 2 ++ (s.cus slot).pk) s) ∧
    (∀ e a mis, s.live = true → (∀ m, s.restartWaits m = false) → s.hif.aborts = [] → (s.pendE e).st = 2 → (s.pendE e).sig = some a →
      a.alg = 1 → (∃ x ∈ (s.pendE e).approvals, x.slot = a.slot) → (s.pendE e).graph = some g → s.graph g = some gr → gr.pend = some e →
      let passed : Bool := verifyPure 0x50 (s.approvalKey (s.pendE e) a) [] a.msg a.sig && decide (mis < 2)
      let p : Pend := if passed then { s.pendE e with sig := none, verified := setBit (s.pendE e).verified a.slot }
        else { s.pendE e with sig := none, approvals := (s.pendE e).approvals.filter (fun x => x.slot != a.slot) }
      (p.aborting = true → Gives (.approvalVerifyComplete e mis) s fun t => t.graph g = none) ∧
      (p.aborting = false → s.quorumMet p = true → Gives (.approvalVerifyComplete e mis) s fun t => t.pendE e = {} ∧
        ∃ gr', t.graph g = some gr' ∧ gr'.nodes.length = gr.nodes.length ∧ gr'.desc = gr.desc ∧ gr'.pend = none) ∧
      (p.aborting = false → s.quorumMet p = false → p.rejecting = true → Gives (.approvalVerifyComplete e mis) s fun t =>
        t.pendE e = {} ∧ t.graph g = none) ∧
      (p.aborting = false → s.quorumMet p = false → p.rejecting = false → p.exhausted = true → s.cairn.opTime ≤ p.expiry →
        Gives (.approvalVerifyComplete e mis) s fun t => t.graph g = none ∧ t.pendE e = { p with st := 1, graph := none }) ∧
      (∀ a', p.aborting = false → s.quorumMet p = false → p.rejecting = false → p.exhausted = false → p.nextApproval = some a' → a'.alg = 1 →
        Gives (.approvalVerifyComplete e mis) s fun t => t.pendE e = { p with sig := some a' } ∧ (∀ j, j ≠ e → t.pendE j = s.pendE j) ∧
          t.graph g = some gr ∧ t.root = s.root ∧ (passed = true → mis = 0 → t = { s with pends := t.pends }) ∧
          (passed = false → t.getF Reg.CUS_EVENT_BAD_SIG = 1))) ∧
    (∀ e, s.live = true → ((s.pendE e).st = 1 ∨ (s.pendE e).st = 3) →
      ((s.pendE e).expiry < s.cairn.opTime → Gives (.pendingEntryExpire e) s fun t => t.pendE e = {} ∧ t.root = s.root ∧
        t.getF Reg.CUS_EVENT_EXPIRED = 1 ∧ ∀ j, j ≠ e → t.pendE j = s.pendE j) ∧
      (s.cairn.opTime ≤ (s.pendE e).expiry → Gives (.pendingEntryExpire e) s fun t => t = s)) ∧
    (∀ e, s.live = true → ((s.pendE e).st = 0 ∨ (s.pendE e).st = 2) → Gives (.pendingEntryExpire e) s fun t => t = s)

/-! ### Cells, meadows and the clump ports (spec/09) -/

/-- RESTART, FALLOW and RETURN by meadow state, with the result each posts; RESTART powers a meadow in S2 up, and waits during an overlap for the
last cells of a role (R84, R191, R192); FALLOW, RETURN and a new NEXT_ROLE by cell state (R194, R200, R201). -/
def Obligations.MeadowAndCellCommandsByState : Prop :=
  ∀ (s : State) (m : Nat), s.shown →
    let st := s.mdwState m
    let sl := s.sleepState m
    let ended (t : State) (x : Nat) (fs : List Fld) : Prop :=
      t = { s with regs := t.regs, pwr := { s.pwr with s1 := t.pwr.s1 }, drv := { s.drv with cmdOf := none } } ∧
      FieldsBut s t ([Reg.DRV_RESULT_STATUS, Reg.DRV_RESULT_IN_PROGRESS] ++ fs) ∧
      t.getF Reg.DRV_RESULT_STATUS = x ∧ t.getF Reg.DRV_RESULT_IN_PROGRESS = 0
    let result (t : State) (x : Nat) : Prop := ended t x [Reg.DRV_MDW_STAT_AUTO_HELD m]
    let begun (t : State) (x : Nat) : Prop := t.mdwState m = x ∧ t.getF Reg.DRV_RESULT_IN_PROGRESS = 1 ∧ t.root = s.root
    (s.hasMeadow m = false → ∀ c ∈ [Instr.meadowRestart m, .meadowFallow m, .meadowReturn m], Gives c s fun t => result t 0x0601) ∧
    (s.hasMeadow m = true → sl = 4 → (Gives (.meadowRestart m) s fun t => result t 0x0B02) ∧
      Gives (.meadowReturn m) s fun t => result t 0x0B02) ∧
    (s.hasMeadow m = true → sl ≠ 4 →
      let waits : Bool := s.getF Reg.HIF_BALE_STATUS_OVERLAP != 0 && s.mustWait m
      (st = 0 → waits = false → sl ≠ 2 →
        Gives (.meadowRestart m) s fun t => begun t 1 ∧ t.mdwGoal m = .restart ∧
          ∀ c, meadowOf c = m → s.cellState c = 0 → t.cellState c = 1) ∧
      (st = 0 → waits = false → sl = 2 →
        Gives (.meadowRestart m) s fun t => begun t 3 ∧ t.mdwGoal m = .restart ∧ t.sleepState m = 5 ∧
          ∀ c, meadowOf c = m → t.cellState c = 3) ∧
      (st = 0 → waits = true → Gives (.meadowRestart m) s fun t => begun t 0 ∧ t.restartWaits m = true ∧ t.drv.slots = s.drv.slots) ∧
      (st = 1 → Gives (.meadowRestart m) s fun t => begun t 1 ∧ t.mdwGoal m = .restart ∧ t.drv.slots = s.drv.slots) ∧
      (st = 2 → s.mdwGoal m ≠ .restart →
        Gives (.meadowRestart m) s fun t => begun t 1 ∧ t.mdwGoal m = .restart ∧ t.drv.slots = s.drv.slots) ∧
      ((st = 3 ∨ st = 4) → Gives (.meadowRestart m) s fun t => result t 0x0B01) ∧
      (st = 5 → Gives (.meadowRestart m) s fun t => begun t 3 ∧ t.mdwGoal m = .restart ∧
        t.sleepState m = (if sl = 2 then 5 else sl)) ∧
      (st = 0 → Gives (.meadowFallow m) s fun t => begun t 1 ∧ t.mdwGoal m = .fallow ∧
        ∀ c, meadowOf c = m → s.cellState c = 0 → t.cellState c = 1) ∧
      (st = 1 → Gives (.meadowFallow m) s fun t => begun t 1 ∧ t.mdwGoal m = .fallow) ∧
      ((st = 3 ∨ st = 4) → Gives (.meadowFallow m) s fun t => result t 0x0B01) ∧
      ((st = 2 ∨ st = 5) → Gives (.meadowFallow m) s fun t => result t 0) ∧
      (st = 1 → s.mdwGoal m = .fallow → Gives (.meadowReturn m) s fun t => begun t 2 ∧ t.mdwGoal m = .fallow) ∧
      (st = 5 → Gives (.meadowReturn m) s fun t => begun t 4 ∧ ∀ c, meadowOf c = m → t.cellState c = 4) ∧
      ((st = 0 ∨ st = 2 ∨ st = 3 ∨ st = 4 ∨ (st = 1 ∧ s.mdwGoal m = .restart)) → Gives (.meadowReturn m) s fun t => result t 0)) ∧
    (∀ c, c < 256 → meadowOf c = m → s.hasCell c = true →
      let cst := s.cellState c
      let woken : List Fld := [Reg.PWR_MDW_STAT_STATE m]
      let cresult (t : State) (x : Nat) : Prop := ended t x woken
      let crefused (t : State) (x : Nat) : Prop := OnlyFields s { t with pwr := s.pwr } (Reg.DRV_RESULT_STATUS :: woken) ∧
        t.getF Reg.DRV_RESULT_STATUS = x
      let cbegun (t : State) (x : Nat) : Prop := t.cellState c = x ∧ t.getF Reg.DRV_RESULT_IN_PROGRESS = 1 ∧ t.root = s.root
      (sl = 4 → ∀ r k, ∀ i ∈ [Instr.cellFallow c, .cellReturn c, .nextRoleWrite c r k],
        Gives i s fun t => OnlyFields s t [Reg.PWR_S3_HITS_HITS]) ∧
      (sl ≠ 4 →
        (st ≠ 0 → (Gives (.cellFallow c) s fun t => cresult t 0x0B02) ∧ Gives (.cellReturn c) s fun t => cresult t 0x0B02) ∧
        (st = 0 →
          (cst = 0 → Gives (.cellFallow c) s fun t => cbegun t 1 ∧ getC .none t.drv.cellGoal c = .fallow) ∧
          (cst = 2 → Gives (.cellFallow c) s fun t => cbegun t 1) ∧
          (cst = 4 → Gives (.cellFallow c) s fun t => cresult t 0x0B01) ∧
          ((cst = 1 ∨ cst = 3) → Gives (.cellFallow c) s fun t => cresult t 0) ∧
          (cst = 1 → Gives (.cellReturn c) s fun t => cbegun t 2) ∧
          (cst = 3 → Gives (.cellReturn c) s fun t => cbegun t 4) ∧
          ((cst = 0 ∨ cst = 2 ∨ cst = 4) → Gives (.cellReturn c) s fun t => cresult t 0) ∧
          (∀ role, role ≤ 5 → cst = 3 → Gives (.nextRoleWrite c role 2) s fun t => cbegun t 4 ∧ t.nextRole c = role)) ∧
        (∀ role, role < 8 →
          (role = s.nextRole c → Gives (.nextRoleWrite c role 0) s fun t => OnlyFields s { t with pwr := s.pwr } woken) ∧
          (role ≠ s.nextRole c → role ≤ 5 → cst = 3 → Gives (.nextRoleWrite c role 0) s fun t =>
            OnlyFields s { t with pwr := s.pwr } (Reg.SWD_CELL_CTL_NEXT_ROLE c :: woken) ∧ t.nextRole c = role) ∧
          (role ≠ s.nextRole c → role ≤ 5 → cst ≠ 3 → Gives (.nextRoleWrite c role 0) s fun t => crefused t 0x0B02) ∧
          (role ≠ s.nextRole c → 6 ≤ role → Gives (.nextRoleWrite c role 0) s fun t => crefused t 0x0104))))

/-- A drained meadow takes FALLOW, its reload or its held RETURN; a reload that verifies goes to self-test in the adopted epoch, one that
does not leaves every cell Fallow; a self-test gives each cell its role back or a new one, and leaves one that failed Fallow. A cell drains, is
tested and serves again, its periodic test falls due, and a limit that passes moves the nodes that still run (R84, R173, R174, R179, R182,
R192 to R194, R197, R198, R257). -/
def Obligations.DrainReloadAndSelfTestEnd : Prop :=
  ∀ (s : State) (m : Nat), m < 8 → s.live = true →
    let st := s.mdwState m
    let sl := s.sleepState m
    ((st = 1 ∨ st = 2) → (∀ c, meadowOf c = m → s.slotsEmpty c = true ∧ s.cellState c ≠ 4) →
      (s.mdwGoal m = .restart ∨ st = 2 ∨ s.bale.expiryNext ≠ some (m + 1)) →
      Gives (.meadowDrainComplete m) s fun t =>
        t.mdwState m = (if s.mdwGoal m = .restart then 3 else if st = 2 then 4 else 5) ∧ t.drv.slots = s.drv.slots ∧
        ∀ c, meadowOf c = m → s.cellState c ≠ 3 → t.cellRole c = 0 ∧ t.roleEpoch c = (s.roleEpoch c + 1) % 256 ∧
          t.cellState c = (if s.mdwGoal m ≠ .restart ∧ st = 2 then 4 else 3)) ∧
    ((st ≠ 1 ∧ st ≠ 2) ∨ (∃ c, meadowOf c = m ∧ s.slotsEmpty c = false) → Gives (.meadowDrainComplete m) s fun t => t = s) ∧
    (∀ x, st ≠ 3 ∨ (sl ≠ 0 ∧ sl ≠ 5) → Gives (.meadowReloadComplete m x) s fun t => t = s) ∧
    (∀ x, st = 3 → (sl = 0 ∨ sl = 5) → s.badSection x = none → s.sky.seeds ≠ 0 →
      Gives (.meadowReloadComplete m x) s fun t => t.mdwState m = 4 ∧ t.sleepState m = 0 ∧ t.sky.seeds = s.sky.seeds - 1 ∧
        getC 0 t.bale.mdwEpoch m = s.bale.adoptedEpoch ∧ ∀ c, meadowOf c = m → t.cellState c = 4) ∧
    (∀ x, st = 3 → (sl = 0 ∨ sl = 5) → s.badSection x = none → s.sky.seeds = 0 →
      Gives (.meadowReloadComplete m x) s fun t => Recorded s t) ∧
    (∀ x y, st = 3 → (sl = 0 ∨ sl = 5) → s.badSection x = some y →
      Gives (.meadowReloadComplete m x) s fun t => t.mdwState m = 5 ∧ t.sleepState m = 0 ∧
        (s.drv.cmdOf = some (.meadow m) → t.getF Reg.DRV_RESULT_STATUS = 0x0301 ∧ t.getF Reg.DRV_RESULT_IN_PROGRESS = 0) ∧
        (∀ c, meadowOf c = m → t.cellState c = 3 ∧ t.getF (Reg.SWD_CELL_STAT_FALLOW_CAUSE c) = 0) ∧ t.bale.mdwEpoch = s.bale.mdwEpoch) ∧
    (∀ failed : List Nat, st = 4 → s.service = true → s.mdwGoal m = .restart → failed.length ≤ 4 →
      Gives (.meadowSelftestComplete m failed) s fun t => t.mdwState m = 0 ∧
        ∀ c, meadowOf c = m →
          (c ∉ failed → ∀ r, getC 0 s.drv.prior c = r + 1 → 1 ≤ r → r ≤ 6 → s.roleFits r = true →
            t.cellState c = 0 ∧ t.cellRole c = r ∧ t.roleEpoch c = (s.roleEpoch c + 1) % 256) ∧
          (c ∉ failed → getC 0 s.drv.prior c ≤ 1 → t.cellState c = 3 ∧ t.roleEpoch c = s.roleEpoch c) ∧
          (c ∈ failed → t.cellState c = 3 ∧ t.getF (Reg.SWD_CELL_STAT_FALLOW_CAUSE c) = 1)) ∧
    (∀ failed : List Nat, st = 4 → s.service = true → s.mdwGoal m = .restart → s.drv.mdwAuto = some m →
      4 < ((List.range 32).filter (fun i => failed.contains (32 * m + i))).length →
      Gives (.meadowSelftestComplete m failed) s fun t => t.mdwState m = 5 ∧ t.getF (Reg.DRV_MDW_STAT_AUTO_HELD m) = 1 ∧
        ∀ c, meadowOf c = m → t.cellState c = 3) ∧
    (st = 4 → s.service = true → s.mdwGoal m ≠ .restart → s.bale.expiryNext ≠ some (m + 1) →
      Gives (.meadowSelftestComplete m []) s fun t =>
        ∀ c r, meadowOf c = m → s.nextRole c = r → 1 ≤ r → r ≤ 5 → s.roleFits r = true →
          t.mdwState m = 0 ∧ t.cellState c = 0 ∧ t.cellRole c = r ∧ t.roleEpoch c = (s.roleEpoch c + 1) % 256) ∧
    (∀ l, st ≠ 4 ∨ s.service = false → Gives (.meadowSelftestComplete m l) s fun t => t = s) ∧
    (∀ c, meadowOf c = m → s.slotsEmpty c = true → (s.cellState c = 1 ∨ s.cellState c = 2) →
      (getC .none s.drv.cellGoal c = .fallow →
        Gives (.cellDrainComplete c) s fun t => t.cellState c = (if s.cellState c = 2 then 4 else 3) ∧ t.cellRole c = 0 ∧
          t.roleEpoch c = (s.roleEpoch c + 1) % 256) ∧
      (getC .none s.drv.cellGoal c = .retest →
        Gives (.cellDrainComplete c) s fun t => t.cellState c = 4 ∧ t.cellRole c = 6 ∧ t.roleEpoch c = (s.roleEpoch c + 1) % 256)) ∧
    (∀ c, s.slotsEmpty c = false ∨ (s.cellState c ≠ 1 ∧ s.cellState c ≠ 2) → Gives (.cellDrainComplete c) s fun t => t = s) ∧
    (∀ c, meadowOf c = m → s.cellState c = 4 → st ≠ 3 → st ≠ 4 → s.service = true →
      (∀ r, (if s.cellRole c = 6 then getC 0 s.drv.prior c - 1 else s.nextRole c) = r → 1 ≤ r → r ≤ 6 → s.roleFits r = true →
        Gives (.cellSelftestComplete c true) s fun t => t.cellState c = (if st = 1 ∨ st = 2 then 1 else 0) ∧ t.cellRole c = r ∧
          t.roleEpoch c = (s.roleEpoch c + 1) % 256) ∧
      Gives (.cellSelftestComplete c false) s fun t => t.cellState c = 3 ∧ t.getF (Reg.SWD_CELL_STAT_FALLOW_CAUSE c) = 1 ∧
        t.getF (Reg.SWD_CELL_FAULT_SELFTEST_FAILS c) = min (s.getF (Reg.SWD_CELL_FAULT_SELFTEST_FAILS c) + 1)
          (2 ^ (Reg.SWD_CELL_FAULT_SELFTEST_FAILS c).w - 1)) ∧
    (∀ c p, s.cellState c ≠ 4 → Gives (.cellSelftestComplete c p) s fun t => t = s) ∧
    (∀ c, meadowOf c = m → s.hasCell c = true →
      let iv := 60000000 * s.getF Reg.DRV_CFG_ST_INTERVAL_MIN
      let alone : Prop := ∀ d, s.hasCell d = true → d ≠ c → dieOf d = dieOf c → s.cellState d = 0 → s.cellRole d ≠ s.cellRole c
      let tested : Prop := ∃ x, meadowOf x = m ∧ (s.cellRole x = 6 ∨ getC .none s.drv.cellGoal x = .retest)
      let armed (t : State) : Prop := s.drv.timers.length ≤ sharedTimers →
        ∃ x ∈ t.drv.timers, x.owner = .selftest c ∧ x.due = s.drv.tick + iv ∧ x.list = 6
      (s.isDue (.selftest c) = false → Gives (.periodicSelftestDue c) s fun t => t = s) ∧
      (s.isDue (.selftest c) = true → iv ≠ 0 → (s.cellState c ≠ 0 ∨ st ≠ 0) →
        Gives (.periodicSelftestDue c) s fun t => armed t ∧ t.drv.slots = s.drv.slots ∧ t.cellState c = s.cellState c) ∧
      (s.isDue (.selftest c) = true → iv ≠ 0 → s.cellState c = 0 → st = 0 → (alone ∨ tested) →
        Gives (.periodicSelftestDue c) s fun t => t = s) ∧
      (s.isDue (.selftest c) = true → iv ≠ 0 → s.cellState c = 0 → st = 0 → ¬ alone → ¬ tested →
        Gives (.periodicSelftestDue c) s fun t => t.cellState c = 1 ∧ getC .none t.drv.cellGoal c = .retest ∧ armed t)) ∧
    (∀ c,
      let open_ := getC 0 s.drv.winOpen c
      (open_ ≠ 0 → open_ + 1000000 ≤ s.drv.tick + 1 →
        Gives (.mismatchWindowClose c) s fun t => t.getF (Reg.SWD_CELL_FAULT_MISMATCH_1S c) = 0 ∧ getC 0 t.drv.winOpen c = 0 ∧
          t = { s with regs := t.regs, drv := { s.drv with winOpen := t.drv.winOpen } } ∧ FieldsBut s t [Reg.SWD_CELL_FAULT_MISMATCH_1S c]) ∧
      (open_ = 0 ∨ s.drv.tick + 1 < open_ + 1000000 → Gives (.mismatchWindowClose c) s fun t => t = s)) ∧
    (∀ c g n e gr, meadowOf c = m → (s.cellState c = 1 ∨ s.cellState c = 2) → getC 0 s.drv.cellDrain c < s.drv.tick →
      s.slot (2 * c) = some e → e.work = .node g n → s.slot (2 * c + 1) = none → s.graph g = some gr → gr.committed = false →
      s.roleFits (gr.tnode n).role = true → (∀ d, (s.readyList (readyKey d (gr.tnode n).role)).length < 2048) →
      Gives (.drainLimitExpire m (some c)) s fun t => t.slot (2 * c) = none ∧
        t.getF Reg.DRV_REQUEUE_COUNT = min (s.getF Reg.DRV_REQUEUE_COUNT + 1) 0xFFFFFFFF ∧
        ∃ d r rest, t.readyList (readyKey d (gr.tnode n).role) = r :: rest ∧ r.work = .node g n ∧ r.prio = gr.prio) ∧
    ((st = 1 ∨ st = 2) → getC 0 s.drv.mdwDrain m < s.drv.tick →
      (∀ k e g n gr, s.slot k = some e → meadowOf (k / 2) = m → e.work = .node g n → s.graph g = some gr →
        gr.committed = false ∧ s.roleFits (gr.tnode n).role = true) →
      Gives (.drainLimitExpire m none) s fun t => ∀ c, meadowOf c = m → t.slotsEmpty c = true) ∧
    (∀ c, s.drv.tick ≤ getC 0 s.drv.cellDrain c → Gives (.drainLimitExpire m (some c)) s fun t => t = s) ∧
    (s.drv.tick ≤ getC 0 s.drv.mdwDrain m → Gives (.drainLimitExpire m none) s fun t => t = s) ∧
    (∀ d r,
      let age := s.getF Reg.DRV_CFG_AGE_US
      let old (e : Ready) : Bool := decide (e.since + age ≤ s.drv.tick) && decide (e.prio < 7)
      (age = 0 → Gives (.ageingTimer d r) s fun t => t = s) ∧
      (age ≠ 0 → Gives (.ageingTimer d r) s fun t => t = { s with drv := { s.drv with ready := t.drv.ready } } ∧
        (∀ k, k ≠ readyKey d r → t.readyList k = s.readyList k) ∧
        t.readyList (readyKey d r) = (s.readyList (readyKey d r)).filter (fun e => !old e) ++
          ((s.readyList (readyKey d r)).filter old).map (fun e => { e with prio := e.prio + 1, since := s.drv.tick })))

/-- A decision of a clump's memory port: refresh wins, then Stile, then a pre-empted owner, then the requester whose limit was reached
first, otherwise one of the highest priority; the losers' wait counters rise and the winner's is zero. An emergency requester takes a
grant from a cell, a grant held too long makes its owner fault-Fallow, and a limit of 0 is refused (R186 to R190, R196, R201). -/
def Obligations.MemoryPortDecisions : Prop :=
  ∀ (s : State) (k : Nat), s.live = true → s.hasMeadow (k / 4) = true → (∀ r ∈ (s.port k).req, r < 10) → (s.port k).req.Nodup →
    let p := s.port k
    let owner (t : State) : Nat := t.getF (Reg.SWD_ARB_STAT_OWNER k)
    (∀ r, r < 10 → p.req = [] → owner s = 15 →
      Gives (.memoryPortRequest k r) s fun t => owner t = r ∧ (t.port k).req = [r] ∧ (t.port k).prev = r ∧ t.getF (arbWait k r) = 0) ∧
    (∀ r, r ∈ p.req → Gives (.memoryPortRequest k r) s fun t => t.regs = s.regs ∧ t.drv = s.drv) ∧
    (∀ r, r ∉ p.req → Gives (.memoryPortRelease k r) s fun t => t = s) ∧
    (∀ r, r < 10 → r ∉ p.req → owner s ≠ 15 →
      Gives (.memoryPortRequest k r) s fun t => t.regs = s.regs ∧ (t.port k) = { p with req := p.req ++ [r] } ∧
        ∀ j, j ≠ k → t.port j = s.port j) ∧
    (∀ o, o ∈ p.req → owner s = o →
      let rest := p.req.filter (fun x => x != o)
      Gives (.memoryPortRelease k o) s fun t => (t.port k).req = rest ∧ (rest = [] → owner t = 15) ∧ (rest ≠ [] → owner t ∈ rest) ∧
        (8 ∈ rest → owner t = 8) ∧ (8 ∉ rest → 9 ∈ rest → owner t = 9) ∧
        (8 ∉ rest → 9 ∉ rest → ∀ x, p.preempted = some x → x ∈ rest → owner t = x) ∧
        (8 ∉ rest → 9 ∉ rest → p.preempted = none → ∀ x l, p.limited = x :: l → x ∈ rest → owner t = x) ∧
        (8 ∉ rest → 9 ∉ rest → p.preempted = none → p.limited = [] → ∀ x ∈ rest, s.getF (arbPrio k x) ≤ s.getF (arbPrio k (owner t))) ∧
        ∀ x ∈ rest, t.getF (arbWait k x) = (if x = owner t then 0 else min (s.getF (arbWait k x) + 1) 1023)) ∧
    (∀ r, r ∈ p.req → owner s ≠ r → owner s < 16 →
      Gives (.memoryPortRelease k r) s fun t => owner t = owner s ∧ t.getF (arbWait k r) = 0 ∧
        (t.port k).req = p.req.filter (fun x => x != r)) ∧
    (∀ r, (r ≠ 8 ∧ r ≠ 9) ∨ r ∉ p.req ∨ 8 ≤ owner s → Gives (.emergencyPreempt k r) s fun t => t = s) ∧
    (∀ r, (r = 8 ∨ r = 9) → r ∈ p.req → owner s < 8 →
      Gives (.emergencyPreempt k r) s fun t => owner t = r ∧ (t.port k) = { p with preempted := some (owner s), prev := r } ∧
        OnlyFields s { t with drv := s.drv } [Reg.SWD_ARB_STAT_OWNER k, Reg.SWD_ARB_STAT_PREEMPTS k]) ∧
    (∀ c, clumpOf c = k → owner s ≠ c % 8 → (∀ n, s.restartWaits n = false) → s.hif.aborts = [] →
      Gives (.portHoldViolation c) s fun t => t = s) ∧
    (∀ c, clumpOf c = k → owner s = c % 8 →
      Gives (.portHoldViolation c) s fun t => t.cellState c = 3 ∧ t.cellRole c = 0 ∧ t.getF (Reg.SWD_CELL_STAT_FALLOW_CAUSE c) = 3 ∧
        t.roleEpoch c = (s.roleEpoch c + 1) % 256 ∧ owner t ≠ c % 8 ∧ t.getF Reg.DRV_EVENT_PORT_HOLD = 1 ∧
        t.getF Reg.DRV_EVENT_FAULT_FALLOW = 1) ∧
    (∀ c val, clumpOf c = k → c < 256 → s.hif.perst = false → s.fullMap = true → s.sleepState (meadowOf c) ≠ 4 →
      (val / 16 % 1024 ≠ 0 → Gives (.arbConfigWrite (0x300010 + 0x1000 * c) val) s fun t =>
        t = { s with regs := t.regs, pwr := { s.pwr with s1 := t.pwr.s1 }, drv := { s.drv with ports := t.drv.ports } } ∧
        FieldsBut s t [Reg.SWD_ARB_PRIO c, Reg.SWD_ARB_LIMIT c, Reg.PWR_MDW_STAT_STATE (meadowOf c)] ∧
        t.getF (Reg.SWD_ARB_PRIO c) = val % 16 ∧ t.getF (Reg.SWD_ARB_LIMIT c) = val / 16 % 1024 ∧ (t.port k).req = p.req ∧
        (c % 8 ∈ (t.port k).limited ↔ c % 8 ∈ p.req ∧ val / 16 % 1024 ≤ s.getF (Reg.SWD_ARB_WAIT c))) ∧
      (val / 16 % 1024 = 0 → Gives (.arbConfigWrite (0x300010 + 0x1000 * c) val) s fun t =>
        t.getF (Reg.SWD_ARB_LIMIT c) = s.getF (Reg.SWD_ARB_LIMIT c) ∧ t.drv.ports = s.drv.ports ∧ t.getF Reg.DRV_EVENT_CFG_REFUSED = 1 ∧
        t.getF Reg.DRV_RESULT_STATUS = 0x0104))

/-! ### Commands, graphs and completions (spec/10) -/

/-- Graph `g`, which was `gr`, has ended with the status `x`: its storage is free and its completion stands in its queue's ring, and output
was written only with a status of success. Where the host denies the output buffer the status is HOST_ACCESS_FAULT and nothing is written
(R20, R108, R120, R213, R219, R220). -/
def Claims.Ended (s t : State) (g : Nat) (gr : Graph) (x : Nat) : Prop :=
  let q := s.queue gr.qid
  let a := allotOf gr.qid
  let written : Prop := (x = 0 ∨ x = 1) ∧ gr.out ≠ [] ∧ s.denies a gr.desc.outAddr gr.desc.outLen = false
  let barred : Prop := (x = 0 ∨ x = 1) ∧ gr.out ≠ [] ∧ s.denies a gr.desc.outAddr gr.desc.outLen = true
  t.graph g = none ∧ (q.writable = true → (s.allot a).log.en = false → s.ideDrops = false →
    s.denies a (q.cqBase + 32 * q.cqTail) 32 = false →
    (∃ b, Out.completion gr.qid q.cqTail b (s.writeAttr a) ∈ t.outbox ∧ slice b 0 8 = le 8 gr.desc.tag ∧
      (barred → slice b 8 2 = le 2 0x0A02) ∧ (¬ barred → slice b 8 2 = le 2 x)) ∧
    (t.queue gr.qid).cqTail = (q.cqTail + 1) % q.depth ∧
    (written → Out.output gr.qid gr.desc.outAddr gr.out (s.writeAttr a) ∈ t.outbox) ∧
    ∀ j o b m, Out.output j o b m ∈ t.outbox →
      Out.output j o b m ∈ s.outbox ∨ (written ∧ j = gr.qid ∧ o = gr.desc.outAddr ∧ b = gr.out))

/-- Nothing waits for graphs to end: no meadow restart for the last cells of a role, no ABORT for what it aborted (R84, R211). -/
def Claims.NoWait (s : State) : Prop := (∀ m, m < 8 → s.restartWaits m = false) ∧ s.hif.aborts = []

/-- A completion of queue `qid` can be written now: the queue has its ring, its allotment logs no pages, no stream drops its traffic and the
host denies no page (R108, R119, R127, R142, R149). -/
def Claims.Plain (s : State) (qid : Nat) : Prop :=
  (s.queue qid).writable = true ∧ (s.allot (allotOf qid)).log.en = false ∧ s.ideDrops = false ∧ s.hif.atsDenied = []

/-- Slot `k` alone holds node `n` of graph `g`. -/
def Claims.OnlyIn (s : State) (g n k : Nat) : Prop :=
  ∀ x ∈ s.drv.slots, ∀ e, x.2 = some e → e.work = .node g n → x.1 = k

/-- An accepted descriptor starts a graph with its deadline, priority and epoch, its first nodes on ready lists; one that is not accepted
waits. NOP completes at once; ABORT ends every graph and waiting descriptor of its tag before their commit points, then completes
(R205, R209, R211, R213, R214, R217, R219). -/
def Obligations.AcceptanceStartsAGraph : Prop :=
  ∀ (s : State) (qid : Nat), s.live = true →
    let q := s.queue qid
    (q.waiting = [] → (Claims.NoWait s → Gives (.graphAccept qid) s fun t => t = s) ∧ (Gives (.nopCmd qid) s fun t => t = s) ∧
      ∀ input, Gives (.abortCmd qid input) s fun t => t = s) ∧
    ∀ w rest, q.waiting = w :: rest →
    let own (t : State) (x : Nat) : Prop := ∃ idx b m, Out.completion qid idx b m ∈ t.outbox ∧ slice b 0 8 = le 8 w.desc.tag ∧
      slice b 8 2 = le 2 x ∧ slice b 10 2 = [0, 0]
    (∀ e tpl, w.desc.opcode ≠ 0x01F0 → w.desc.opcode ≠ 0x01F1 → w.tpl.quorum = none → w.pend = none → s.accepts qid w.desc = true →
      s.chooseBank w.desc.opcode w.desc.template = some (e, tpl) → Claims.NoWait s →
      Gives (.graphAccept qid) s fun t => ∃ gr, t.graph s.drv.seqNo = some gr ∧ gr.qid = qid ∧ gr.desc = w.desc ∧ gr.tpl = tpl ∧
        gr.epoch = e ∧ gr.prio = min w.desc.prio tpl.maxPrio ∧ gr.tAcc = s.drv.tick ∧
        gr.deadline = s.drv.tick + (if w.desc.deadline = 0 then tpl.deadline else w.desc.deadline) ∧ gr.committed = false ∧
        gr.nodes.length = tpl.nodes.length ∧ t.drv.seqNo = s.drv.seqNo + 1 ∧
        t.queue qid = { q with waiting := rest, fenced := w.desc.fence } ∧ (∀ j, j ≠ qid → t.queue j = s.queue j) ∧
        t.outbox = s.outbox ∧ t.root = s.root ∧
        ∀ n, n < tpl.nodes.length →
          ((gr.tnode n).preds ≠ 0 → (gr.node n).phase = .waiting) ∧
          ((gr.tnode n).preds = 0 → ∃ d, d ≤ 1 ∧ (gr.node n).phase = .ready d ∧
            ((∀ k, (s.readyList k).length + tpl.nodes.length ≤ 2048) →
              ⟨gr.prio, .node s.drv.seqNo n, e, s.drv.tick⟩ ∈ t.readyList (readyKey d (gr.tnode n).role)))) ∧
    ((w.tpl.quorum = none ∨ w.pend ≠ none) → s.accepts qid w.desc = false →
      (Claims.NoWait s → Gives (.graphAccept qid) s fun t => t = s) ∧ (Gives (.nopCmd qid) s fun t => t = s) ∧
      ∀ input, Gives (.abortCmd qid input) s fun t => t = s) ∧
    (w.tpl.quorum ≠ none → w.pend = none → s.getF Reg.BAR_STATUS_ROOT_OPEN = 0 → Claims.NoWait s →
      Gives (.graphAccept qid) s fun t => t = s) ∧
    ((w.desc.opcode = 0x01F0 ∨ w.desc.opcode = 0x01F1) → Claims.NoWait s → Gives (.graphAccept qid) s fun t => t = s) ∧
    (w.desc.opcode ≠ 0x01F0 → Gives (.nopCmd qid) s fun t => t = s) ∧
    (w.desc.opcode ≠ 0x01F1 → ∀ input, Gives (.abortCmd qid input) s fun t => t = s) ∧
    (w.desc.opcode = 0x01F0 → s.accepts qid w.desc = true →
      Gives (.nopCmd qid) s fun t => t.drv.graphs = s.drv.graphs ∧ t.root = s.root ∧ (t.queue qid).waiting = rest ∧
        (∀ j, j ≠ qid → t.queue j = s.queue j) ∧
        (Claims.Plain s qid → own t 0 ∧ t.drv = s.drv ∧ t.regs = s.regs ∧ (t.queue qid).fetched = q.fetched - 1 ∧
          (t.queue qid).cqTail = (q.cqTail + 1) % q.depth)) ∧
    (w.desc.opcode = 0x01F1 → s.accepts qid w.desc = true → Claims.Plain s qid →
      (Gives (.abortCmd qid none) s fun t => own t 0x0A02) ∧
      ∀ b, (b.length ≠ 16 → Gives (.abortCmd qid (some b)) s fun t => own t 0x0103) ∧
        (b.length = 16 → byteAt b 8 < 8 → byteAt b 9 = 1 → isSteward qid = false → leAt b 12 4 = 0 →
          Gives (.abortCmd qid (some b)) s fun t => own t 0x0A01) ∧
        (b.length = 16 → (8 ≤ byteAt b 8 ∨ 2 ≤ byteAt b 9 ∨ leAt b 12 4 ≠ 0 ∨ (byteAt b 9 = 0 ∧ leAt b 10 2 ≠ 0) ∨
            (byteAt b 9 = 1 ∧ isSteward qid = true ∧ 2048 ≤ leAt b 10 2)) →
          Gives (.abortCmd qid (some b)) s fun t => own t 0x0104) ∧
        ∀ k, b.length = 16 → byteAt b 8 < 8 → leAt b 12 4 = 0 →
          ((byteAt b 9 = 0 ∧ leAt b 10 2 = 0 ∧ k = 8 * allotOf qid + byteAt b 8) ∨
            (byteAt b 9 = 1 ∧ isSteward qid = true ∧ leAt b 10 2 < 2048 ∧ k = 8 * leAt b 10 2 + byteAt b 8)) →
          wfM (fun _ => none) s.drv.graphs = true →
          (∀ g gr, s.graph g = some gr → gr.qid = k → gr.desc.tag = leAt b 0 8 → gr.pend = none) →
          (∀ x ∈ s.pends, x.2.aborting = false) → (s.allot (allotOf k)).log.en = false → (s.allot (allotOf k)).log.held = [] →
          Gives (.abortCmd qid (some b)) s fun t => own t 0 ∧ (∀ v ∈ (t.queue k).waiting, v.desc.tag ≠ leAt b 0 8) ∧
            ∀ g gr, s.graph g = some gr → gr.qid = k → gr.desc.tag = leAt b 0 8 → gr.committed = false → t.graph g = none)

/-- A dispatch agent places the first node that a cell can take; its input arrives or ends it; an operand of a stale epoch sends it back;
a completion readies the successors or ends the graph, and so do a failure, a disagreement of the copies and a passed deadline; at a
yield point a better node runs first (R175, R177, R178, R180, R181, R184, R213, R216, R221, R256, R257, R299). -/
def Obligations.NodesRunAndComplete : Prop :=
  ∀ s : State, s.live = true →
    (∀ die role, (s.nextEntry die role = none → Gives (.nodeDispatch die role) s fun t => t = s) ∧
      ∀ e c, s.nextEntry die role = some (e, c) →
        let k := if (s.slotOf c 0).isNone then 2 * c else 2 * c + 1
        let runs := (s.slot (otherSlot k)).isNone && s.sleepState (meadowOf c) == 0
        Gives (.nodeDispatch die role) s fun t => s.canTake (dieOf c) role e.epoch c = true ∧ (dieOf c = die ∨ dieOf c = 1 - die) ∧
          (∀ x ∈ s.readyList (readyKey die role), e.prio < x.prio → x.prio < 8 → s.chooseCell die role x.epoch (match x.work with
            | .node h _ => (s.graph h).bind (fun y => y.lastCell)
            | _ => none) = none) ∧
          (s.overflow (readyKey die role) = [] → t.readyList (readyKey die role) = (s.readyList (readyKey die role)).erase e) ∧
          (∃ x, t.slot k = some x ∧ x.work = e.work ∧ x.mode = (if runs then .running else .prefetched) ∧ x.prio = e.prio ∧
            x.roleEpoch = s.roleEpoch c ∧ x.baleEpoch = e.epoch) ∧
          (s.sleepState (meadowOf c) = 2 → t.sleepState (meadowOf c) = 5) ∧
          ∀ g n gr, e.work = .node g n → s.graph g = some gr → n < gr.nodes.length →
            ∃ gr', t.graph g = some gr' ∧ (gr'.node n).phase = .placed k ∧ (gr'.node n).cell = c ∧
              (runs = true → (gr'.node n).ran = some c ∧ gr'.lastCell = some (c, s.roleEpoch c)) ∧
              (t.slot k).map (fun x => x.short) = some (gr.tnode n).short ∧
              ∀ j, j < gr.nodes.length → bit (gr.tnode n).preds j = true → ⟨g, j, n, c, s.roleEpoch c, e.epoch⟩ ∈ t.drv.msgs) ∧
    (Claims.NoWait s → ∀ g gr, s.graph g = some gr →
      (gr.input = none → gr.committed = false → s.hasRunning g = true → ∀ b,
        let denied := s.denies (allotOf gr.qid) gr.desc.inAddr gr.desc.inLen
        (denied = false → b.length = gr.desc.inLen →
          Gives (.hostBufferReadComplete g (some b)) s fun t => t = s.setGraph g (some { gr with input := some b })) ∧
        (denied = false → b.length ≠ gr.desc.inLen → Gives (.hostBufferReadComplete g (some b)) s fun t => Claims.Ended s t g gr 0x0103) ∧
        (denied = true → Gives (.hostBufferReadComplete g (some b)) s fun t => Claims.Ended s t g gr 0x0A02) ∧
        Gives (.hostBufferReadComplete g none) s fun t => Claims.Ended s t g gr 0x0A02) ∧
      ((gr.input ≠ none ∨ gr.committed = true ∨ s.hasRunning g = false) → ∀ x, Gives (.hostBufferReadComplete g x) s fun t => t = s) ∧
      (∀ n pos, s.openNode g = some n → pos < 3 →
        (gr.unresolved pos = true → s.keyWait gr = false → gr.committed = false →
          let o := s.judgeHandle gr.qid (gr.tnode n).role gr.desc.opcode (gr.desc.handle pos)
          Gives (.keyResolve g pos) s fun t => t.graph g = some { gr with keys := gr.keys.set pos (some o) } ∧ t.root = s.root ∧
            t.queues = s.queues) ∧
        (s.keyWait gr = true → Gives (.keyResolve g pos) s fun t => t = s)) ∧
      (∀ n k, s.nodeSlot g n = some k → n < gr.nodes.length → s.withheld g = false → (s.drv.tick ≤ gr.deadline ∨ gr.committed = true) →
        ∀ fault : Option CellUnit,
          (fault = none ∨ s.runningSlot (k / 2) ≠ some k ∨ (gr.committed = true ∧ (s.slot k).map (fun e => e.work) = some (.node g n) ∧
            s.getF (Reg.SWD_CELL_FAULT_MISMATCH_1S (k / 2)) < 15 ∧ k / 2 < 256)) →
        let ended := if n < gr.tpl.nodes.length || gr.pend.isSome then (gr.node n).verdict else some 0
        (ended = none → (fault = none ∨ s.runningSlot (k / 2) ≠ some k) → Gives (.nodeComplete g n fault) s fun t => t = s) ∧
        (∀ v, ended = some v → v ≠ 0 → v ≠ 1 → Gives (.nodeComplete g n fault) s fun t => Claims.Ended s t g gr v) ∧
        (∀ v, ended = some v → (v = 0 ∨ v = 1) →
          (n = gr.sink → (v = 1 ∨ ∃ j, j < gr.nodes.length ∧ j ≠ n ∧ (gr.node j).status = some 1) →
            Gives (.nodeComplete g n fault) s fun t => Claims.Ended s t g gr 1) ∧
          (n = gr.sink → v = 0 → (∀ j, j < gr.nodes.length → j ≠ n → (gr.node j).status ≠ some 1) →
            Gives (.nodeComplete g n fault) s fun t => Claims.Ended s t g gr 0) ∧
          (n ≠ gr.sink → Claims.OnlyIn s g n k → Gives (.nodeComplete g n fault) s fun t =>
            t.queues = s.queues ∧ t.root = s.root ∧
            (∀ j i b m, Out.completion j i b m ∈ t.outbox → Out.completion j i b m ∈ s.outbox) ∧
            ∃ gr', t.graph g = some gr' ∧ (gr'.node n).phase = .done ∧ (gr'.node n).status = some v ∧
              ∀ j, j < gr.nodes.length → j ≠ n → (gr.node j).phase = .waiting → bit (gr.tnode j).preds n = true →
                (∀ i, i < gr.nodes.length → bit (gr.tnode j).preds i = true → i = n ∨ (gr.node i).phase = .done) →
                (gr'.node j).phase ≠ .waiting ∧
                  ((∀ l, (s.readyList l).length + gr.nodes.length ≤ 2048) →
                    ∃ d, ⟨gr.prio, .node g j, gr.epoch, s.drv.tick⟩ ∈ t.readyList (readyKey d (gr.tnode j).role))))) ∧
      (∀ n fault, (s.nodeSlot g n = none ∨ s.withheld g = true) → Gives (.nodeComplete g n fault) s fun t => t = s) ∧
      (∀ n k e u, s.nodeSlot g n = some k → s.withheld g = false → gr.committed = false → s.drv.tick ≤ gr.deadline →
        s.runningSlot (k / 2) = some k → s.slot k = some e → e.work = .node g n → k / 2 < 256 →
        getC 0 s.drv.stopped (k / 2) ≠ s.drv.tick + 1 →
        ∀ i ∈ [Instr.nodeComplete g n (some u), .yieldPoint (k / 2) (some u)],
          (s.getF (Reg.SWD_CELL_FAULT_MISMATCH_1S (k / 2)) < 15 → Gives i s fun t => Claims.Ended s t g gr 0x0801 ∧
            t.getF (Reg.SWD_CELL_FAULT_MISMATCH_1S (k / 2)) = s.getF (Reg.SWD_CELL_FAULT_MISMATCH_1S (k / 2)) + 1 ∧
            t.getF (Reg.SWD_CELL_FAULT_MISMATCH_TOTAL (k / 2)) = min (s.getF (Reg.SWD_CELL_FAULT_MISMATCH_TOTAL (k / 2)) + 1) 0xFFFF ∧
            t.alarmed 22 = true ∧ getC 0 t.drv.winOpen (k / 2) ≠ 0) ∧
          (s.getF (Reg.SWD_CELL_FAULT_MISMATCH_1S (k / 2)) = 15 → Gives i s fun t => t.graph g = none ∧ t.cellState (k / 2) = 3 ∧
            t.cellRole (k / 2) = 0 ∧ t.getF (Reg.SWD_CELL_STAT_FALLOW_CAUSE (k / 2)) = 2 ∧ t.getF Reg.DRV_EVENT_FAULT_FALLOW = 1)) ∧
      (gr.deadline < s.drv.tick → gr.committed = false →
        let al := (s.allot (allotOf gr.qid)).st
        ∀ i, (i = .deadlineExpire g ∨ ∃ n k fault, s.nodeSlot g n = some k ∧ s.withheld g = false ∧ i = .nodeComplete g n fault) →
          ((al = .quiescing ∨ al = .pendingEnable) → Gives i s fun t => Claims.Ended s t g gr 0x0702) ∧
          (al ≠ .quiescing → al ≠ .pendingEnable → Gives i s fun t => Claims.Ended s t g gr 0x0703)) ∧
      ((s.drv.tick ≤ gr.deadline ∨ gr.committed = true) → Gives (.deadlineExpire g) s fun t => t = s)) ∧
    (∀ g src dst data, let sent := s.drv.msgs.find? (fun x => x.g == g && x.src == src && x.dst == dst)
      let kept := s.drv.copies.find? (fun y => y.g == g && y.src == src && y.dst == dst)
      (sent = none → Gives (.operandTransfer g src dst data) s fun t => t = s) ∧
      ∀ x gr, sent = some x → s.graph g = some gr →
        (x.roleEpoch = s.roleEpoch x.cell → x.baleEpoch = s.cellEpoch x.cell → Gives (.operandTransfer g src dst data) s fun t =>
          t.drv.slots = s.drv.slots ∧ t.drv.graphs = s.drv.graphs ∧ t.drv.msgs = s.drv.msgs.erase x ∧
          (kept = none → t.drv.copies = s.drv.copies ++ [⟨dieOf (gr.node src).cell, g, src, dst, data⟩] ∧
            getC [] t.drv.oram x.cell = getC [] s.drv.oram x.cell ++ [(g, dst, data)]) ∧
          ∀ y, kept = some y → t.drv.copies = s.drv.copies ∧
            getC [] t.drv.oram x.cell = getC [] s.drv.oram x.cell ++ [(g, dst, y.data)]) ∧
        (∀ k e, (x.roleEpoch ≠ s.roleEpoch x.cell ∨ x.baleEpoch ≠ s.cellEpoch x.cell) → s.nodeSlot g dst = some k → k / 2 = x.cell →
          s.slot k = some e → e.work = .node g dst → e.roleEpoch = x.roleEpoch → e.baleEpoch = x.baleEpoch → Claims.OnlyIn s g dst k →
          gr.committed = false → s.roleFits (gr.tnode dst).role = true → dst < gr.nodes.length →
          (∀ l, (s.readyList l).length < 2048) →
          Gives (.operandTransfer g src dst data) s fun t =>
            t.getF Reg.DRV_STALE_EPOCH_COUNT = min (s.getF Reg.DRV_STALE_EPOCH_COUNT + 1) 0xFFFFFFFF ∧
            ∃ gr' d r rest, t.graph g = some gr' ∧ (gr'.node dst).phase = .ready d ∧
              t.readyList (readyKey d (gr.tnode dst).role) = r :: rest ∧ r.work = .node g dst)) ∧
    (Claims.NoWait s → ∀ c, (s.runningSlot c = none → Gives (.yieldPoint c none) s fun t => t = s) ∧
      ∀ k e, s.runningSlot c = some k → s.slot k = some e →
      (∀ g n gr, e.work = .node g n → s.graph g = some gr → n < gr.tpl.nodes.length →
        (s.yields e.work = true ↔ gr.desc.opcode ∉ [0x0703, 0x0801, 0x0802, 0x0803, 0x0812])) ∧
      (∀ o, s.slot (otherSlot k) = some o → o.mode = .prefetched → s.yields e.work = true →
        (e.prio < o.prio ∨ (e.prio = o.prio ∧ o.short = true)) →
        Gives (.yieldPoint c none) s fun t => t.slot k = some { e with mode := .yielded, ctx := s.units c } ∧
          t.slot (otherSlot k) = some { o with mode := .running, ctx := {} } ∧ t.units c = {} ∧ t.queues = s.queues ∧ t.regs = s.regs) ∧
      ((∀ o, s.slot (otherSlot k) = some o → o.mode ≠ .prefetched ∨ s.yields e.work = false ∨ o.prio < e.prio ∨
          (e.prio = o.prio ∧ o.short = false)) →
        Gives (.yieldPoint c none) s fun t => t = s)) ∧
    (∀ g id,
      (∀ us, s.adminRuns g = true → Gives (.adminFirmwareTimer g id (some us)) s fun t => t.drv.slots = s.drv.slots ∧
        (∀ x ∈ t.drv.timers, x.owner = .firmware g id → x.due = s.drv.tick + us ∧ x.list = 7) ∧
        (s.drv.timers.length < sharedTimers → ∃ x ∈ t.drv.timers, x.owner = .firmware g id)) ∧
      (∀ us, s.adminRuns g = false → Gives (.adminFirmwareTimer g id (some us)) s fun t => t = s) ∧
      (s.isDue (.firmware g id) = true → Gives (.adminFirmwareTimer g id none) s fun t =>
        t = { s with drv := { s.drv with timers := s.drv.timers.filter (fun x => x.owner != .firmware g id) } }) ∧
      (s.isDue (.firmware g id) = false → Gives (.adminFirmwareTimer g id none) s fun t => t = s))

/-! ### Payment functions (spec/11) -/

/-- The key has a mode, the usage and a type that a command requires (R227). -/
def Claims.Fits (k : KeySnap) (modes : List Char) (use : Bytes) (types : List Nat) : Prop :=
  (∃ c ∈ modes, c.toNat = attrMode k.attr) ∧ attrUsage k.attr = use ∧ k.ktype ∈ types

/-- The PIN commands on well-formed input: a translation gives the PIN under the other key in the output format unless the matrix or the
policy refuses the pair; a verification succeeds exactly where offset or PVV agree, and a generation gives them; a block that fails its
check ends a translation with BAD_OPERAND and a verification with VERIFY_FAILED, recorded; a repeated handle and an unregistered table
are refused (R226, R227, R232 to R237, R243, R244). -/
def Obligations.PinCommands : Prop :=
  ∀ (s s1 : State) (g n : Nat) (gr gr1 : Graph) (k0 k1 : KeySnap), s.resolveAll gr n = (gr1, s1) → gr1.key 0 = .key k0 →
    gr1.key 1 = .key k1 →
    let b := gr.inp
    let a := allotOf gr.qid
    let f := byteAt b 0
    let v := byteAt b 1
    let blk := slice b 24 16
    let translated (c : Instr) (op i o : Nat) (key : Bytes) (pan : List Nat) (x : Bytes) : Prop :=
      let pin := checkPin i (s1.pinMin a) (pinField i key pan x)
      let room := (if o = 4 then 16 else 8) ≤ gr.desc.outLen
      (¬ room → Ends c s g n gr 0x0102 s) ∧
      (room → (o = 1 ∧ i ≠ 1) ∨ s1.narrowed a (.noPair i o) = true → Ends c s g n gr1 0x0105 s1) ∧
      (room → s1.pairBarred a i o = false → pin = none → Ends c s g n gr1 0x0104 (s1.post 0x3010 a op 0)) ∧
      (∀ p, room → s1.pairBarred a i o = false → pin = some p →
        (o = 0 → Commits c s g n gr1 (buildPin 0 k1.key pan p []) s1) ∧
        (o ≠ 0 → ∀ rnd u, gr1.drawn = [] → s1.draw (s1.clientOf gr1) (pinDraw o) = some (rnd, u) →
          Commits c s g n gr1 (buildPin o k1.key pan p rnd) u))
    let method (c : Instr) (op bad : Nat) (pan : List Nat) (good : List Nat → Prop) : Prop :=
      let pin := checkPin f (s1.pinMin a) (pinField f k0.key pan blk)
      (pin = none → Ends c s g n gr1 bad (s1.post 0x3010 a op 0)) ∧ ∀ p, pin = some p → good p
    (∀ pan, AtSink s 0x0201 g gr n → b.length = 40 → pinFormat f = true → pinFormat v = true → leAt b 2 2 = 0 → pinBlockOk f blk = true →
      panFor f v (panOf (slice b 4 20)) = some pan → Claims.Fits k0 ['D', 'B'] (usage2 'P' '0') (if f = 4 then [3, 4, 5] else [1, 2]) →
      Claims.Fits k1 ['E', 'B'] (usage2 'P' '0') (if v = 4 then [3, 4, 5] else [1, 2]) →
      translated (.pinTranslate g) 0x0201 f v k0.key pan blk) ∧
    (∀ pan, AtSink s 0x0501 g gr n → b.length = 52 → gr.repeats = false → dukptHead b = true →
      (byteAt b 2 = 0 ∨ byteAt b 2 = 1 ∨ byteAt b 2 = 3 ∨ byteAt b 2 = 4) → pinFormat (byteAt b 3) = true → (byteAt b 2 = 4 ↔ 2 ≤ v) →
      pinBlockOk (byteAt b 2) (slice b 36 16) = true → panFor (byteAt b 2) (byteAt b 3) (panOf (slice b 16 20)) = some pan →
      Claims.Fits k0 ['X'] (usage2 'B' '0') (if f = 2 then [1] else [3, 4, 5]) → (f = 1 → v + 1 ≤ k0.ktype) →
      Claims.Fits k1 ['E', 'B'] (usage2 'P' '0') (if byteAt b 3 = 4 then [3, 4, 5] else [1, 2]) →
      translated (.dukptPinTranslate g) 0x0501 (byteAt b 2) (byteAt b 3) (workKey f v 1 (slice b 4 12) k0.key) pan (slice b 36 16)) ∧
    (∀ pan c op, ((op = 0x0202 ∧ c = .pinVerifyOffset g ∧ b.length = 76) ∨ (op = 0x0203 ∧ c = .pinGenerateOffset g ∧ b.length = 64)) →
      AtSink s op g gr n → (gr.repeats = true → Ends c s g n gr 0x0104 s) ∧
      (gr.repeats = false → pinFormat f = true → 4 ≤ v → v ≤ 12 → leAt b 2 2 = 0 → pinBlockOk f blk = true →
        (slice b 40 16).all isDigit = true → panOne f false (panOf (slice b 4 20)) = some pan →
        Claims.Fits k0 ['D', 'B'] (usage2 'P' '0') (if f = 4 then [3, 4, 5] else [1, 2]) →
        let nat := naturalPin k1.key (slice b 40 16) (slice b 56 8) v
        let reg : Prop := s1.lc.st = 2 → (s1.dectabs a).contains (slice b 40 16) = true
        (op = 0x0202 → (slice b 64 v).all isDigit = true → allZero (slice b (64 + v) (12 - v)) = true →
          Claims.Fits k1 ['V', 'C'] (usage2 'V' '1') [1] →
          (s1.lc.st = 2 → (s1.dectabs a).contains (slice b 40 16) = false → Ends c s g n gr1 0x0105 s1) ∧
          (reg → method c op 0x0301 pan fun p => (p.length < v → Ends c s g n gr1 0x0301 s1) ∧ (v ≤ p.length →
            let same : Prop := ∀ i, i < v → ((nat[i]?).getD 0 + digitOf ((b[64 + i]?).getD 0)) % 10 = (p[i]?).getD 0
            (same → Commits c s g n gr1 [] s1) ∧ (¬same → Ends c s g n gr1 0x0301 s1)))) ∧
        (op = 0x0203 → Claims.Fits k1 ['G', 'C'] (usage2 'V' '1') [1] → 12 ≤ gr.desc.outLen → reg →
          method c op 0x0104 pan fun p => (p.length < v → Ends c s g n gr1 0x0104 s1) ∧ (v ≤ p.length → ∃ out,
            Commits c s g n gr1 out s1 ∧ out.length = 12 ∧ allZero (out.drop v) = true ∧
            ∀ i, i < v → out[i]? = some (digitByte (((p[i]?).getD 0 + 10 - (nat[i]?).getD 0) % 10)))))) ∧
    (∀ pan c op, ((op = 0x0204 ∧ c = .pinVerifyPvv g ∧ b.length = 44) ∨ (op = 0x0205 ∧ c = .pinGeneratePvv g ∧ b.length = 40)) →
      AtSink s op g gr n → gr.repeats = false → pinFormat f = true → v ≤ 9 → leAt b 2 2 = 0 → pinBlockOk f blk = true →
        panOne f true (panOf (slice b 4 20)) = some pan →
        Claims.Fits k0 ['D', 'B'] (usage2 'P' '0') (if f = 4 then [3, 4, 5] else [1, 2]) →
        let tsp (p : List Nat) : Bytes := pack (pan11 pan ++ [v] ++ p.take 4)
        let pvv (p : List Nat) : List Nat := (decimalise (encB 0 k1.key (tsp p))).take 4
        (op = 0x0204 → (slice b 40 4).all isDigit = true → Claims.Fits k1 ['V', 'C'] (usage2 'V' '2') [1] →
          method c op 0x0301 pan fun p => (pvv p = (slice b 40 4).map digitOf → Commits c s g n gr1 [] s1) ∧
            (pvv p ≠ (slice b 40 4).map digitOf → Ends c s g n gr1 0x0301 s1)) ∧
        (op = 0x0205 → Claims.Fits k1 ['G', 'C'] (usage2 'V' '2') [1] → 4 ≤ gr.desc.outLen →
          method c op 0x0104 pan fun p => Commits c s g n gr1 (asciiDigits (pvv p)) s1))

/-- The MAC, card and EMV commands on well-formed input: a MAC is the leftmost bytes of the full result, verified in full; a card
verification value is made of the two key halves; a cryptogram is compared and only then answered; a key of another usage or mode is
refused, and one that does not resolve ends with its own status (R226, R227, R238 to R242, R244). -/
def Obligations.MacCardAndEmvCommands : Prop :=
  ∀ (s s1 : State) (g n : Nat) (gr gr1 : Graph) (k0 : KeySnap), s.resolveAll gr n = (gr1, s1) → gr1.key 0 = .key k0 →
    let b := gr.inp
    let a := allotOf gr.qid
    let judged (c : Instr) (ok : Prop) (out : Bytes) : Prop := (ok → Commits c s g n gr1 out s1) ∧ (¬ok → Ends c s g n gr1 0x0301 s1)
    let x := byteAt b 0
    let m := byteAt b 1
    let coded (x m : Nat) : Prop := 1 ≤ x ∧ x ≤ 5 ∧ 4 ≤ m ∧ m ≤ (if x = 5 then 16 else 8)
    let fitsMac (k : KeySnap) (x m : Nat) (modes : List Char) : Prop :=
      Claims.Fits k modes (usage2 'M' (if x ≤ 2 then '1' else if x ≤ 4 then '3' else '6'))
        (if x ≤ 2 then [1, 2] else if x ≤ 4 then [1] else [1, 2, 3, 4, 5]) ∧ (x = 5 → k.ktype ≤ 2 → m ≤ 8)
    (AtSink s 0x0301 g gr n → 4 ≤ b.length → b.length ≤ 4194308 → coded x m → leAt b 2 2 = 0 →
      (gr.desc.outLen < m → Ends (.macGenerate g) s g n gr 0x0102 s) ∧
      (m ≤ gr.desc.outLen → fitsMac k0 x m ['G', 'C'] →
        (s1.macBarred a m = true → Ends (.macGenerate g) s g n gr1 0x0105 s1) ∧
        (s1.macBarred a m = false → Commits (.macGenerate g) s g n gr1 ((macOf x k0.ktype k0.key (b.drop 4)).take m) s1)) ∧
      (m ≤ gr.desc.outLen → (∀ c ∈ ['G', 'C'], c.toNat ≠ attrMode k0.attr) → Ends (.macGenerate g) s g n gr1 0x0203 s1) ∧
      (m ≤ gr.desc.outLen → (∃ c ∈ ['G', 'C'], c.toNat = attrMode k0.attr) → attrUsage k0.attr ≠ macUse x →
        Ends (.macGenerate g) s g n gr1 0x0204 s1)) ∧
    (AtSink s 0x0302 g gr n → 20 ≤ b.length → b.length ≤ 4194324 → coded x m → leAt b 2 2 = 0 →
      allZero (slice b (4 + m) (16 - m)) = true → fitsMac k0 x m ['V', 'C'] → s1.macBarred a m = false →
      judged (.macVerify g) ((macOf x k0.ktype k0.key (b.drop 20)).take m = slice b 4 m) []) ∧
    (∀ k1, gr1.key 1 = .key k1 → AtSink s 0x0303 g gr n → 20 ≤ b.length → b.length ≤ 4194324 → coded x m →
      coded (byteAt b 2) (byteAt b 3) → allZero (slice b (4 + m) (16 - m)) = true → byteAt b 3 ≤ gr.desc.outLen →
      fitsMac k0 x m ['V', 'C'] → fitsMac k1 (byteAt b 2) (byteAt b 3) ['G', 'C'] → s1.macBarred a m = false →
      s1.macBarred a (byteAt b 3) = false →
      judged (.macTranslate g) ((macOf x k0.ktype k0.key (b.drop 20)).take m = slice b 4 m)
        ((macOf (byteAt b 2) k1.ktype k1.key (b.drop 20)).take (byteAt b 3))) ∧
    (∀ pan, AtSink s 0x0401 g gr n → b.length = 28 → panOf (b.take 20) = some pan → pan ≠ [] → (slice b 20 7).all isDigit = true →
      byteAt b 27 = 0 → Claims.Fits k0 ['G', 'C'] (usage2 'C' '0') [1] → 3 ≤ gr.desc.outLen →
      Commits (.cvvGenerate g) s g n gr1 (asciiDigits (cvvOf k0.key pan (slice b 20 4) (slice b 24 3))) s1) ∧
    (∀ pan, AtSink s 0x0402 g gr n → b.length = 32 → panOf (b.take 20) = some pan → pan ≠ [] → (slice b 20 7).all isDigit = true →
      byteAt b 27 = 0 → (slice b 28 3).all isDigit = true → byteAt b 31 = 0 → Claims.Fits k0 ['V', 'C'] (usage2 'C' '0') [1] →
      judged (.cvvVerify g) (cvvOf k0.key pan (slice b 20 4) (slice b 24 3) = (slice b 28 3).map digitOf) []) ∧
    (∀ pan arpc, let op := if arpc then 0x0411 else 0x0410
      let c : Instr := if arpc then .arqcVerifyArpc g else .arqcVerify g
      AtSink s op g gr n → 52 ≤ b.length → b.length ≤ 1076 → panOf (slice b 4 20) = some pan → pan ≠ [] → emvHead b arpc = true →
      (arpc = true → (if byteAt b 36 = 1 then 8 else 4) ≤ gr.desc.outLen) →
      Claims.Fits k0 ['X'] (usage2 'E' '0') (if x = 1 then [1] else [3, 4, 5]) →
      let key := emvKey b k0.key pan
      let arqc := slice b 28 8
      judged c ((if x = 1 then mac3 (byteAt b 2) key (b.drop 52) else (cmac 1 key (b.drop 52)).take 8) = arqc)
        (if arpc then arpcOf b key else [])) ∧
    (AtSink s 0x0502 g gr n → 32 ≤ b.length → b.length ≤ 4194336 → gr.repeats = false → dukptHead b = true →
      ((2 ≤ m ∧ byteAt b 2 = 5) ∨ (m < 2 ∧ (byteAt b 2 = 3 ∨ byteAt b 2 = 4))) → coded (byteAt b 2) (byteAt b 3) →
      allZero (slice b (16 + byteAt b 3) (16 - byteAt b 3)) = true →
      Claims.Fits k0 ['X'] (usage2 'B' '0') (if x = 2 then [1] else [3, 4, 5]) → (x = 1 → m + 1 ≤ k0.ktype) →
      s1.macBarred a (byteAt b 3) = false →
      judged (.dukptMacVerify g) ((macOf (byteAt b 2) (m + 1) (workKey x m 2 (slice b 4 12) k0.key) (b.drop 32)).take (byteAt b 3) =
        slice b 16 (byteAt b 3)) []) ∧
    (AtSink s 0x0503 g gr n → 32 ≤ b.length → b.length ≤ 4194336 → gr.repeats = false → dukptHead b = true → byteAt b 3 = 0 →
      let alg := if 2 ≤ m then 1 else 0
      let blk := if 2 ≤ m then 16 else 8
      let data := b.drop 32
      ((byteAt b 2 = 1 ∧ allZero (slice b (16 + blk) (16 - blk)) = true) ∨ (byteAt b 2 = 2 ∧ allZero (slice b 16 16) = true)) →
      (data.length % blk ≠ 0 → Ends (.dukptDataDecrypt g) s g n gr 0x0102 s) ∧
      (data.length % blk = 0 → data.length ≤ gr.desc.outLen →
        Claims.Fits k0 ['X'] (usage2 'B' '0') [1, 2, 3, 4, 5] →
        ((x = 2 ∧ k0.ktype ≠ 1) ∨ (x = 1 ∧ (k0.ktype < 3 ∨ k0.ktype < m + 1)) → Ends (.dukptDataDecrypt g) s g n gr1 0x0204 s1) ∧
        ((x = 2 ∧ k0.ktype = 1) ∨ (x = 1 ∧ 3 ≤ k0.ktype ∧ m + 1 ≤ k0.ktype) →
          let key := workKey x m 3 (slice b 4 12) k0.key
          Commits (.dukptDataDecrypt g) s g n gr1 (if byteAt b 2 = 1 then cbcDec alg key (slice b 16 blk) data else ecbDec alg key data) s1)))

/-- Key blocks on well-formed input: an import opens a block whose check values agree and makes a key with the header's attributes in the
tier its usage gives, or ends with what fails first; an export and an initial key are written only under a key as strong, for an
exportable key, and only narrowed (R245 to R251). -/
def Obligations.KeyBlockCommands : Prop :=
  ∀ (s s1 : State) (g n : Nat) (gr gr1 : Graph) (k0 : KeySnap), s.resolveAll gr n = (gr1, s1) → gr1.key 0 = .key k0 →
    let b := gr.inp
    let a := allotOf gr.qid
    (∀ p, AtSink s 0x0601 g gr n → 20 ≤ b.length → b.length ≤ 9996 → leAt b 1 3 = 0 → parseBlock (byteAt b 0) (b.drop 4) = .inr p →
      Claims.Fits k0 ['D', 'B'] (usage2 'K' '1') (kbTypes p.form) → 16 ≤ gr.desc.outLen →
      (∀ c, p.opt 'K' 'P' = some c → c ≠ checkContent k0 → Ends (.kbImport g) s g n gr1 0x0301 s1) ∧
      ((∀ c, p.opt 'K' 'P' = some c → c = checkContent k0) →
        (Config.kbOpen p.form k0.key p.head p.body = none →
          Ends (.kbImport g) s g n gr1 0x0301 (s1.post 0x3011 a 0x0601 0)) ∧
        (∀ data, Config.kbOpen p.form k0.key p.head p.body = some data →
          let bits := beNat (data.take 2)
          let key := slice data 2 (bits / 8)
          let t := importType p.h.use p.h.alg (bits / 8) s1.free.1
          let alg := if p.h.alg = 0x30 then 0 else p.h.alg
          (t = none ∨ bits % 8 ≠ 0 ∨ key.length ≠ bits / 8 → Ends (.kbImport g) s g n gr1 0x0104 s1.free.2) ∧
          (∀ ty, t = some ty → bits % 8 = 0 → key.length = bits / 8 →
            (ty ≤ 5 → ∀ c, p.opt 'K' 'C' = some c → c ≠ checkContent ⟨0, 0, ty, key, [], []⟩ →
              Ends (.kbImport g) s g n gr1 0x0301 s1.free.2) ∧
            ((ty ≤ 5 → ∀ c, p.opt 'K' 'C' = some c → c = checkContent ⟨0, 0, ty, key, [], []⟩) →
              (tr31Ok p.h.use alg p.h.mode = false ∨ typeSuits p.h.use ty = false ∨ 64 < p.kept.length →
                Ends (.kbImport g) s g n gr1 0x0104 s1.free.2) ∧
              (tr31Ok p.h.use alg p.h.mode = true → typeSuits p.h.use ty = true → p.kept.length ≤ 64 →
                (s1.narrowed a (.noImport p.h.use) = true → Ends (.kbImport g) s g n gr1 0x0105 s1.free.2) ∧
                (s1.narrowed a (.noImport p.h.use) = false →
                  let kbits := if ty = 0x20 then 16 * (key.length / 5) else bits
                  let attr := s1.mkAttr (isSteward gr.qid) p.h.use alg p.h.mode p.h.exp p.h.kvn ty kbits 0
                  let made := s1.free.2.makeKey gr.qid (tierFor (isSteward gr.qid) (isKek p.h.use)) ty attr key p.kept (s1.worldParent gr.qid)
                  (made.1 = none → Ends (.kbImport g) s g n gr1 0x0B01 made.2) ∧
                  (∀ h, made.1 = some h → p.h.use.length = 2 → p.h.kvn.length = 2 → Commits (.kbImport g) s g n gr1
                    (le 8 h ++ p.h.use ++ [BitVec.ofNat 8 p.h.alg] ++ le 1 p.h.mode ++ le 1 p.h.exp ++ p.h.kvn ++ [0]) made.2)))))))) ∧
    (∀ k1 form opts o, gr1.key 1 = .key k1 → AtSink s 0x0602 g gr n → 8 ≤ b.length → b.length ≤ 520 → gr.repeats = false → leAt b 6 2 = 0 →
      (byteAt b 0 = 2 → byteAt b 1 = 0) → ∀ ver, ver = (if byteAt b 0 = 2 then letter 'E' else byteAt b 1) →
      kbForm (byteAt b 0) ver = some form → givenOpts (b.drop 8) = some (opts, o) →
      let named : Prop := modeForm (byteAt b 2) = true ∧ (byteAt b 3 = 0 ∨ byteAt b 3 = letter 'E' ∨ byteAt b 3 = letter 'S' ∨ byteAt b 3 = letter 'N') ∧
        ∀ x ∈ slice b 4 2, 0x20 ≤ x.toNat ∧ x.toNat ≤ 0x7E
      (¬ named → Ends (.kbExport g) s g n gr 0x0104 s) ∧ (named →
      Claims.Fits k0 ['E', 'B'] (usage2 'K' '1') (kbTypes form) →
      let mode := if byteAt b 2 = 0 then attrMode k1.attr else byteAt b 2
      let ex := if byteAt b 3 = 0 then attrExport k1.attr else byteAt b 3
      let exportable : Prop := attrExport k1.attr = letter 'E' ∨ attrExport k1.attr = letter 'S'
      let strong : Prop := 5 < k1.ktype ∨ k1.ktype ≤ k0.ktype
      let fewOpts : Prop := (kbOpts form opts o k1 (zeros 32)).2 ≤ 99
      let open_ : Prop := narrowsMode (attrMode k1.attr) mode = true ∧ narrowsExport (attrExport k1.attr) ex = true ∧
        s1.narrowed a (.noExport (attrUsage k1.attr)) = false
      (¬exportable → Ends (.kbExport g) s g n gr1 0x0203 s1) ∧
      (exportable → ¬strong → Ends (.kbExport g) s g n gr1 0x0204 s1) ∧
      (exportable → strong → ¬ fewOpts → Ends (.kbExport g) s g n gr1 0x0104 s1) ∧
      (exportable → strong → fewOpts → gr.desc.outLen < keyBlockLen form opts k1 → Ends (.kbExport g) s g n gr1 0x0102 s1) ∧
      (exportable → strong → fewOpts → keyBlockLen form opts k1 ≤ gr.desc.outLen → ¬open_ → Ends (.kbExport g) s g n gr1 0x0105 s1) ∧
      (exportable → strong → fewOpts → keyBlockLen form opts k1 ≤ gr.desc.outLen → open_ → ∀ rnd u, gr1.drawn = [] →
        s1.draw (s1.clientOf gr1) 48 = some (rnd, u) → Commits (.kbExport g) s g n gr1
          (keyBlock form ver k0.key ⟨attrUsage k1.attr, attrAlg k1.attr, mode, slice b 4 2, ex⟩ opts o k1 rnd) u))) ∧
    (∀ k1 form, gr1.key 1 = .key k1 → AtSink s 0x0504 g gr n → b.length = 16 → gr.repeats = false → byteAt b 3 = 0 →
      (byteAt b 1 = 2 → byteAt b 2 = 0) → ∀ ver, ver = (if byteAt b 1 = 2 then letter 'E' else byteAt b 2) →
      kbForm (byteAt b 1) ver = some form →
      ((byteAt b 0 = 1 ∧ allZero (slice b 12 4) = true) ∨
        (byteAt b 0 = 2 ∧ allZero (slice b 14 2) = true ∧ beNat (slice b 11 3) % 2 ^ 21 = 0)) →
      Claims.Fits k0 ['X'] (usage2 'B' '0') (if byteAt b 0 = 1 then [3, 4, 5] else [1]) →
      Claims.Fits k1 ['E', 'B'] (usage2 'K' '1') (kbTypes form) →
      let id := slice b 4 (if byteAt b 0 = 1 then 8 else 10)
      let ik : KeySnap := { k0 with key := fit k0.key.length (Config.derive 21 [le 1 (byteAt b 0), id, k0.key]), tier := 0x01, opt := [] }
      let opts := optBlock (usage2 (if byteAt b 0 = 1 then 'I' else 'K') (if byteAt b 0 = 1 then 'K' else 'S')) (hexOf id)
      (k1.ktype < k0.ktype → Ends (.dukptInitialKey g) s g n gr1 0x0204 s1) ∧
      (k0.ktype ≤ k1.ktype → keyBlockLen form opts ik ≤ gr.desc.outLen → s1.narrowed a (.noExport (usage2 'B' '1')) = false →
        ∀ rnd u, gr1.drawn = [] → s1.draw (s1.clientOf gr1) 48 = some (rnd, u) → Commits (.dukptInitialKey g) s g n gr1
          (keyBlock form ver k1.key ⟨usage2 'B' '1', letter (if byteAt b 0 = 1 then 'A' else 'T'), letter 'X', kvnNone, letter 'N'⟩ opts 1 ik rnd)
          u))

/-! ### Public-key and post-quantum operations (spec/12) -/

/-- The key is private and for the set a command names (R267). -/
def Claims.ForSet (k : KeySnap) (mode : Char) (use : Bytes) (set : Nat) : Prop :=
  attrMode k.attr = letter mode ∧ attrUsage k.attr = use ∧ setOfType k.ktype (leAt k.attr 8 2) = some set

/-- A key is made and its handle given, or no slot is free (R267, R268, R294). -/
def Claims.Makes (c : Instr) (s : State) (g n : Nat) (gr : Graph) (made : Option Nat × State) (rest : Bytes) : Prop :=
  (made.1 = none → Ends c s g n gr 0x0B01 made.2) ∧ ∀ h, made.1 = some h → Commits c s g n gr (le 8 h ++ rest) made.2

/-- A key pair command draws, keeps the first usable candidate and makes the private key of its set in the submitter's world, returning
the handle and the public key; without a usable candidate it ends with ROUNDS_EXHAUSTED, and a narrowed set is refused (R261, R263, R266,
R267, R269, R270). -/
def Obligations.KeyPairCommands : Prop :=
  ∀ (s : State) (g n : Nat) (gr : Graph) (c : Instr) (op : Nat) (sets : List Nat), NoKeys gr →
    ((c = .pkKeygen g ∧ op = 0x0701 ∧ sets = [1, 2, 3, 4, 5, 0x20, 0x21, 0x28, 0x29]) ∨
      (c = .pqKeygen g ∧ op = 0x0801 ∧ sets = [0x40, 0x41, 0x48])) → AtSink s op g gr n →
    let b := gr.inp
    let a := allotOf gr.qid
    let st := isSteward gr.qid
    let set := byteAt b 0
    let use := slice b 2 2
    let ex := byteAt b 5
    (b.length ≠ 8 → Ends c s g n gr 0x0102 s) ∧
    (b.length = 8 → (set ∉ sets ∨ byteAt b 1 ≠ 0 ∨ leAt b 6 2 ≠ 0 ∨ pairUse set use (byteAt b 4) = false ∨ ex ∉ [letter 'E', letter 'S', letter 'N']) →
      Ends c s g n gr 0x0104 s) ∧
    (b.length = 8 → set ∈ sets → byteAt b 1 = 0 → leAt b 6 2 = 0 → pairUse set use (byteAt b 4) = true →
      ex ∈ [letter 'E', letter 'S', letter 'N'] →
      (gr.desc.outLen < 8 + publicLen set → Ends c s g n gr 0x0102 s) ∧ (8 + publicLen set ≤ gr.desc.outLen →
      ((s.setNarrowed a set = true ∨ s.narrowed a (.noNewExport ex) = true) → Ends c s g n gr 0x0105 s) ∧
      (s.setNarrowed a set = false → s.narrowed a (.noNewExport ex) = false → gr.drawn = [] → ∀ rnd u,
        s.draw (s.clientOf gr) (pairDraw set) = some (rnd, u) →
        (makePriv set rnd = none → Ends c s g n gr 0x0704 u) ∧
        (∀ sk, makePriv set rnd = some sk →
          let bits := if set ≤ 5 then 2048 + 512 * (set - 1) else 8 * sk.length
          let attr := s.mkAttr st use (algOfSet set) (byteAt b 4) ex kvnNone (typeOfSet set) bits 0
          Claims.Makes c s g n gr (u.makeKey gr.qid (if st then 0x05 else 0x01) (typeOfSet set) attr sk [] (s.worldParent gr.qid))
            (publicKey set sk))))) ∧
    ∀ rnd, (set = 0x20 ∨ set = 0x21) →
      let cand (i : Nat) : Nat := beNat (slice rnd (ecLen set * i) (ecLen set))
      let good (i : Nat) : Prop := 0 < cand i ∧ cand i < ecN set
      (makePriv set rnd = none ↔ ∀ i, i < 4 → ¬good i) ∧
        ∀ sk, makePriv set rnd = some sk → sk.length = ecLen set ∧ ∃ i, i < 4 ∧ good i ∧ beNat sk = cand i ∧ ∀ j, j < i → ¬good j

/-- The other classical commands on well-formed input: a signature under a key of its set, in full; a verification of admitted operands;
a derived key, never a shared secret; a point multiple, where a zero scalar gives the point at infinity; and the status of the first
operand that is not admitted (R255, R261, R263 to R269, R271). -/
def Obligations.ClassicalPublicKeyCommands : Prop :=
  ∀ (s s1 : State) (g n : Nat) (gr gr1 : Graph), s.resolveAll gr n = (gr1, s1) →
    let b := gr.inp
    let a := allotOf gr.qid
    let set := byteAt b 0
    let s0 := usage2 'S' '0'
    let judged (c : Instr) (ok : Bool) : Prop := (ok = true → Commits c s g n gr [] s) ∧ (ok = false → Ends c s g n gr 0x0301 s)
    let signed (c : Instr) (k : KeySnap) (alg len : Nat) (msg rnd : Bytes) (u : State) : Prop :=
      Commits c s g n gr1 (signSure alg len k.key msg rnd) u
    let len := rsaBits set / 8
    let w := ecLen set
    let rsaOk : Prop := 1 ≤ set ∧ set ≤ 5 ∧ (byteAt b 1 = 1 ∨ byteAt b 1 = 2) ∧ 1 ≤ byteAt b 2 ∧ byteAt b 2 ≤ 3 ∧ byteAt b 3 = 0
    let ecOk : Prop := (set = 0x20 ∨ set = 0x21) ∧ 1 ≤ byteAt b 1 ∧ byteAt b 1 ≤ 3 ∧ leAt b 2 2 = 0
    let h := hashLen (byteAt b 2)
    let eh := hashLen (byteAt b 1)
    let alg := 0x1000 * byteAt b 2 + 0x100 * byteAt b 1 + set
    (∀ k, gr1.key 0 = .key k → AtSink s 0x0702 g gr n → rsaOk → b.length = 4 + h → len ≤ gr.desc.outLen →
      (attrMode k.attr ≠ letter 'S' → Ends (.rsaSign g) s g n gr1 0x0203 s1) ∧
      (Claims.ForSet k 'S' s0 set →
        ((s1.setNarrowed a set = true ∨ s1.hashNarrowed a (byteAt b 2) = true ∨ (byteAt b 1 = 1 ∧ s1.narrowed a .noPkcs = true)) →
          Ends (.rsaSign g) s g n gr1 0x0105 s1) ∧
        (s1.setNarrowed a set = false → s1.hashNarrowed a (byteAt b 2) = false → (byteAt b 1 = 1 → s1.narrowed a .noPkcs = false) →
          (byteAt b 1 = 1 → signed (.rsaSign g) k alg len (b.drop 4) [] s1) ∧
          (byteAt b 1 = 2 → gr1.drawn = [] → ∀ rnd u, s1.draw (s1.clientOf gr1) h = some (rnd, u) →
            signed (.rsaSign g) k alg len (b.drop 4) rnd u)))) ∧
    (NoKeys gr → AtSink s 0x0703 g gr n → rsaOk →
      (b.length ≠ 4 + h + 2 * len → 4 ≤ b.length → Ends (.rsaVerify g) s g n gr 0x0103 s) ∧
      (b.length = 4 + h + 2 * len → s.setNarrowed a set = false → s.hashNarrowed a (byteAt b 2) = false →
        let m := slice b (4 + h) len
        let sig := slice b (4 + h + len) len
        let fit_ : Prop := 2 ^ (8 * len - 1) ≤ beNat m ∧ beNat m % 2 = 1 ∧ beNat sig < beNat m
        (¬fit_ → Ends (.rsaVerify g) s g n gr 0x0104 s) ∧
        (fit_ → judged (.rsaVerify g) (Config.sigVerify alg m (slice b 4 h) sig)))) ∧
    (∀ k rnd u, gr1.key 0 = .key k → AtSink s 0x0711 g gr n → ecOk → b.length = 4 + eh → 2 * w ≤ gr.desc.outLen →
      Claims.ForSet k 'S' s0 set → s1.setNarrowed a set = false → s1.hashNarrowed a (byteAt b 1) = false → gr1.drawn = [] →
      s1.draw (s1.clientOf gr1) (4 * w) = some (rnd, u) →
      (ecCandidate set rnd = none → Ends (.ecdsaSign g) s g n gr1 0x0704 u) ∧
      (∀ x sig, ecCandidate set rnd = some x → sign set (2 * w) k.key (b.drop 4) (be w x) = some sig →
        ((allZero (sig.take w) = true ∨ allZero (sig.drop w) = true) → Ends (.ecdsaSign g) s g n gr1 0x0704 u) ∧
        (allZero (sig.take w) = false → allZero (sig.drop w) = false → Commits (.ecdsaSign g) s g n gr1 sig u))) ∧
    (NoKeys gr → AtSink s 0x0712 g gr n → ecOk → (b.length = 4 + eh + (1 + 2 * w) + 2 * w ∨ b.length = 4 + eh + (1 + w) + 2 * w) →
      s.setNarrowed a set = false → s.hashNarrowed a (byteAt b 1) = false →
      let pl := b.length - (4 + eh + 2 * w)
      let pt := slice b (4 + eh) pl
      let sig := b.drop (4 + eh + pl)
      let inside (x : Bytes) : Prop := 0 < beNat x ∧ beNat x < ecN set
      (∀ x, ecPoint set pt 0x0104 0x0302 = some x → Ends (.ecdsaVerify g) s g n gr x s) ∧
      (ecPoint set pt 0x0104 0x0302 = none → ¬(inside (sig.take w) ∧ inside (sig.drop w)) → Ends (.ecdsaVerify g) s g n gr 0x0104 s) ∧
      (ecPoint set pt 0x0104 0x0302 = none → inside (sig.take w) → inside (sig.drop w) →
        judged (.ecdsaVerify g) (Config.sigVerify set pt (slice b 4 eh) sig))) ∧
    (∀ k t klen, gr1.key 0 = .key k → AtSink s 0x0713 g gr n → (set = 0x20 ∨ set = 0x21 ∨ set = 0x29) →
      (byteAt b 1 = 1 ∨ byteAt b 1 = 2) → byteAt b 2 ≤ 64 → byteAt b 3 = 0 → derivedBlock (slice b 4 8) = some (t, klen) →
      8 ≤ gr.desc.outLen → Claims.ForSet k 'X' (usage2 'K' '3') set → s1.setNarrowed a set = false →
      let i := byteAt b 2
      let peer := b.drop (12 + i)
      12 + i ≤ b.length → peer.length = (if set = 0x29 then 32 else if byteAt peer 0 = 4 then 1 + 2 * w else 1 + w) →
      let bad := if set = 0x29 then (if xCoord peer then none else some 0x0104) else ecPoint set peer 0x0104 0x0302
      let z := fit (if set = 0x29 then 32 else w) (Config.agree set k.key peer)
      (∀ x, bad = some x → Ends (.ecdhDerive g) s g n gr1 x s1) ∧
      (bad = none → set = 0x29 → allZero z = true → Ends (.ecdhDerive g) s g n gr1 0x0302 s1) ∧
      (bad = none → (set = 0x29 → allZero z = false) →
        Claims.Makes (.ecdhDerive g) s g n gr1 (s1.makeKey gr.qid (tierFor (isSteward gr.qid) (isKek (slice b 4 2))) t
          (s1.derivedAttr (isSteward gr.qid) (slice b 4 8) t klen 0) (deriveShared (byteAt b 1) z (slice b 12 i) klen) []
          (s1.worldParent gr.qid)) [])) ∧
    (NoKeys gr → AtSink s 0x0714 g gr n → (set = 0x20 ∨ set = 0x21) → leAt b 1 3 = 0 →
      (b.length = 4 + w + (1 + 2 * w) ∨ b.length = 4 + w + (1 + w)) → 1 + 2 * w ≤ gr.desc.outLen → s.setNarrowed a set = false →
      let k := slice b 4 w
      let pt := b.drop (4 + w)
      (ecN set ≤ beNat k → Ends (.ecPointMul g) s g n gr 0x0104 s) ∧
      (beNat k < ecN set → ∀ x, ecPoint set pt 0x0104 0x0302 = some x → Ends (.ecPointMul g) s g n gr x s) ∧
      (beNat k < ecN set → ecPoint set pt 0x0104 0x0302 = none →
        (∀ r, beNat k ≠ 0 → Config.pointMul set k pt = some r → Commits (.ecPointMul g) s g n gr (fit (1 + 2 * w) r) s) ∧
        ((beNat k = 0 ∨ Config.pointMul set k pt = none) → exec (.ecPointMul g) s = .next ((s.unstall (.node g)).setGraph g (some
          ({ gr with committed := true, out := zeros (1 + 2 * w) }.setNode n { gr.node n with verdict := some 1 })))))) ∧
    (∀ k, gr1.key 0 = .key k → AtSink s 0x0721 g gr n → 4 ≤ b.length → b.length ≤ 65536 → 64 ≤ gr.desc.outLen → set = 0x28 → leAt b 1 3 = 0 →
      Claims.ForSet k 'S' s0 0x28 → s1.setNarrowed a 0x28 = false → signed (.ed25519Sign g) k 0x28 64 (b.drop 4) [] s1) ∧
    (NoKeys gr → AtSink s 0x0722 g gr n → 100 ≤ b.length → b.length ≤ 65636 → set = 0x28 → leAt b 1 3 = 0 → s.setNarrowed a 0x28 = false →
      let pt (o : Nat) : Option Nat := edPoint (slice b o 32) 0x0104 0x0302
      (∀ x, pt 4 = some x → Ends (.ed25519Verify g) s g n gr x s) ∧
      (∀ x, pt 4 = none → pt 36 = some x → Ends (.ed25519Verify g) s g n gr x s) ∧
      (pt 4 = none → pt 36 = none → edL ≤ leAt b 68 32 → Ends (.ed25519Verify g) s g n gr 0x0104 s) ∧
      (pt 4 = none → pt 36 = none → leAt b 68 32 < edL →
        judged (.ed25519Verify g) (edVerify (slice b 4 32) (slice b 36 32) (leAt b 68 32) (b.drop 100))))

/-- The other post-quantum commands on well-formed input: encapsulation checks the key's coefficients and gives handle and ciphertext,
decapsulation always derives, signing and verification take the context, and lengths are checked first (R255, R261, R263 to R268, R270). -/
def Obligations.PostQuantumCommands : Prop :=
  ∀ (s s1 : State) (g n : Nat) (gr gr1 : Graph), s.resolveAll gr n = (gr1, s1) →
    let b := gr.inp
    let a := allotOf gr.qid
    let set := byteAt b 0
    let c := byteAt b 2
    let st := isSteward gr.qid
    let judged (c : Instr) (ok : Bool) : Prop := (ok = true → Commits c s g n gr [] s) ∧ (ok = false → Ends c s g n gr 0x0301 s)
    let ek := if set = 0x40 then 1184 else 1568
    let ct := if set = 0x40 then 1088 else 1568
    let made (u : State) (t klen : Nat) (z : Bytes) : Option Nat × State :=
      u.makeKey gr.qid (tierFor st (isKek (slice b 4 2))) t (s.derivedAttr st (slice b 4 8) t klen 0)
        (deriveShared (byteAt b 1) z (slice b 12 c) klen) [] (s.worldParent gr.qid)
    let head (t klen : Nat) : Prop := (set = 0x40 ∨ set = 0x41) ∧ (byteAt b 1 = 1 ∨ byteAt b 1 = 2) ∧ c ≤ 64 ∧ byteAt b 3 = 0 ∧
      derivedBlock (slice b 4 8) = some (t, klen) ∧ 12 ≤ b.length
    (∀ t klen, NoKeys gr → AtSink s 0x0802 g gr n → head t klen → 8 + ct ≤ gr.desc.outLen →
      (b.length ≠ 12 + c + ek → Ends (.mlkemEncaps g) s g n gr 0x0102 s) ∧
      (b.length = 12 + c + ek → s.setNarrowed a set = false →
        let key := b.drop (12 + c)
        let sound : Prop := ∀ i, i < (key.length - 32) / 3 →
          leAt key (3 * i) 3 % 4096 < 3329 ∧ leAt key (3 * i) 3 / 4096 < 3329
        (¬sound → Ends (.mlkemEncaps g) s g n gr 0x0104 s) ∧
        (sound → gr.drawn = [] → ∀ m u, s.draw (s.clientOf gr) 32 = some (m, u) →
          Claims.Makes (.mlkemEncaps g) s g n gr (made u t klen (fit 32 (Config.encaps set key m).2)) (fit ct (Config.encaps set key m).1)))) ∧
    (∀ t klen k, gr1.key 0 = .key k → AtSink s 0x0803 g gr n → head t klen → b.length = 12 + c + ct → 8 ≤ gr.desc.outLen →
      Claims.ForSet k 'X' (usage2 'K' '3') set → s1.setNarrowed a set = false →
      Claims.Makes (.mlkemDecaps g) s g n gr1 (made s1 t klen (fit 32 (Config.decaps set k.key (b.drop (12 + c))))) []) ∧
    (∀ k rnd u, gr1.key 0 = .key k → AtSink s 0x0811 g gr n → set = 0x48 → byteAt b 1 = 0 → byteAt b 3 = 0 → 4 + c ≤ b.length →
      4 ≤ b.length → b.length ≤ 4 + c + 65536 → 3309 ≤ gr.desc.outLen → Claims.ForSet k 'S' (usage2 'S' '0') 0x48 →
      s1.setNarrowed a 0x48 = false → gr1.drawn = [] → s1.draw (s1.clientOf gr1) 32 = some (rnd, u) →
      let msg := [0x00] ++ le 1 c ++ slice b 4 c ++ b.drop (4 + c)
      (∀ sig, sign 0x48 3309 k.key msg rnd = some sig → Commits (.mldsaSign g) s g n gr1 sig u) ∧
      (sign 0x48 3309 k.key msg rnd = none → Ends (.mldsaSign g) s g n gr1 0x0704 u)) ∧
    (NoKeys gr → AtSink s 0x0812 g gr n → set = 0x48 → byteAt b 1 = 0 → byteAt b 3 = 0 → 5265 + c ≤ b.length → b.length ≤ 5265 + c + 65536 →
      s.setNarrowed a 0x48 = false → judged (.mldsaVerify g)
        (Config.sigVerify 0x48 (slice b 4 1952) ([0x00] ++ le 1 c ++ slice b 5265 c ++ b.drop (5265 + c)) (slice b 1956 3309))) ∧
    (NoKeys gr → AtSink s 0x0821 g gr n → (set = 0x50 ∨ set = 0x51) → byteAt b 1 = 0 → byteAt b 3 = 0 →
      let l := if set = 0x50 then 7856 else 17088
      (4 ≤ b.length → b.length < 36 + l + c → Ends (.slhdsaVerify g) s g n gr 0x0102 s) ∧
      (36 + l + c ≤ b.length → b.length ≤ 36 + l + c + 65536 → s.setNarrowed a set = true → Ends (.slhdsaVerify g) s g n gr 0x0105 s) ∧
      (36 + l + c ≤ b.length → b.length ≤ 36 + l + c + 65536 → s.setNarrowed a set = false → judged (.slhdsaVerify g)
        (Config.sigVerify set (slice b 4 32) ([0x00] ++ le 1 c ++ slice b (36 + l) c ++ b.drop (36 + l + c)) (slice b 36 l))))

/-! ### Cipher lane and digest unit (spec/13) -/

/-- The digest commands on well-formed input: a stream of another length than declared is refused; a digest or a tag of the length its code gives; a comparison that reports only equal or not,
over the tag or the whole digest; a derived key whose handle alone comes out; and the checks of form and key before them (R226, R279,
R280, R282, R284, R289 to R291). -/
def Obligations.DigestCommands : Prop :=
  ∀ (s s1 : State) (g n : Nat) (gr gr1 : Graph), s.resolveAll gr n = (gr1, s1) →
    let b := gr.inp
    let x := byteAt b 0
    let d := leAt b 2 2
    let shake : Prop := x = 0x18 ∨ x = 0x19
    let code : Prop := x = 1 ∨ x = 2 ∨ x = 3 ∨ x = 0x10 ∨ x = 0x11 ∨ shake
    let dOk : Prop := (shake → 1 ≤ d ∧ d ≤ 512) ∧ (¬shake → d = 0)
    let len := if x = 1 ∨ x = 0x10 then 32 else if x = 2 then 48 else if x = 3 ∨ x = 0x11 then 64 else d
    let m7 (k : KeySnap) (modes : List Char) : Prop := Claims.Fits k modes (usage2 'M' '7') [8]
    let t := byteAt b 1
    let tagOk : Prop := (x = 1 ∨ x = 2 ∨ x = 3 ∨ x = 0x10 ∨ x = 0x11) ∧ 16 ≤ t ∧ t ≤ len ∧ d = 0
    (NoKeys gr → AtSink s 0x0A01 g gr n → 4 ≤ gr.desc.inLen → 4 ≤ b.length → b.length ≠ gr.desc.inLen → code → byteAt b 1 = 0 → dOk →
      len ≤ gr.desc.outLen → Ends (.digest g) s g n gr 0x0103 s) ∧
    (b.length = gr.desc.inLen →
    (NoKeys gr → AtSink s 0x0A01 g gr n → 4 ≤ b.length →
      ((¬code ∨ byteAt b 1 ≠ 0 ∨ ¬dOk) → Ends (.digest g) s g n gr 0x0104 s) ∧
      (code → byteAt b 1 = 0 → dOk → gr.desc.outLen < len → Ends (.digest g) s g n gr 0x0102 s) ∧
      (code → byteAt b 1 = 0 → dOk → len ≤ gr.desc.outLen → (digest x d (b.drop 4)).length = len ∧
        Commits (.digest g) s g n gr (digest x d (b.drop 4)) s)) ∧
    (∀ k, gr1.key 0 = .key k → AtSink s 0x0A02 g gr n → 4 ≤ b.length → tagOk →
      (t ≤ gr.desc.outLen → m7 k ['G', 'C'] → Commits (.hmacGenerate g) s g n gr1 ((hmac x k.key (b.drop 4)).take t) s1) ∧
      (t ≤ gr.desc.outLen → (∀ c ∈ ['G', 'C'], c.toNat ≠ attrMode k.attr) → Ends (.hmacGenerate g) s g n gr1 0x0203 s1)) ∧
    (∀ y, gr1.key 0 = .fail y → AtSink s 0x0A02 g gr n → 4 ≤ b.length → tagOk → t ≤ gr.desc.outLen → okStatus y = false →
      Ends (.hmacGenerate g) s g n gr1 y s1) ∧
    (∀ k, gr1.key 0 = .key k → AtSink s 0x0A03 g gr n → 68 ≤ b.length → tagOk → allZero (slice b (4 + t) (64 - t)) = true → m7 k ['V', 'C'] →
      ((hmac x k.key (b.drop 68)).take t = slice b 4 t → Commits (.hmacVerify g) s g n gr1 [] s1) ∧
      ((hmac x k.key (b.drop 68)).take t ≠ slice b 4 t → Ends (.hmacVerify g) s g n gr1 0x0301 s1)) ∧
    (NoKeys gr → AtSink s 0x0A04 g gr n → 68 ≤ b.length → code → byteAt b 1 = 0 → dOk → len ≤ 64 →
      allZero (slice b (4 + len) (64 - len)) = true →
      (digest x d (b.drop 68) = slice b 4 len → Commits (.digestCompare g) s g n gr [] s) ∧
      (digest x d (b.drop 68) ≠ slice b 4 len → Ends (.digestCompare g) s g n gr 0x0303 s)) ∧
    (∀ k ty klen, gr1.key 0 = .key k → AtSink s 0x0A05 g gr n → 12 ≤ b.length → (x = 1 ∨ x = 2 ∨ x = 3) → t ≤ 64 → byteAt b 2 ≤ 64 →
      byteAt b 3 = 0 → derivedBlock (slice b 4 8) = some (ty, klen) →
      let l := byteAt b 2
      let full := if x = 1 then 32 else if x = 2 then 48 else 64
      (full < klen → Ends (.digestDerive g) s g n gr 0x0104 s) ∧
      (klen ≤ full → b.length ≠ 12 + t + l → Ends (.digestDerive g) s g n gr 0x0103 s) ∧
      (klen ≤ full → b.length = 12 + t + l → m7 k ['X'] → 8 ≤ gr.desc.outLen →
        let key := (hmac x k.key (be 4 1 ++ slice b 12 t ++ [0x00] ++ slice b (12 + t) l ++ be 4 (8 * klen))).take klen
        Claims.Makes (.digestDerive g) s g n gr1 (s1.makeKey gr.qid (tierFor (isSteward gr.qid) (isKek (slice b 4 2))) ty
          (s1.derivedAttr (isSteward gr.qid) (slice b 4 8) ty klen 0) key [] (s1.worldParent gr.qid)) [])))

/-! ### Barrow (spec/14) -/

/-- The key commands on well-formed input: a key is generated in its tier; a key is saved as a stored key block under the master or a
key-encryption key and loaded again only where the form, the parent, the generation, the tag and the life-cycle bit agree; a released slot is
freed; a restriction narrows and never widens; information, public key, check value and proof are computed from the key (R302 to R307,
R313, R315 to R317, R319). -/
def Obligations.KeyCommands : Prop :=
  ∀ (s s1 : State) (g n : Nat) (gr gr1 : Graph), s.resolveAll gr n = (gr1, s1) →
    let b := gr.inp
    let st := isSteward gr.qid
    let e := allotOf gr.qid
    let made := fun (c : Instr) (gr2 : Graph) (w : State) (tier t : Nat) (attr key opt : Bytes) (p : Parent) =>
      Claims.Makes c s g n gr2 (w.makeKey gr.qid tier t attr key opt p) []
    let saved (c : Instr) (k : KeySnap) (parent : Nat) (pid pk : Bytes) : Prop :=
      let m := s1.master e
      let x := s1.kslot k.slot
      let o := k.opt.length
      let len := 0x60 + o + k.key.length
      let gone : Prop := x.st = .orphaned ∨ s1.chainBroken x.parent = true ∨ m.present = false
      (gr.desc.outLen < len → Ends c s g n gr1 0x0102 s1) ∧ (len ≤ gr.desc.outLen → gone → Ends c s g n gr1 0x0202 s1) ∧
      (len ≤ gr.desc.outLen → ¬gone → gr1.drawn = [] → k.attr.length = 32 → k.key.length ≤ 4032 → m.id.length = 8 → ∀ iv u,
        s1.draw (s1.clientOf gr1) 12 = some (iv, u) → ∃ out, Commits c s g n gr1 out u ∧ out.length = len ∧
          out.take 6 = [0x45, 0x5A, 0x4B, 0x42, 1, 0] ∧ slice out 6 2 = le 2 len ∧ slice out 8 8 = m.id ∧ slice out 0x10 2 = le 2 m.gen ∧
          slice out 0x12 2 = le 1 k.tier ++ le 1 parent ∧ slice out 0x14 12 = pid ++ zeros 4 ∧ slice out 0x20 32 = k.attr ∧
          slice out 0x40 12 = iv ∧ slice out 0x4C 4 = le 2 o ++ le 2 k.key.length ∧ slice out 0x50 o = k.opt ∧
          out.drop (0x50 + o) = gcmSeal (storeKey pk m.gen k.tier) iv (out.take (0x50 + o)) k.key)
    let tier := byteAt b 0x12
    let o := leAt b 0x4C 2
    let len := leAt b 0x4E 2
    let sound (parent : Nat) : Prop := 0x60 ≤ b.length ∧ b.take 6 = [0x45, 0x5A, 0x4B, 0x42, 1, 0] ∧ leAt b 6 2 = 0x60 + o + len ∧
      (tier = 1 ∨ tier = 2 ∨ tier = 5 ∨ tier = 6) ∧ byteAt b 0x13 = parent ∧ leAt b 0x1C 4 = 0 ∧ o ≤ 64 ∧ 16 ≤ len ∧ len ≤ 4032 ∧
      (parent = 0 → allZero (slice b 0x14 8) = true) ∧ (parent = 1 → tier = 1 ∨ tier = 5)
    let world : Prop := if st then tier = 5 ∨ tier = 6 else tier = 1 ∨ tier = 2
    let shaped (c : Instr) (parent : Nat) : Prop := (¬sound parent → Ends c s g n gr 0x0104 s) ∧
      (sound parent → leAt b 6 2 ≠ b.length → Ends c s g n gr 0x0103 s) ∧
      (sound parent → leAt b 6 2 = b.length → ¬world → Ends c s g n gr 0x0203 s)
    let loaded (c : Instr) (parent : Nat) (gr2 : Graph) (w : State) (pk : Bytes) (p : Parent) : Prop :=
      sound parent → leAt b 6 2 = b.length → world →
      let m := w.master e
      let same : Prop := m.present = true ∧ m.id = slice b 8 8 ∧ m.gen = leAt b 0x10 2
      let opened := gcmOpen (storeKey pk (leAt b 0x10 2) tier) (slice b 0x40 12) (b.take (0x50 + o)) (b.drop (0x50 + o))
      (¬same → Ends c s g n gr2 0x0202 w) ∧ (same → opened = none → Ends c s g n gr2 0x0301 w) ∧
      (∀ k, same → opened = some k → byteAt b 0x2E &&& w.lcBit = 0 → Ends c s g n gr2 0x0203 w) ∧
      (∀ k, same → opened = some k → byteAt b 0x2E &&& w.lcBit ≠ 0 → 8 ≤ gr.desc.outLen →
        made c gr2 w tier (byteAt b 0x27) (slice b 0x20 32) (fit len k) (slice b 0x50 o) p)
    (NoKeys gr → AtSink s 0x0101 g gr n → ∀ t klen, b.length = 16 → leAt b 2 2 = 0 → derivedBlock (slice b 4 8) = some (t, klen) →
      let kek := isKek (slice b 4 2)
      (t ≠ byteAt b 0 → Ends (.keyGenerate g) s g n gr 0x0104 s) ∧
      (t = byteAt b 0 → byteAt b 1 ≠ tierFor false kek → byteAt b 1 ≠ tierFor true kek → Ends (.keyGenerate g) s g n gr 0x0104 s) ∧
      (t = byteAt b 0 → byteAt b 1 = tierFor (!st) kek → Ends (.keyGenerate g) s g n gr 0x0203 s) ∧
      (t = byteAt b 0 → byteAt b 1 = tierFor st kek → gr.drawn = [] → 8 ≤ gr.desc.outLen → ∀ key u,
        s.draw (s.clientOf gr) klen = some (key, u) →
        made (.keyGenerate g) gr u (tierFor st kek) t (u.derivedAttr st (slice b 4 8) t klen (leAt b 12 4)) key [] (u.worldParent gr.qid))) ∧
    (NoKeys gr → AtSink s 0x0101 g gr n → (b.length ≠ 16 → Ends (.keyGenerate g) s g n gr 0x0102 s) ∧
      (b.length = 16 → (leAt b 2 2 ≠ 0 ∨ derivedBlock (slice b 4 8) = none) → Ends (.keyGenerate g) s g n gr 0x0104 s)) ∧
    (∀ k, gr1.key 0 = .key k →
      (AtSink s 0x0102 g gr n → (k.tier = 0x0A → Ends (.keySave g) s g n gr1 0x0203 s1) ∧
        (k.tier ≠ 0x0A → saved (.keySave g) k 0 (zeros 8) (s1.master e).key)) ∧
      (∀ p, gr1.key 1 = .key p → AtSink s 0x0103 g gr n →
        (gr.desc.key0 = gr.desc.key1 → Ends (.keySaveUnder g) s g n gr 0x0104 s) ∧
        (gr.desc.key0 ≠ gr.desc.key1 → (k.tier = 1 ∨ k.tier = 5) → Claims.Fits p ['E', 'B'] (usage2 'K' '0') [5] →
          saved (.keySaveUnder g) k 1 ((cmac 1 p.key (zeros 16)).take 8) p.key)) ∧
      (AtSink s 0x0105 g gr n → shaped (.keyLoadUnder g) 1 ∧
        (Claims.Fits k ['D', 'B'] (usage2 'K' '0') [5] →
          (sound 1 → leAt b 6 2 = b.length → world → slice b 0x14 8 ≠ (cmac 1 k.key (zeros 16)).take 8 →
            Ends (.keyLoadUnder g) s g n gr1 0x0301 s1) ∧
          (slice b 0x14 8 = (cmac 1 k.key (zeros 16)).take 8 →
            loaded (.keyLoadUnder g) 1 gr1 s1 k.key (.kek k.slot (s1.kslot k.slot).use)))) ∧
      (AtSink s 0x0106 g gr n → (s1.handlePresent gr.qid gr.desc.key0 = false → Ends (.keyRelease g) s g n gr1 0x0201 s1) ∧
        (s1.handlePresent gr.qid gr.desc.key0 = true → ∃ u, Commits (.keyRelease g) s g n gr1 [] u ∧
          u.kslot k.slot = { use := ((s1.kslot k.slot).use + 1) % 256 } ∧ (∀ j, j ≠ k.slot → u.kslot j = s1.kslot j) ∧ u.root = s1.root ∧
          (k.tier = 1 ∨ k.tier = 5 ∨ k.tier = 0x0A → u.bar.inval = s1.bar.inval ∧
            u.getF Reg.BAR_STATUS_INVALIDATING = s1.getF Reg.BAR_STATUS_INVALIDATING) ∧
          (k.tier = 2 ∨ k.tier = 6 → u.bar.inval = s1.bar.inval ++ [{ root := .kek k.slot (s1.kslot k.slot).use, g := some g }] ∧
            u.getF Reg.BAR_STATUS_INVALIDATING = 1))) ∧
      (AtSink s 0x0107 g gr n → (b.length ≠ 12 → Ends (.keyRestrict g) s g n gr 0x0102 s) ∧
        (b.length = 12 → leAt b 6 2 ≠ 0 → Ends (.keyRestrict g) s g n gr 0x0104 s) ∧
        (b.length = 12 → leAt b 6 2 = 0 → s1.handlePresent gr.qid gr.desc.key0 = false → Commits (.keyRestrict g) s g n gr1 [] s1)) ∧
      (AtSink s 0x0107 g gr n → b.length = 12 → leAt b 6 2 = 0 → s1.handlePresent gr.qid gr.desc.key0 = true →
        let x := s1.kslot k.slot
        let a := x.attr
        let pick (o i keep : Nat) : Nat := if byteAt b i = keep then byteAt a o else byteAt b i
        let left := leAt b 8 4
        let until_ := s1.cairn.opTime + 1000 * left
        let mode := pick 3 0 0
        let ex := pick 4 1 0
        let narrower : Prop := (mode = attrMode a ∨ (attrMode a = letter 'B' ∧ (mode = letter 'E' ∨ mode = letter 'D')) ∨
            (attrMode a = letter 'C' ∧ (mode = letter 'G' ∨ mode = letter 'V'))) ∧
          (ex = attrExport a ∨ (attrExport a = letter 'E' ∧ (ex = letter 'S' ∨ ex = letter 'N')) ∨ (attrExport a = letter 'S' ∧ ex = letter 'N')) ∧
          (∀ p ∈ [(10, 2, 0), (11, 3, 0), (12, 4, 0xFF), (14, 5, 0)], ∀ i, (pick p.1 p.2.1 p.2.2).testBit i → (byteAt a p.1).testBit i) ∧
          (left ≠ 0 → x.expiry ≠ 0 → until_ ≤ x.expiry)
        (¬narrower → Ends (.keyRestrict g) s g n gr1 0x0105 s1) ∧
        (narrower → a.length = 32 → left = 0 → ∃ a', Commits (.keyRestrict g) s g n gr1 [] (s1.storeSlot k.slot { x with attr := a' }) ∧
          a'.length = 32 ∧ ∀ i, i < 32 → byteAt a' i = (if i = 3 then mode else if i = 4 then ex else if i = 10 then pick 10 2 0
            else if i = 11 then pick 11 3 0 else if i = 12 then pick 12 4 0xFF else if i = 14 then pick 14 5 0 else byteAt a i)) ∧
        (narrower → left ≠ 0 → ∀ i t, (s1.dropTimer (.keyExpiry k.slot)).timer 1 (s1.drv.tick + 1000000 * left) (.keyExpiry k.slot) = (some i, t) →
          ∃ a', Commits (.keyRestrict g) s g n gr1 [] (t.storeSlot k.slot { x with attr := a', expiry := until_ }) ∧
            (a.length = 32 → leAt a' 16 4 = left)) ∧
        (narrower → left ≠ 0 → ∀ t, (s1.dropTimer (.keyExpiry k.slot)).timer 1 (s1.drv.tick + 1000000 * left) (.keyExpiry k.slot) = (none, t) →
          Ends (.keyRestrict g) s g n gr1 0x0B01 t)) ∧
      (AtSink s 0x0108 g gr n → k.attr.length = 32 → 42 + k.opt.length ≤ gr.desc.outLen →
        let x := s1.kslot k.slot
        let kind := match x.parent with
          | .master _ _ => 0
          | .kek _ _ => 1
          | .none => 2
        Commits (.keyInfo g) s g n gr1 (k.attr ++ le 1 (if x.st = .expired then 2 else 1) ++ le 1 k.tier ++ le 1 kind ++ [0] ++
          le 4 ((x.expiry - s1.cairn.opTime) / 1000) ++ le 2 k.opt.length ++ k.opt) s1) ∧
      (AtSink s 0x0109 g gr n →
        (∀ set, setOfType k.ktype (leAt k.attr 8 2) = some set → publicLen set ≤ gr.desc.outLen →
          Commits (.keyPublic g) s g n gr1 (publicKey set k.key) s1) ∧
        (k.ktype ≤ 8 → Ends (.keyPublic g) s g n gr1 0x0204 s1)) ∧
      (AtSink s 0x010A g gr n → b.length = 4 → byteAt b 0 ≤ 1 → 2 ≤ byteAt b 1 → byteAt b 1 ≤ 8 → leAt b 2 2 = 0 →
        let alg := if k.ktype ≤ 2 then 0 else 1
        let zero := zeros (if k.ktype ≤ 2 then 8 else 16)
        (gr.desc.outLen < byteAt b 1 → Ends (.keyCheckValue g) s g n gr 0x0102 s) ∧
        (byteAt b 1 ≤ gr.desc.outLen → (k.ktype = 0 ∨ 5 < k.ktype) → Ends (.keyCheckValue g) s g n gr1 0x0204 s1) ∧
        (byteAt b 1 ≤ gr.desc.outLen → 1 ≤ k.ktype → k.ktype ≤ 5 → s1.narrowed e .kcvMax3 = true → 3 < byteAt b 1 →
          Ends (.keyCheckValue g) s g n gr1 0x0105 s1) ∧
        (1 ≤ k.ktype → k.ktype ≤ 5 → (s1.narrowed e .kcvMax3 = false ∨ byteAt b 1 ≤ 3) → byteAt b 1 ≤ gr.desc.outLen → Commits (.keyCheckValue g) s g n gr1
          ((if byteAt b 0 = 0 then encB alg k.key zero else cmac alg k.key zero).take (byteAt b 1)) s1)) ∧
      (AtSink s 0x010B g gr n → 16 ≤ byteAt b 0 → byteAt b 0 ≤ 64 → leAt b 1 3 = 0 → b.length = 4 + byteAt b 0 → 32 ≤ gr.desc.outLen →
        let pop (src : Bytes) : Bytes := hmac 1 (hmac 1 src ([0x45, 0x5A, 0x38, 0x2D, 0x50, 0x4F, 0x50, 0x00] ++ le 1 k.ktype)) (b.drop 4)
        (k.ktype ≤ 8 → Commits (.keyProve g) s g n gr1 (pop k.key) s1) ∧
        (8 < k.ktype → (setOfType k.ktype (leAt k.attr 8 2)).isSome = true → Commits (.keyProve g) s g n gr1 (pop (sha256 k.key)) s1))) ∧
    (NoKeys gr → AtSink s 0x0104 g gr n → shaped (.keyLoad g) 0 ∧
      loaded (.keyLoad g) 0 gr s (s.master e).key (s.worldParent gr.qid))

/-- A handle resolves to the key of its slot or to the outcome of R299, R302 and R303. A master is created, invalidated and reported in the
steward world alone; the passes of an invalidation orphan the chain, and its end drops the orphans from the hot caches; a slot whose
validity ran out expires; the recovery after a Swale-R draws a new root, era and attestation key (R296, R298, R299, R302, R303, R310 to
R313, R319). -/
def Obligations.HandlesMastersAndInvalidation : Prop :=
  ∀ s : State, s.live = true →
    (∀ g pos gr n, s.graph g = some gr → s.openNode g = some n → s.keyWait gr = false → gr.committed = false → gr.unresolved pos = true →
      let h := gr.desc.handle pos
      let op := gr.desc.opcode
      let st := isSteward gr.qid
      let sl := h / 2 ^ 29 % 2 ^ 24
      let x := s.kslot sl
      let tier := h / 256 % 32
      let tenant : Prop := tier = 1 ∨ tier = 2
      let own : Prop := h < 2 ^ 64 ∧ sl < 1048576 ∧ (tenant ∨ tier = 5 ∨ tier = 6 ∨ tier = 0x0A) ∧ knownType (h % 256) = true ∧
        (¬tenant → h / 2 ^ 53 = 0) ∧ x.st ≠ .free ∧ h / 2 ^ 21 % 256 = s.root.era ∧ h / 2 ^ 13 % 256 = x.use ∧ h / 2 ^ 53 = x.allot ∧
        tier = x.tier ∧ h % 256 = x.ktype ∧ (st = false → h / 2 ^ 53 = allotOf gr.qid ∧ tenant)
      let broken (p : Parent) : Prop := ∃ e gen, p = .master e gen ∧ (s.master e).gen ≠ gen
      let orphaned : Prop := x.st = .orphaned ∨ broken x.parent ∨ ∃ k u, x.parent = .kek k u ∧
        ((s.kslot k).use ≠ u ∨ (s.kslot k).st = .free ∨ (s.kslot k).st = .orphaned ∨ broken (s.kslot k).parent)
      let denied : Prop := (byteAt x.attr 10).testBit (gr.qid % 8) = false ∨ (byteAt x.attr 11).testBit (gr.tnode n).role = false ∨
        byteAt x.attr 13 ≠ (if st then 1 else 0) ∨ byteAt x.attr 14 &&& s.lcBit = 0 ∨ (x.st = .expired ∧ op ≠ 0x0108)
      Gives (.keyResolve g pos) s fun t => ∃ out, t.graph g = some { gr with keys := gr.keys.set pos (some out) } ∧ t.root = s.root ∧
        t.bar.slots = s.bar.slots ∧ FieldsBut s t [Reg.BAR_HOT_HITS_COUNT, Reg.BAR_HOT_MISSES_COUNT] ∧
        (¬own → out = .fail 0x0201 ∧ t.bar = s.bar) ∧
        (own → op ≠ 0x0106 → orphaned → out = .fail 0x0202) ∧
        (own → op ≠ 0x0106 → ¬orphaned → x.st = .poisoned → out = .fail 0x0802) ∧
        (own → st = true → tenant → (op = 0x0106 ∨ (¬orphaned ∧ x.st ≠ .poisoned)) → out = .fail 0x0203) ∧
        (own → (st = true → ¬tenant) → op ≠ 0x0106 → ¬orphaned → x.st ≠ .poisoned → denied → out = .fail 0x0203) ∧
        (own → (st = true → ¬tenant) → (op = 0x0106 ∨ (¬orphaned ∧ x.st ≠ .poisoned ∧ ¬denied)) →
          out = .key ⟨sl, x.tier, x.ktype, x.key, x.attr, x.opt⟩)) ∧
    (∀ g n gr c op, NoKeys gr → AtSink s op g gr n →
      ((c = .masterCreate g ∧ op = 0x0120) ∨ (c = .masterInvalidate g ∧ op = 0x0121) ∨ (c = .masterStatus g ∧ op = 0x0122)) →
      let b := gr.inp
      let a := leAt b 0 2
      let e := if a = 0xFFFF then 2048 else a
      let m := s.master e
      let answer (m : Master) (st : Byte) : Bytes := fit 8 m.id ++ le 2 m.gen ++ [st] ++ zeros 5
      (isSteward gr.qid = false → Ends c s g n gr 0x0A01 s) ∧
      (isSteward gr.qid = true → b.length ≠ 4 → Ends c s g n gr 0x0102 s) ∧
      (isSteward gr.qid = true → b.length = 4 → (leAt b 2 2 ≠ 0 ∨ (2048 ≤ a ∧ a ≠ 0xFFFF)) → Ends c s g n gr 0x0104 s) ∧
      (isSteward gr.qid = true → b.length = 4 → leAt b 2 2 = 0 → (a < 2048 ∨ a = 0xFFFF) →
        let ready : Prop := e = 2048 ∨ (s.allot e).st = .active ∨ (s.allot e).st = .quiesced
        (op = 0x0120 → (m.present = true ∨ ¬ready) → Ends c s g n gr 0x0B02 s) ∧
        (op = 0x0120 → m.present = false → ready → gr.drawn = [] → 16 ≤ gr.desc.outLen → ∀ k u, s.draw (s.clientOf gr) 32 = some (k, u) →
          let m' : Master := { present := true, gen := (m.gen + 1) % 65536, id := (cmac 1 k (zeros 16)).take 8, key := k }
          ∃ v, Commits c s g n gr (answer m' 0) v ∧ Recorded (u.setMaster e m') v) ∧
        (op = 0x0121 → m.present = false → Ends c s g n gr 0x0B02 s) ∧
        (op = 0x0121 → m.present = true → m.gen = 0xFFFF → Ends c s g n gr 0x0401 s) ∧
        (op = 0x0121 → m.present = true → m.gen < 0xFFFF → 16 ≤ gr.desc.outLen →
          let m' : Master := { m with gen := m.gen + 1 }
          ∃ v, Commits c s g n gr (answer m' 0) v ∧ v.root.masters = (s.setMaster e m').root.masters ∧ v.bar.slots = s.bar.slots ∧
            v.bar.inval = s.bar.inval ++ [{ root := .master e, g := some g }] ∧ v.getF Reg.BAR_STATUS_INVALIDATING = 1 ∧
            FieldsBut s v (Reg.BAR_STATUS_INVALIDATING :: logFields)) ∧
        (op = 0x0122 → 16 ≤ gr.desc.outLen → Commits c s g n gr (answer m (if m.present then 1 else 0)) s))) ∧
    (s.bar.inval = [] → Gives .invalidationPass s fun t => t = s) ∧
    (∀ i rest, s.bar.inval = i :: rest → Gives .invalidationPass s fun t =>
      let hit (p : Parent) : Prop := match i.root with
        | .master e => if i.pass = 0 then ∃ gen, p = .master e gen else ∃ k u, p = .kek k u ∧ (s.kslot k).st = .orphaned ∧ (s.kslot k).use = u
        | .kek k u => p = .kek k u
      let last := match i.root with
        | .master _ => 2
        | .kek _ _ => 1
      (i.pass < last → t.bar.inval = { i with pass := i.pass + 1 } :: rest ∧ t.root = s.root ∧
        t.getF Reg.BAR_STATUS_INVALIDATING = s.getF Reg.BAR_STATUS_INVALIDATING ∧
        (∀ k, (s.kslot k).st ≠ .free → hit (s.kslot k).parent → (t.kslot k).st = .orphaned ∧
          ((s.kslot k).st ≠ .orphaned → (t.kslot k).key = [] ∧ (t.kslot k).use = (s.kslot k).use)) ∧
        ∀ k, (∀ y, (k, y) ∈ s.bar.slots → ¬hit y.parent) → t.kslot k = s.kslot k) ∧
      (last ≤ i.pass → t.bar.inval = rest ∧ t.getF Reg.BAR_STATUS_INVALIDATING = (if rest = [] then 0 else 1) ∧
        (∀ k ∈ t.bar.hotE ++ t.bar.hotW, (s.kslot k).st = .live) ∧
        (i.removing = none → t.bar.slots = s.bar.slots ∧ t.root = s.root) ∧
        (∀ a, i.removing = some a → t.master a = { gen := (s.master a).gen } ∧ (∀ e, e ≠ a → t.master e = s.master e) ∧
          ∀ k, (s.kslot k).allot = a → ((s.kslot k).tier = 1 ∨ (s.kslot k).tier = 2) → (t.kslot k).st = .free))) ∧
    (∀ k, (s.isDue (.keyExpiry k) = false → Gives (.keyValidityExpire k) s fun t => t = s) ∧
      (s.isDue (.keyExpiry k) = true → Gives (.keyValidityExpire k) s fun t => t.root = s.root ∧ t.drv.graphs = s.drv.graphs ∧
        ((s.kslot k).st ≠ .live → t.regs = s.regs ∧ t.tha = s.tha) ∧
        (∀ j, j ≠ k → t.kslot j = s.kslot j) ∧ ((s.kslot k).st = .live → t.kslot k = { s.kslot k with st := .expired }) ∧
        ((s.kslot k).st ≠ .live → t.kslot k = s.kslot k))) ∧
    (s.bar.recovering = false → Gives .rootRecoveryComplete s fun t => t = s) ∧
    (s.bar.recovering = true → s.draw 10 48 = none → Gives .rootRecoveryComplete s fun t => t = s) ∧
    (s.bar.recovering = true → ∀ x u, s.draw 10 48 = some (x, u) → Gives .rootRecoveryComplete s fun t =>
      t.bar.recovering = false ∧ t.root.root.isSome = true ∧ (∀ e, s.bar.lastEra = some e → t.root.era ≠ e) ∧ t.root.era < 256 ∧
      t.root.attKey.isSome = true ∧ (t.root.attTest = true ↔ s.lc.st ≠ 2) ∧ t.root.seeded = true ∧ t.root.masters = s.root.masters ∧
      t.getF Reg.BAR_STATUS_ROOT_OPEN = 1 ∧ t.getF Reg.BAR_STATUS_ROOT_NEW = 1 ∧ t.getF Reg.BAR_EVENT_ERA_CHANGE = 1 ∧
      t.lc = s.lc ∧ t.allots = s.allots ∧ (s.bar.slots = [] → ∃ k, (t.kslot k).tier = 0x0A ∧ (t.kslot k).ktype = 0x22 ∧ (t.kslot k).key = t.spdmKey))

/-! ### Skylark (spec/15) -/

/-- A block is tested, counted and judged: its source is excluded above the limit and readmitted at zero, and a die supplies while four of
its sources are in use; no reader stalls by it. The limit takes 1 to 16 alone. A request goes to the next instance that can serve; an
instance that is due reseeds; a read stalls where none can serve, and 50 ms end it. `SKY_DATA` gives 24 fresh bits or sets EMPTY_READ. The
random commands give as many bytes as they are asked for (R323 to R325, R327, R329 to R333, R335). -/
def Obligations.RandomNumbersAndTheirSources : Prop :=
  ∀ s : State, s.live = true →
    (∀ k bits, k < 24 → bits.length = 1024 → 3 ≤ s.bale.step → s.sky.step7 = true →
      let x := s.src k
      let before := match x.last with
        | some v => List.replicate x.run v
        | none => []
      let long : Prop := ∃ v i, i + 41 ≤ (before ++ bits).length ∧ before.length < i + 41 ∧ ∀ j, j < 41 → (before ++ bits)[i + j]? = some v
      let uneven : Prop := ∃ v, bits.head? = some v ∧ 641 ≤ bits.count v
      let bad : Prop := long ∨ uneven
      let limit := s.getF Reg.SKY_FAIL_LIMIT_LIMIT
      let inUse (u : State) (d : Nat) : Nat := ((List.range 8).filter (fun i => (u.src (8 * d + i)).inUse)).length
      Gives (.noiseBlockComplete k bits) s fun t =>
        let y := t.src k
        (∀ j, j ≠ k → t.src j = s.src j) ∧ t.root = s.root ∧ t.queues = s.queues ∧ t.drv.graphs = s.drv.graphs ∧
        (∀ y, y.1 ≠ .hub → (y ∈ t.sky.stalls ↔ y ∈ s.sky.stalls)) ∧ t.lc.st = s.lc.st ∧
        (s.lc.nonce ≠ [] → t.lc = s.lc ∧ t.sky.stalls = s.sky.stalls) ∧ t.bar = s.bar ∧ t.sky.seeds ≤ max s.sky.seeds 32 ∧ y.blocks = x.blocks + 1 ∧
        (∀ n, n ∈ y.fails ↔ (n ∈ x.fails ∧ x.blocks + 1 < n + 1024) ∨ (n = x.blocks + 1 ∧ bad)) ∧
        (bad → y.up = 0 ∧ y.passed = x.passed ∧ t.getF Reg.SKY_EVENT_HEALTH_FAIL = 1 ∧
          t.getF Reg.SKY_FAILS_COUNT = min (s.getF Reg.SKY_FAILS_COUNT + 1) 0xFFFFFFFF ∧
          t.getF (Reg.SKY_SRC_TOTAL k) = min (s.getF (Reg.SKY_SRC_TOTAL k) + 1) 0xFFFF) ∧
        (¬bad → y.up = x.up + 1 ∧ (y.passed = true ↔ x.passed = true ∨ 200 ≤ x.up + 1) ∧ t.getF Reg.SKY_FAILS_COUNT = s.getF Reg.SKY_FAILS_COUNT ∧
          t.getF (Reg.SKY_SRC_TOTAL k) = s.getF (Reg.SKY_SRC_TOTAL k)) ∧
        (x.excl = false → (y.excl = true ↔ limit < y.fails.length)) ∧ (x.excl = true → (y.excl = false ↔ y.fails = [])) ∧
        (∀ d, d < 3 → ((t.getF Reg.SKY_STATUS_SUPPLY).testBit d = true ↔ 4 ≤ inUse t d)) ∧
        (s.getF Reg.SKY_STATUS_SUPPLY ≠ 0 → t.getF Reg.SKY_STATUS_SUPPLY = 0 → t.getF Reg.SKY_STATUS_SEED_STOPPED = 1) ∧
        (t.getF Reg.SKY_STATUS_SUPPLY ≠ 0 → t.getF Reg.SKY_STATUS_SEED_STOPPED = 0)) ∧
    (s.shown → ∀ val, let l := val % 32
      ((1 ≤ l ∧ l ≤ 16) → Gives (.skyFailLimitWrite val) s fun t => OnlyFields s t [Reg.SKY_FAIL_LIMIT_LIMIT] ∧ t.getF Reg.SKY_FAIL_LIMIT_LIMIT = l) ∧
      ((l = 0 ∨ 16 < l) → Gives (.skyFailLimitWrite val) s fun t => OnlyFields s t [Reg.SKY_EVENT_CFG_REFUSED] ∧
        t.getF Reg.SKY_EVENT_CFG_REFUSED = 1)) ∧
    (s.lc.nonce ≠ [] → ∀ c x, c < 11 → getC none s.sky.clients c = some x →
      ((x.reseeding = true ∨ (65536 ≤ x.count ∧ 0 < s.sky.seeds)) → Gives (.expanderReseed (8 + c)) s fun t =>
        getC none t.sky.clients c = some { count := 0, reseeding := false } ∧ t.sky.service = s.sky.service ∧
        t.sky.seeds = (if x.reseeding then s.sky.seeds else s.sky.seeds - 1)) ∧
      (x.reseeding = false → (x.count < 65536 ∨ s.sky.seeds = 0) → Gives (.expanderReseed (8 + c)) s fun t => t = s)) ∧
    (s.lc.nonce ≠ [] → ∀ i x, i < 8 → s.sky.service[i]? = some x →
      ((x.reseeding = true ∨ (65536 ≤ x.count ∧ 0 < s.sky.seeds)) → Gives (.expanderReseed i) s fun t =>
        t.sky.service = s.sky.service.set i { count := 0, reseeding := false } ∧
        t.sky.seeds = (if x.reseeding then s.sky.seeds else s.sky.seeds - 1) ∧
        t.getF Reg.SKY_RESEEDS_COUNT = min (s.getF Reg.SKY_RESEEDS_COUNT + 1) 0xFFFFFFFF) ∧
      (x.reseeding = false → (x.count < 65536 ∨ s.sky.seeds = 0) → Gives (.expanderReseed i) s fun t => t = s)) ∧
    (∀ r client n,
      let able (x : Drbg) : Prop := x.reseeding = false ∧ x.count < 1048576
      (s.draw client n = none → (∀ y ∈ s.sky.stalls, y.1 ≠ r) → Gives (.randomRead r client n) s fun t =>
        t = { s with sky := { s.sky with stalls := s.sky.stalls ++ [(r, s.drv.tick)] } }) ∧
      (s.draw client n = none → (∃ y ∈ s.sky.stalls, y.1 = r) → Gives (.randomRead r client n) s fun t => t = s) ∧
      (s.getF Reg.HIF_STATUS_ENTROPY_READY = 0 → s.draw client n = none) ∧
      (∀ b u, s.draw client n = some (b, u) → b.length = n ∧ Gives (.randomRead r client n) s fun t =>
        (∀ y ∈ t.sky.stalls, y.1 ≠ r) ∧ t.root = s.root ∧
        ∀ g gr, r = .node g → s.graph g = some gr → (s.openNode g).isSome = true → t.graph g = some { gr with drawn := gr.drawn ++ b }) ∧
      (s.sky.serving.contains client = false → 1 ≤ n → n ≤ 64 →
        ((∀ x ∈ s.sky.service, ¬able x) → s.draw client n = none) ∧
        ∀ x, s.getF Reg.HIF_STATUS_ENTROPY_READY = 1 → s.sky.next < s.sky.service.length → s.sky.service[s.sky.next]? = some x → able x → ∃ b u, s.draw client n = some (b, u) ∧
          (u.sky.service[s.sky.next]?).map Drbg.count = some (x.count + 1) ∧ (∀ i, i ≠ s.sky.next → u.sky.service[i]? = s.sky.service[i]?) ∧
          u.sky.next = (s.sky.next + 1) % s.sky.service.length)) ∧
    (∀ r, (s.stalledOut r = true ↔ ∃ y ∈ s.sky.stalls, y.1 = r ∧ y.2 + 50000 ≤ s.drv.tick) ∧
      (s.stalledOut r = false → Gives (.randomStallTimeout r) s fun t => t = s) ∧
      ∀ g gr, r = .node g → s.stalledOut r = true → s.graph g = some gr → gr.committed = false →
        Gives (.randomStallTimeout r) s fun t => Claims.Ended s t g gr 0x0501) ∧
    (∀ qid w rest, s.stalledOut (.queue qid) = true → (s.queue qid).waiting = w :: rest → w.pend = none → w.tpl.quorum ≠ none →
      Gives (.randomStallTimeout (.queue qid)) s fun t => (t.queue qid).waiting = rest ∧ (Claims.Plain s qid → ∃ idx b m,
        Out.completion qid idx b m ∈ t.outbox ∧ slice b 0 8 = le 8 w.desc.tag ∧ slice b 8 2 = le 2 0x0501)) ∧
    (s.shown → (s.sky.buffer = 0 → Gives .skyDataRead s fun t => OnlyFields { s with rdata := 0 } t [Reg.SKY_STATUS_EMPTY_READ] ∧
        t.getF Reg.SKY_STATUS_EMPTY_READ = 1) ∧
      (0 < s.sky.buffer → Gives .skyDataRead s fun t => t.rdata / 2 ^ 24 = 128 ∧
        t = { s with rdata := t.rdata, freeCtr := t.freeCtr, sky := { s.sky with buffer := s.sky.buffer - 1 } })) ∧
    (((s.sky.request = none ∨ 256 ≤ s.sky.buffer) → Gives .skyDataRefill s fun t => t = s) ∧
      ∀ k, s.getF Reg.HIF_STATUS_ENTROPY_READY = 1 → s.sky.buffer < 256 → s.sky.request = some k →
        (∃ x ∈ k.service, x.count < 1048576) → Gives .skyDataRefill s fun t => t.sky = { k with buffer := k.buffer + 1 }) ∧
    (∀ g n gr c op top, NoKeys gr → AtSink s op g gr n →
      ((c = .randomGenerate g ∧ op = 0x0901 ∧ top = 65535) ∨ (c = .randomFresh g ∧ op = 0x0902 ∧ top = 64)) →
      let b := gr.inp
      let len := leAt b 0 2
      (b.length ≠ 4 → Ends c s g n gr 0x0102 s) ∧ (b.length = 4 → (leAt b 2 2 ≠ 0 ∨ len = 0 ∨ top < len) → Ends c s g n gr 0x0104 s) ∧
      (b.length = 4 → leAt b 2 2 = 0 → 1 ≤ len → len ≤ top → (gr.desc.outLen < len → Ends c s g n gr 0x0102 s) ∧
        (len ≤ gr.desc.outLen →
          (op = 0x0901 → gr.drawn = [] → ∀ out u, s.draw (s.clientOf gr) len = some (out, u) → Commits c s g n gr out u ∧ out.length = len) ∧
          (op = 0x0901 → gr.drawn = [] → s.draw (s.clientOf gr) len = none → Gives c s fun t => t.graph g = some gr ∧ t.root = s.root ∧
            ∃ y ∈ t.sky.stalls, y.1 = .node g) ∧
          (op = 0x0902 → 0 < s.sky.seeds → ∀ i, s.sky.freshIdx = some i → ∃ out u, Commits c s g n gr out u ∧ out.length = len ∧
            u.sky.seeds = s.sky.seeds - 1 ∧ u.sky.service = s.sky.service.set i { count := 1, reseeding := false } ∧
            u.getF Reg.SKY_RESEEDS_COUNT = min (s.getF Reg.SKY_RESEEDS_COUNT + 1) 0xFFFFFFFF) ∧
          (op = 0x0902 → (s.sky.seeds = 0 ∨ s.sky.freshIdx = none) → Gives c s fun t => t.graph g = some gr ∧ t.root = s.root ∧
            ∃ y ∈ t.sky.stalls, y.1 = .node g))))

/-! ### Furrow: frames and port groups (spec/16) -/

/-- The outputs but for MSI-X messages: an event of the module that a frame's statistics raise may add one (R130, R355, R387). -/
def Claims.unmessaged (s : State) : List Out := s.outbox.filter (fun o => match o with | .msix _ => false | _ => true)

/-- A saturating counter has risen by `n`. -/
def Claims.Up (s t : State) (f : Fld) (n : Nat) : Prop := t.getF f = min (s.getF f + n) (2 ^ f.w - 1)

/-- A frame is counted where it arrives and crosses its pair as its decision says: dropped, bypassed at once, or waiting in the elastic
buffer; a far-side frame is diverted, dropped early with its count, or delivered once its verdict is in, and dropped late with zeroed end and
bad FCS where ICV, replay check or pipelines fail it; the sixteenth mismatch of a window faults the group (R338, R340, R341, R343 to R350). -/
def Obligations.FramesCrossTheirPortPair : Prop :=
  ∀ (s : State) (p : Nat) (b : Bytes) (ok : Bool) (fec : Nat × Nat), s.live = true → s.portExists p = true →
    let far := 16 + p
    let st := s.pgState (p / 8)
    let arrived (i : Nat) : List Fld := [Reg.FUR_PORT_RX_FRAMES_COUNT i, rxOct i, Reg.FUR_PORT_FEC_CORR_COUNT i, Reg.FUR_PORT_FEC_UNCORR_COUNT i]
    let moved (side : Nat) : List Fld := [Reg.FUR_PORT_TX_FRAMES_COUNT (16 * side + p), txOct (16 * side + p)]
    let size := b.length + 4
    let counts (i : Nat) (t : State) : Prop := Claims.Up s t (Reg.FUR_PORT_RX_FRAMES_COUNT i) 1 ∧ Claims.Up s t (rxOct i) size ∧
      Claims.Up s t (Reg.FUR_PORT_FEC_CORR_COUNT i) fec.1 ∧ Claims.Up s t (Reg.FUR_PORT_FEC_UNCORR_COUNT i) fec.2
    let only (i : Nat) (t : State) (l : List Fld) : Prop := counts i t ∧ t = { s with regs := t.regs } ∧ FieldsBut s t (arrived i ++ l) ∧
      ∀ f ∈ l, Claims.Up s t f 1
    let e (m : Bool) := Instr.egressFrame p b ok fec false m
    let whole : Prop := st = 0 ∧ 60 ≤ b.length ∧ ok = true
    (∀ side, side < 2 → let i := 16 * side + p
      let c := if side = 0 then e false else .ingressFrame p b ok fec
      (st = 3 → Gives c s fun t => only i t [Reg.FUR_PORT_STOP_DROP_COUNT i]) ∧
      (st ≠ 0 → st ≠ 3 → Gives c s fun t => only i t []) ∧
      (st = 0 → s.getF (Reg.FUR_PORT_STAT_LINK_UP i) = 0 → Gives c s fun t => t = s) ∧
      (st = 0 → s.getF (Reg.FUR_PORT_STAT_LINK_UP i) = 1 → b.length < 60 → Gives c s fun t => only i t [Reg.FUR_PORT_RX_RUNT_COUNT i]) ∧
      (whole → s.getF (Reg.FUR_PORT_STAT_LINK_UP i) = 1 → etherType b = 0x8808 →
        let op := beAt b (14 + 4 * tagCount b) 2
        Gives c s fun t => only i t (if op = 1 ∨ op = 0x101 then [Reg.FUR_PORT_RX_PAUSE_COUNT i] else []))) ∧
    (whole → s.getF (Reg.FUR_PORT_STAT_LINK_UP p) = 1 → etherType b ≠ 0x8808 → size ≤ s.getF (Reg.FUR_PORT_CFG_MAX_FRAME p) →
      s.flightsAt p = [] →
      (s.classify 0 p b = .drop → ∀ busy m, Gives (.egressFrame p b ok fec busy m) s fun t => only p t [Reg.FUR_PORT_MATCH_DROP_COUNT p]) ∧
      (s.classify 0 p b = .bypass →
        (Gives (e false) s fun t => t = { s with regs := t.regs, fur := { s.fur with flights := t.fur.flights }, outbox := .frame 1 p b true :: s.outbox } ∧
          (∀ i, t.flightsAt i = s.flightsAt i) ∧ counts p t ∧
          FieldsBut s t (arrived p ++ [Reg.FUR_PORT_BYPASS_COUNT p, Reg.FUR_PORT_OUT_UNTAGGED_COUNT p] ++ moved 1) ∧
          Claims.Up s t (Reg.FUR_PORT_BYPASS_COUNT p) 1 ∧ Claims.Up s t (Reg.FUR_PORT_TX_FRAMES_COUNT far) 1 ∧ Claims.Up s t (txOct far) size) ∧
        (b.length + 24 ≤ s.bufSize p → s.getF (Reg.FUR_PORT_CFG_FC_MODE p) = 0 → Gives (.egressFrame p b ok fec true false) s fun t =>
          t.outbox = s.outbox ∧ t.flightsAt p = [{ data := b, held := b.length + 24 }] ∧ Claims.Up s t (Reg.FUR_PORT_EG_WAIT_COUNT p) 1) ∧
        (s.bufSize p < b.length + 24 → Gives (.egressFrame p b ok fec true false) s fun t => t.outbox = s.outbox ∧ t.fur = s.fur ∧
          Claims.Up s t (Reg.FUR_PORT_EG_OVERFLOW_COUNT p) 1)) ∧
      (∀ c clear, s.classify 0 p b = .protect c clear →
        (s.getF (Reg.FUR_CH_DW0_VALID c) = 0 ∨ s.getF (Reg.FUR_CH_DW0_DIR c) ≠ 0 ∨ s.getF (Reg.FUR_CH_DW0_KIND c) = 1) →
        ∀ busy m, Gives (.egressFrame p b ok fec busy m) s fun t => only p t [Reg.FUR_PORT_EG_NO_SA_COUNT p])) ∧
    (∀ f l, s.flightsAt p = f :: l → (∀ x ∈ l, x.assoc ≠ none) → s.getF (Reg.FUR_PORT_CFG_FC_MODE p) = 0 →
      Gives (.egressFrameDeparture p) s fun t => t.flightsAt p = l ∧
        t.outbox = .frame 1 p (if f.late then f.data.take (f.data.length - 8) ++ zeros (min 8 f.data.length) else f.data) (!f.late && f.ok) :: s.outbox) ∧
    (s.flightsAt p = [] → Gives (.egressFrameDeparture p) s fun t => t = s) ∧
    (whole → s.getF (Reg.FUR_PORT_STAT_LINK_UP far) = 1 → etherType b ≠ 0x8808 → size ≤ s.getF (Reg.FUR_PORT_CFG_MAX_FRAME far) + 40 →
      let c := Instr.ingressFrame p b ok fec
      let o := 12 + 4 * tagCount b
      let mka : Prop := etherType b = 0x888E ∧ s.getF (Reg.FUR_PORT_CFG_MKA_EN far) = 1
      let recent := ((getC [] s.fur.diverts p).filter (fun x => s.drv.tick < x + 10000)).length
      (mka → recent < s.getF (Reg.FUR_PORT_CFG_DIVERT_RATE far) → (∀ d, (s.readyList (readyKey d 4)).length < 2048) → Gives c s fun t =>
        t.outbox = s.outbox ∧ Claims.Up s t (Reg.FUR_PORT_DIVERT_COUNT far) 1 ∧ ∃ d r, d < 2 ∧ r ∈ t.readyList (readyKey d 4) ∧ r.work = .frame p b) ∧
      (mka → s.getF (Reg.FUR_PORT_CFG_DIVERT_RATE far) ≤ recent → Gives c s fun t => t.outbox = s.outbox ∧ t.drv = s.drv ∧
        Claims.Up s t (Reg.FUR_PORT_DIVERT_DROP_COUNT far) 1 ∧ t.getF Reg.FUR_GLB_EVENT_DIVERT_DROP = 1) ∧
      (¬mka → etherType b ≠ 0x88E5 →
        (s.classify 1 p b = .bypass → s.flightsAt far = [] → Gives c s fun t =>
          t = { s with regs := t.regs, fur := { s.fur with flights := t.fur.flights }, outbox := .frame 0 p b true :: s.outbox } ∧
          (∀ i, t.flightsAt i = s.flightsAt i) ∧ Claims.Up s t (Reg.FUR_PORT_BYPASS_COUNT far) 1 ∧ Claims.Up s t (Reg.FUR_PORT_IN_NO_TAG_COUNT p) 1) ∧
        (s.classify 1 p b ≠ .bypass → Gives c s fun t => only far t [Reg.FUR_PORT_IN_NO_TAG_COUNT p, Reg.FUR_PORT_MATCH_DROP_COUNT far])) ∧
      (etherType b = 0x88E5 →
        let tci := byteAt b (o + 2)
        let sl := byteAt b (o + 3)
        let len := if tci.testBit 5 then 16 else 8
        ((tci.testBit 7 = true ∨ 48 ≤ sl ∨ b.length < o + len + 16 ∨ (sl ≠ 0 ∧ sl ≠ b.length - o - len - 16)) →
          Gives c s fun t => only far t [Reg.FUR_PORT_IN_BAD_TAG_COUNT p]) ∧
        (∀ x, readTag b o = some x → x.pn ≠ 0 →
          (s.findRx p x (slice b 6 6) = none → Gives c s fun t =>
            only far t [if tci.testBit 5 then Reg.FUR_PORT_IN_UNKNOWN_SCI_COUNT p else Reg.FUR_PORT_IN_NO_SCI_COUNT p]) ∧
          ∀ ch, s.findRx p x (slice b 6 6) = some ch →
            let a := 4 * ch + x.an
            let pn := s.recoverPn a x.pn
            let kept (t : State) : Prop := Claims.unmessaged t = Claims.unmessaged s ∧ t.flightsAt far = s.flightsAt far ∧ t.sa a = s.sa a
            ((s.getF (Reg.FUR_SA_DW0_ENABLE a) = 0 ∨ s.saState a = 0) → Gives c s kept) ∧
            (s.getF (Reg.FUR_SA_DW0_ENABLE a) = 1 → s.saState a ≠ 0 → pn ≠ 0 →
              (s.getF (Reg.FUR_CH_DW0_REPLAY ch) = 1 → (pn < (s.sa a).pn ∨ pn ∈ (s.sa a).seen) → Gives c s kept) ∧
              ((s.getF (Reg.FUR_CH_DW0_REPLAY ch) = 1 → (s.sa a).pn ≤ pn ∧ pn ∉ (s.sa a).seen) → Gives c s fun t => t.outbox = s.outbox ∧
                ∃ f r, t.flightsAt far = s.flightsAt far ++ [f] ∧ f.rx = some r ∧ f.assoc = some a ∧ r.pn = pn ∧
                  f.data.length + len + 16 = b.length ∧ f.data.take o = b.take o))))) ∧
    (∀ f r a, s.flightsAt far = [f] → f.rx = some r → f.assoc = some a →
      let tail := f.data.take (f.data.length - 8) ++ zeros (min 8 f.data.length)
      let again : Prop := r.replay = true ∧ (r.pn < (s.sa a).pn ∨ r.pn ∈ (s.sa a).seen)
      let late (m : Bool) : Prop := Gives (.icvVerdict p m) s fun t => t.flightsAt far = [] ∧ .frame 0 p tail false ∈ t.outbox ∧ t.sa a = s.sa a ∧
        Claims.Up s t (Reg.FUR_PORT_LATE_DROP_COUNT far) 1
      (r.commons = false →
        (r.valid = true → ¬again → Gives (.icvVerdict p false) s fun t => t.flightsAt far = [] ∧ Claims.unmessaged t = .frame 0 p f.data f.ok :: Claims.unmessaged s ∧
          (t.sa a).next = max (s.sa a).next (r.pn + 1) ∧ (t.sa a).pn = max (s.sa a).pn ((t.sa a).next - r.win) ∧ ((t.sa a).next ≤ r.pn + 1024 → r.pn ∈ (t.sa a).seen) ∧
          (t.sa a).key = (s.sa a).key) ∧
        (r.valid = true → again → late false) ∧ (r.valid = false → (r.check = false ∨ r.conf = true) → late false) ∧
        (r.valid = false → r.check = true → r.conf = false → Gives (.icvVerdict p false) s fun t => t.flightsAt far = [] ∧
          Claims.unmessaged t = .frame 0 p f.data f.ok :: Claims.unmessaged s ∧ t.sa a = s.sa a)) ∧
      (r.commons = true → Gives (.icvVerdict p false) s fun t => t.flightsAt far = [] ∧ Claims.unmessaged t = Claims.unmessaged s) ∧
      (r.commons = false → s.winOver (p / 8) = true → late true ∧ Gives (.icvVerdict p true) s fun t =>
        t.getF (Reg.FUR_PG_MISMATCH_WINDOW (p / 8)) = 1 ∧ t.pgState (p / 8) = st) ∧
      (r.commons = false → s.winOver (p / 8) = false → s.getF (Reg.FUR_PG_MISMATCH_WINDOW (p / 8)) < 15 → late true ∧ Gives (.icvVerdict p true) s fun t =>
        t.getF (Reg.FUR_PG_MISMATCH_WINDOW (p / 8)) = s.getF (Reg.FUR_PG_MISMATCH_WINDOW (p / 8)) + 1 ∧ t.pgState (p / 8) = st ∧
        Claims.Up s t (Reg.FUR_PG_MISMATCH_TOTAL (p / 8)) 1 ∧ Claims.Up s t (Reg.FUR_PORT_MISMATCH_DROP_COUNT far) 1 ∧ t.alarmed 22 = true) ∧
      (s.winOver (p / 8) = false → s.getF (Reg.FUR_PG_MISMATCH_WINDOW (p / 8)) = 15 → Gives (.icvVerdict p true) s fun t => t.pgState (p / 8) = 5 ∧
        (t.getF Reg.FUR_GLB_EVENT_FAULTED).testBit (p / 8) = true)) ∧
    ((∀ f ∈ s.flightsAt far, f.rx = none) → ∀ m, Gives (.icvVerdict p m) s fun t => t = s) ∧
    (∀ g, (∀ x, getC none s.fur.winAt g = some x → x + 1000 ≤ s.drv.tick → Gives (.furrowMismatchWindowClose g) s fun t =>
        t.getF (Reg.FUR_PG_MISMATCH_WINDOW g) = 0 ∧ getC none t.fur.winAt g = none ∧ FieldsBut s t [Reg.FUR_PG_MISMATCH_WINDOW g]) ∧
      ((∀ x, getC none s.fur.winAt g = some x → s.drv.tick < x + 1000) → Gives (.furrowMismatchWindowClose g) s fun t => t = s))

/-- The commands of a port group do what its state lets them: STOP drains to STOPPED, START retunes and tests the pipelines after a fault, a
held START follows its drain. Its configuration is written only while it is stopped or faulted; a rule takes its shadow whole or is refused;
a port comes up in a running group alone; an accumulator is written back (R341, R342, R349 to R353, R355, R357). -/
def Obligations.PortGroupsAndTheirConfiguration : Prop :=
  ∀ (s : State) (g : Nat), s.shown → s.lc.variant.hasFurrow = true → g < 2 →
    let st := s.pgState g
    let result (t : State) (x : Nat) : Prop := OnlyFields s t [Reg.FUR_PG_STAT_RESULT g] ∧ t.getF (Reg.FUR_PG_STAT_RESULT g) = x
    let other (t : State) : Prop := t.pgState (1 - g) = s.pgState (1 - g) ∧ t.root = s.root ∧ t.queues = s.queues ∧ t.fur.sas = s.fur.sas ∧
      t.fur.arms = s.fur.arms
    let starting (t : State) (kat : Bool) : Prop := t.pgState g = 4 ∧ t.getF (Reg.FUR_PG_STAT_MODE g) = s.getF (Reg.FUR_PG_CFG_MODE g) ∧
      getC false t.fur.kat g = kat ∧ t.getF (Reg.FUR_PG_MISMATCH_WINDOW g) = 0 ∧ t.getF (Reg.FUR_PG_STAT_IN_PROGRESS g) = 1 ∧ other t ∧
      ∀ p i, p / 8 = g → (i = p ∨ i = 16 + p) → s.getF (Reg.FUR_PORT_STAT_LINK_UP i) ≤ 1 → t.getF (Reg.FUR_PORT_STAT_LINK_UP i) = 0
    let drained : Prop := ∀ p, p / 8 = g → s.flightsAt p = [] ∧ s.flightsAt (16 + p) = []
    let refused (t : State) (x : Nat) : Prop := OnlyFields s t [Reg.FUR_PG_STAT_RESULT g, Reg.FUR_GLB_EVENT_CFG_REFUSED] ∧
      t.getF (Reg.FUR_PG_STAT_RESULT g) = x ∧ t.getF Reg.FUR_GLB_EVENT_CFG_REFUSED = 1
    ((st = 0 → Gives (.pgStop g) s fun t => t.pgState g = 1 ∧ t.getF (Reg.FUR_PG_STAT_IN_PROGRESS g) = 1 ∧ other t ∧ t.fur = s.fur) ∧
      (st = 2 → Gives (.pgStop g) s fun t => t.pgState g = 1 ∧ other t) ∧
      (st = 4 → Gives (.pgStop g) s fun t => result t 0x0B01) ∧ ((st = 1 ∨ st = 3 ∨ st = 5) → Gives (.pgStop g) s fun t => result t 0)) ∧
    (s.getF Reg.PWR_CLK_STATUS_REF156_OK = 0 → Gives (.pgStart g) s fun t => result t 0x0B02) ∧
    (s.getF Reg.PWR_CLK_STATUS_REF156_OK = 1 → (st = 1 → Gives (.pgStart g) s fun t => t.pgState g = 2 ∧ other t) ∧
      (st = 3 → Gives (.pgStart g) s fun t => starting t false) ∧ (st = 5 → Gives (.pgStart g) s fun t => starting t true) ∧
      ((st = 0 ∨ st = 2 ∨ st = 4) → Gives (.pgStart g) s fun t => result t 0)) ∧
    ((st = 1 → drained → Gives (.pgStopComplete g) s fun t => t.pgState g = 3 ∧ t.getF (Reg.FUR_PG_STAT_RESULT g) = 0 ∧
        t.getF (Reg.FUR_PG_STAT_IN_PROGRESS g) = 0 ∧ other t ∧ t.fur = s.fur) ∧
      (st = 2 → drained → Gives (.pgStopComplete g) s fun t => starting t false) ∧
      (((st ≠ 1 ∧ st ≠ 2) ∨ ¬drained) → Gives (.pgStopComplete g) s fun t => t = s)) ∧
    (∀ pass, (st = 4 → (pass = true ∨ getC false s.fur.kat g = false) → Gives (.pgStartComplete g pass) s fun t => t.pgState g = 0 ∧
        t.getF (Reg.FUR_PG_STAT_RESULT g) = 0 ∧ other t) ∧
      (st = 4 → pass = false → getC false s.fur.kat g = true → Gives (.pgStartComplete g pass) s fun t => t.pgState g = 5 ∧
        t.getF (Reg.FUR_PG_STAT_RESULT g) = 0x0801 ∧ other t) ∧
      (st ≠ 4 → Gives (.pgStartComplete g pass) s fun t => t = s)) ∧
    (∀ val, let off := val / 16 % 64
      (st ≠ 3 → st ≠ 5 → Gives (.pgConfigWrite g val) s fun t => refused t 0x0B02) ∧
      ((st = 3 ∨ st = 5) → Gives (.pgConfigWrite g val) s fun t => t.getF (Reg.FUR_PG_CFG_MODE g) = val % 4 ∧
        t.getF (Reg.FUR_PG_CFG_KR g) = val / 4 % 2 ∧ t.getF (Reg.FUR_PG_STAT_MODE g) = s.getF (Reg.FUR_PG_STAT_MODE g) ∧
        (off ≤ 60 → t.getF (Reg.FUR_PG_CFG_FLOW_OFF g) = off ∧
          OnlyFields s t [Reg.FUR_PG_CFG_MODE g, Reg.FUR_PG_CFG_KR g, Reg.FUR_PG_CFG_FLOW_OFF g]) ∧
        (60 < off → t.getF (Reg.FUR_PG_CFG_FLOW_OFF g) = s.getF (Reg.FUR_PG_CFG_FLOW_OFF g) ∧ t.getF (Reg.FUR_PG_STAT_RESULT g) = 0x0104 ∧
          t.getF Reg.FUR_GLB_EVENT_CFG_REFUSED = 1))) ∧
    (∀ side p val, side < 2 → p / 8 = g → s.portExists p = true →
      let i := 16 * side + p
      let mf := val / 16 % 16384
      let fc := val / 4 % 4
      let same : Prop := mf = s.getF (Reg.FUR_PORT_CFG_MAX_FRAME i) ∧ (side = 0 → fc = s.getF (Reg.FUR_PORT_CFG_FC_MODE i))
      let frees (t : State) : Prop := t.getF (Reg.FUR_PORT_CFG_DEFAULT_ACT i) = val % 2 ∧
        t.getF (Reg.FUR_PORT_CFG_DIVERT_RATE i) = val / 2 ^ 20 % 4096 ∧
        t.getF (Reg.FUR_PORT_CFG_MKA_EN i) = (if side = 1 then val / 2 % 2 else s.getF (Reg.FUR_PORT_CFG_MKA_EN i)) ∧
        FieldsBut s t [Reg.FUR_PORT_CFG_DEFAULT_ACT i, Reg.FUR_PORT_CFG_DIVERT_RATE i, Reg.FUR_PORT_CFG_MKA_EN i, Reg.FUR_PORT_CFG_FC_MODE i,
          Reg.FUR_PORT_CFG_MAX_FRAME i, Reg.FUR_PG_STAT_RESULT g, Reg.FUR_GLB_EVENT_CFG_REFUSED]
      (¬same → st ≠ 3 → st ≠ 5 → Gives (.portConfigWrite side p val) s fun t => frees t ∧
        t.getF (Reg.FUR_PORT_CFG_MAX_FRAME i) = s.getF (Reg.FUR_PORT_CFG_MAX_FRAME i) ∧ t.getF (Reg.FUR_PG_STAT_RESULT g) = 0x0B02 ∧
        t.getF (Reg.FUR_PORT_CFG_FC_MODE i) = s.getF (Reg.FUR_PORT_CFG_FC_MODE i) ∧ t.getF Reg.FUR_GLB_EVENT_CFG_REFUSED = 1) ∧
      (same → Gives (.portConfigWrite side p val) s fun t => frees t ∧ t.getF (Reg.FUR_PG_STAT_RESULT g) = s.getF (Reg.FUR_PG_STAT_RESULT g)) ∧
      ((st = 3 ∨ st = 5) → Gives (.portConfigWrite side p val) s fun t => frees t ∧
        (64 ≤ mf → mf ≤ 9216 → t.getF (Reg.FUR_PORT_CFG_MAX_FRAME i) = mf) ∧
        ((mf < 64 ∨ 9216 < mf) → mf ≠ s.getF (Reg.FUR_PORT_CFG_MAX_FRAME i) → t.getF (Reg.FUR_PG_STAT_RESULT g) = 0x0104 ∧
          t.getF (Reg.FUR_PORT_CFG_MAX_FRAME i) = s.getF (Reg.FUR_PORT_CFG_MAX_FRAME i)) ∧
        (side = 0 → fc ≠ 3 → t.getF (Reg.FUR_PORT_CFG_FC_MODE i) = fc))) ∧
    (∀ r, r < 8192 → let i := 8192 * g + r
      let v (f : Nat → Fld) : Nat := s.shadowF (f i)
      let bad : Prop := (v Reg.FUR_RULE_DW0_ACTION = 2 ∧ (v Reg.FUR_RULE_DW0_DIR = 1 ∨ s.getF (Reg.FUR_CH_DW0_PG (v Reg.FUR_RULE_DW5_CHANNEL)) ≠ g)) ∨
        v Reg.FUR_RULE_DW0_CLEAR_TAGS = 3 ∨ v Reg.FUR_RULE_DW0_ACTION = 3
      Gives (.ruleCommit g r) s fun t => t.getF (Reg.FUR_PG_RULE_STAT_LAST g) = r ∧ t.root = s.root ∧ t.outbox = s.outbox ∧
        (∀ w, w < 8 → getC none t.fur.shadow (0x640000 + 0x20 * i + 4 * w) = none) ∧
        (∀ j, j ≠ i → ∀ f ∈ ruleFlds j, t.getF f = s.getF f) ∧
        (bad → t.getF (Reg.FUR_PG_RULE_STAT_REFUSED g) = 1 ∧ t.getF Reg.FUR_GLB_EVENT_RULE_REFUSED = 1 ∧ ∀ f ∈ ruleFlds i, t.getF f = s.getF f) ∧
        (¬bad → ∀ f ∈ ruleFlds i, s.shadowF f < 2 ^ f.w → t.getF f = s.shadowF f)) ∧
    (∀ side p up remote, side < 2 → p / 8 = g → s.portExists p = true →
      let i := 16 * side + p
      let was := s.getF (Reg.FUR_PORT_STAT_LINK_UP i)
      Gives (.portLinkChange side p up remote) s fun t => t.getF (Reg.FUR_PORT_STAT_REMOTE_FAULT i) = (if remote then 1 else 0) ∧
        (up = true → st ≠ 0 → t.getF (Reg.FUR_PORT_STAT_LINK_UP i) = was) ∧
        (up = true → st = 0 → was = 0 → t.getF (Reg.FUR_PORT_STAT_LINK_UP i) = 1 ∧ Claims.Up s t (Reg.FUR_PORT_STAT_FLAPS i) 1 ∧
          t.getF Reg.FUR_GLB_EVENT_LINK_CHANGE = 1 ∧ t.getF (Reg.FUR_PORT_STAT_TRAINING i) = 0) ∧
        (up = false → was = 1 → t.getF (Reg.FUR_PORT_STAT_LINK_UP i) = 0 ∧ Claims.Up s t (Reg.FUR_PORT_STAT_FLAPS i) 1)) ∧
    (∀ a, let h := s.chGroup (a / 4)
      ((∀ x ∈ getC [] s.fur.acc h, x.assoc ≠ a) → Gives (.statsWriteback a) s fun t => t = s) ∧
      (∀ x ∈ getC [] s.fur.acc h, x.assoc = a → Gives (.statsWriteback a) s fun t => (∀ y ∈ getC [] t.fur.acc h, y.assoc ≠ a) ∧
        t.fur.sas = s.fur.sas ∧ t.root = s.root ∧
        ∀ y, y.assoc ≠ a → (y ∈ getC [] t.fur.acc h ↔ y ∈ getC [] s.fur.acc h)))

/-! ### Furrow: channels, associations and MKA (spec/17) -/

/-- A channel or an association takes its shadow whole or refuses it with a status; an arm is taken or refused, and a frame is decided under
the association that the arm due before it names. Each protected frame takes the next PN of its association, whose threshold and last value
show. Keys are installed and cleared only where the association is not in use (R344, R360, R362 to R369, R372, R379). -/
def Obligations.ChannelsAndAssociations : Prop :=
  ∀ s : State, s.live = true →
    (∀ c, c < 16384 → s.shown → s.lc.variant.hasFurrow = true →
      let v (f : Nat → Fld) : Nat := s.shadowF (f c)
      let bad : Prop := v Reg.FUR_CH_DW0_PORT / 8 ≠ v Reg.FUR_CH_DW0_PG ∨ v Reg.FUR_CH_DW0_CONF_OFF = 3 ∨ 2 ^ 30 < v Reg.FUR_CH_DW3_REPLAY_WIN ∨
        (v Reg.FUR_CH_DW0_DIR = 0 ∧ v Reg.FUR_CH_DW0_VALIDATE = 1)
      let fixed : Prop := (∃ n, n < 4 ∧ s.saState (4 * c + n) ≠ 0) ∧ ∃ f ∈ chFixed c, s.shadowF f ≠ s.getF f
      let clash : Prop := v Reg.FUR_CH_DW0_VALID = 1 ∧ ∃ d ∈ s.validChannels, d ≠ c ∧ s.getF (Reg.FUR_CH_DW0_DIR d) = v Reg.FUR_CH_DW0_DIR ∧
        s.getF (Reg.FUR_CH_DW0_PORT d) = v Reg.FUR_CH_DW0_PORT ∧ ((v Reg.FUR_CH_DW0_KIND = 1 ∧ s.getF (Reg.FUR_CH_DW0_KIND d) = 1) ∨
          (v Reg.FUR_CH_DW0_DIR = 1 ∧ ((v Reg.FUR_CH_DW0_DEFAULT = 1 ∧ s.getF (Reg.FUR_CH_DW0_DEFAULT d) = 1) ∨
            (s.getF (Reg.FUR_CH_DW1_SCI_LO d) = v Reg.FUR_CH_DW1_SCI_LO ∧ s.getF (Reg.FUR_CH_DW2_SCI_HI d) = v Reg.FUR_CH_DW2_SCI_HI))))
      let refused (x : Nat) : Prop := Gives (.channelCommit c) s fun t => t.getF Reg.FUR_SA_RESULT_STATUS = x ∧
        t.getF Reg.FUR_SA_RESULT_IDX_INDEX = c ∧ t.getF Reg.FUR_SA_RESULT_IDX_KIND = 0 ∧ t.getF Reg.FUR_SA_EVENT_COMMIT_REFUSED = 1 ∧
        (∀ f ∈ chFlds c, t.getF f = s.getF f) ∧ ∀ w, w < 6 → getC none t.fur.shadow (0x800000 + 0x40 * c + 4 * w) = none
      (bad → refused 0x0104) ∧ (¬bad → fixed → refused 0x0B01) ∧ (¬bad → ¬fixed → clash → refused 0x0B02) ∧
      (¬bad → ¬fixed → ¬clash → Gives (.channelCommit c) s fun t => t.fur.sas = s.fur.sas ∧ t.root = s.root ∧
        (∀ d, d ≠ c → ∀ f ∈ chFlds d, t.getF f = s.getF f) ∧
        ∀ f ∈ chFlds c, s.shadowF f < 2 ^ f.w → (f ≠ Reg.FUR_CH_DW4_EXH_THRESH_LO c ∧ f ≠ Reg.FUR_CH_DW5_EXH_THRESH_HI c) → t.getF f = s.shadowF f)) ∧
    (∀ a, a < 65536 → s.shown → s.lc.variant.hasFurrow = true →
      let tx : Prop := s.getF (Reg.FUR_CH_DW0_DIR (a / 4)) = 0
      let en := s.shadowF (Reg.FUR_SA_DW0_ENABLE a)
      let bad : Prop := (en = 1 ∧ (tx ∨ s.saState a ≠ 1)) ∨ (¬tx ∧ s.shadowPn a < (s.sa a).pn)
      (bad → Gives (.saCommit a) s fun t => t.getF Reg.FUR_SA_RESULT_STATUS = 0x0104 ∧ t.getF Reg.FUR_SA_RESULT_IDX_INDEX = a ∧
        t.getF Reg.FUR_SA_RESULT_IDX_KIND = 1 ∧ t.getF Reg.FUR_SA_EVENT_COMMIT_REFUSED = 1 ∧ t.sa a = s.sa a ∧
        t.getF (Reg.FUR_SA_DW0_ENABLE a) = s.getF (Reg.FUR_SA_DW0_ENABLE a)) ∧
      (¬bad → ¬tx → en ≤ 1 → Gives (.saCommit a) s fun t => t.getF (Reg.FUR_SA_DW0_ENABLE a) = en ∧ t.sa a = { s.sa a with pn := s.shadowPn a } ∧
        (∀ j, j ≠ a → t.sa j = s.sa j) ∧ FieldsBut s t [Reg.FUR_SA_DW0_ENABLE a]) ∧
      (¬bad → tx → Gives (.saCommit a) s fun t => t.regs = s.regs ∧ t.fur.sas = s.fur.sas)) ∧
    (∀ c val, c < 16384 → s.shown → s.lc.variant.hasFurrow = true →
      let an := val / 16 % 4
      let mode := val / 64 % 4
      let encv : Prop := s.getF (Reg.FUR_CH_DW8_ENC_VALID c) = 1
      let bad : Prop := s.getF (Reg.FUR_CH_DW0_DIR c) ≠ 0 ∨ s.saState (4 * c + an) ≠ 1 ∨ (encv ∧ s.getF (Reg.FUR_CH_DW8_ENC_AN c) = an) ∨ (¬encv ∧ mode ≠ 2)
      let refused (x : Nat) : Prop := Gives (.switchArm c val) s fun t => t.fur = s.fur ∧ t.getF Reg.FUR_SA_RESULT_STATUS = x ∧
        t.getF Reg.FUR_SA_RESULT_IDX_INDEX = c ∧ t.getF Reg.FUR_SA_RESULT_IDX_KIND = 0 ∧ t.getF Reg.FUR_SA_EVENT_ARM_REFUSED = 1
      (mode = 3 → refused 0x0104) ∧ ((mode = 1 ∨ mode = 2) → bad → refused 0x0B02) ∧
      (mode ≠ 3 → (mode = 0 ∨ ¬bad) → Gives (.switchArm c val) s fun t => (∀ d, d ≠ c → t.arm d = s.arm d) ∧
        t.arm c = (if mode = 0 then none else some (an, mode, s.swPn c)) ∧ t.getF (Reg.FUR_CH_DW8_ARMED c) = (if mode = 0 then 0 else 1) ∧
        t.getF (Reg.FUR_CH_DW8_ENC_AN c) = s.getF (Reg.FUR_CH_DW8_ENC_AN c))) ∧
    (∀ p b c clear fec, s.portExists p = true → s.pgState (p / 8) = 0 → s.getF (Reg.FUR_PORT_STAT_LINK_UP p) = 1 → 60 ≤ b.length →
      etherType b ≠ 0x8808 → b.length + 4 ≤ s.getF (Reg.FUR_PORT_CFG_MAX_FRAME p) → s.flightsAt p = [] → s.classify 0 p b = .protect c clear →
      s.getF (Reg.FUR_CH_DW0_VALID c) = 1 → s.getF (Reg.FUR_CH_DW0_DIR c) = 0 → s.getF (Reg.FUR_CH_DW0_KIND c) ≠ 1 →
      let cur := 4 * c + s.getF (Reg.FUR_CH_DW8_ENC_AN c)
      let due : Prop := ∃ an mode x, s.arm c = some (an, mode, x) ∧ (mode = 2 ∨ s.saState cur = 3 ∨ x ≤ (s.sa cur).pn)
      let encv : Prop := s.getF (Reg.FUR_CH_DW8_ENC_VALID c) = 1
      ∀ a, (due → ∀ an mode x, s.arm c = some (an, mode, x) → an < 4 ∧ a = 4 * c + an) → (¬due → a = cur ∧ a / 4 = c) →
        let pn := (s.sa a).pn
        Gives (.egressFrame p b true fec false false) s fun t => Claims.unmessaged t = Claims.unmessaged s ∧
          (due → t.arm c = none ∧ t.getF (Reg.FUR_CH_DW8_ENC_AN c) = a % 4 ∧ t.getF (Reg.FUR_CH_DW8_ENC_VALID c) = 1 ∧
            t.getF Reg.FUR_SA_EVENT_SWITCHED = 1) ∧
          (¬due → t.arm c = s.arm c ∧ t.getF (Reg.FUR_CH_DW8_ENC_AN c) = s.getF (Reg.FUR_CH_DW8_ENC_AN c)) ∧
          ((¬due → ¬encv ∨ s.saState a = 0) → (due → s.saState a = 0) → t.flightsAt p = [] ∧ Claims.Up s t (Reg.FUR_PORT_EG_NO_SA_COUNT p) 1 ∧
            t.sa a = s.sa a) ∧
          ((due ∨ encv) → s.saState a = 3 → t.flightsAt p = [] ∧ Claims.Up s t Reg.FUR_SA_EXH_DROP_COUNT 1 ∧ t.sa a = s.sa a) ∧
          ((due ∨ encv) → s.saState a = 1 →
            (t.sa a).pn = pn + 1 ∧ (t.sa a).key = (s.sa a).key ∧ t.saState a = (if pn = s.lastPn c then 3 else 1) ∧
            (pn = s.lastPn c → t.getF Reg.FUR_SA_EVENT_EXHAUSTED = 1) ∧
            (pn = s.exhThresh c → t.getF (Reg.FUR_SA_DW0_THRESH a) = 1 ∧ t.getF Reg.FUR_SA_EVENT_THRESH = 1) ∧
            (pn ≠ s.exhThresh c → t.getF (Reg.FUR_SA_DW0_THRESH a) = s.getF (Reg.FUR_SA_DW0_THRESH a)) ∧
            ∃ f, t.flightsAt p = [f] ∧ f.assoc = some a ∧ f.ok = true ∧ f.late = false ∧
              let h := 12 + 4 * min clear (tagCount b)
              f.data.length = b.length + 16 + (if s.getF (Reg.FUR_CH_DW0_SC c) = 1 then 16 else 8) ∧ f.data.take h = b.take h ∧
              slice f.data h 2 = [0x88, 0xE5] ∧ byteAt f.data (h + 2) % 4 = a % 4 ∧
              byteAt f.data (h + 3) = (if b.length - h < 48 then b.length - h else 0) ∧ slice f.data (h + 4) 4 = be 4 (pn % 2 ^ 32))) ∧
    (∀ g n gr gr1 s1, s.resolveAll gr n = (gr1, s1) →
      let b := gr.inp
      let a := leAt b 0 2
      let c := a / 4
      let en := byteAt b 2
      let pn := if leAt b 8 8 = 0 then 1 else leAt b 8 8
      let keyLen := if s1.getF (Reg.FUR_CH_DW0_SUITE c) % 2 = 1 then 32 else 16
      let tx : Prop := s1.getF (Reg.FUR_CH_DW0_DIR c) = 0
      let used (w : State) (j : Nat) : Prop := (∃ x ∈ w.fur.flights, ∃ f ∈ x.2, f.assoc = some j) ∨
        (w.getF (Reg.FUR_CH_DW0_DIR (j / 4)) = 0 ∧ ((w.getF (Reg.FUR_CH_DW8_ENC_VALID (j / 4)) = 1 ∧ w.getF (Reg.FUR_CH_DW8_ENC_AN (j / 4)) = j % 4) ∨
          ∃ m x, w.arm (j / 4) = some (j % 4, m, x))) ∨ (w.getF (Reg.FUR_CH_DW0_DIR (j / 4)) ≠ 0 ∧ w.getF (Reg.FUR_SA_DW0_ENABLE j) = 1)
      let installed (i : Instr) (w : State) (gr2 : Graph) (key salt : Bytes) (source : Nat) : Prop :=
        (en = 1 → tx → Ends i s g n gr2 0x0104 w) ∧ ((en = 1 → ¬tx) → used w a → Ends i s g n gr2 0x0B01 w) ∧
        ((en = 1 → ¬tx) → ¬used w a → ∃ u, Commits i s g n gr2 [] u ∧
          u.sa a = { key := key, salt := salt, ssci := slice b 4 4, pn := pn, next := pn } ∧ (∀ j, j ≠ a → u.sa j = w.sa j) ∧
          u.saState a = 1 ∧ u.getF (Reg.FUR_SA_DW0_THRESH a) = 0 ∧ u.getF (Reg.FUR_SA_DW0_SOURCE a) = source ∧
          u.getF (Reg.FUR_SA_DW0_KEY_GEN a) = (w.getF (Reg.FUR_SA_DW0_KEY_GEN a) + 1) % 256 ∧ (tx → u.getF (Reg.FUR_SA_DW0_ENABLE a) = 0) ∧
          (¬tx → u.getF (Reg.FUR_SA_DW0_ENABLE a) = en) ∧ u.root = w.root ∧ u.fur.arms = w.fur.arms)
      (∀ k, gr1.key 0 = .key k → AtSink s 0x0B11 g gr n → b.length = 28 → en ≤ 1 → byteAt b 3 = 0 →
        ((attrMode k.attr ≠ letter 'X' ∨ (attrPaths k.attr).testBit 1 = false) → Ends (.linkSaInstall g) s g n gr1 0x0203 s1) ∧
        (attrMode k.attr = letter 'X' → (attrPaths k.attr).testBit 1 = true →
          ((attrUsage k.attr ≠ usage2 '9' '0' ∨ (k.ktype ≠ 0x42 ∧ k.ktype ≠ 0x43)) → Ends (.linkSaInstall g) s g n gr1 0x0204 s1) ∧
          (attrUsage k.attr = usage2 '9' '0' → (k.ktype = 0x42 ∨ k.ktype = 0x43) →
            (s1.getF (Reg.FUR_CH_DW0_VALID c) = 0 → Ends (.linkSaInstall g) s g n gr1 0x0B02 s1) ∧
            (s1.getF (Reg.FUR_CH_DW0_VALID c) = 1 → k.key.length ≠ keyLen → Ends (.linkSaInstall g) s g n gr1 0x0204 s1) ∧
            (s1.getF (Reg.FUR_CH_DW0_VALID c) = 1 → k.key.length = keyLen → installed (.linkSaInstall g) s1 gr1 k.key (slice b 16 12) 2)))) ∧
      (NoKeys gr → AtSink s 0x0B12 g gr n → (b.length = 56 ∨ b.length = 72) → en ≤ 1 → byteAt b 3 = 0 →
        (s.root.linkMaster = none → Ends (.linkSaInstallWrapped g) s g n gr 0x0201 s) ∧
        ∀ m, s.root.linkMaster = some m → (keyUnwrapPad m (b.drop 16) = none → Ends (.linkSaInstallWrapped g) s g n gr 0x0301 s) ∧
          ∀ key salt, keyUnwrapPad m (b.drop 16) = some (key ++ salt) → salt.length = 12 → key.length + 40 = b.length →
            (s.getF (Reg.FUR_CH_DW0_VALID c) = 0 → Ends (.linkSaInstallWrapped g) s g n gr 0x0B02 s) ∧
            (s.getF (Reg.FUR_CH_DW0_VALID c) = 1 → key.length = keyLen → installed (.linkSaInstallWrapped g) s gr key salt 3)) ∧
      (NoKeys gr → AtSink s 0x0B13 g gr n → b.length = 4 → leAt b 2 2 = 0 → (used s a → Ends (.linkSaClear g) s g n gr 0x0B01 s) ∧
        (¬used s a → ∃ u, Commits (.linkSaClear g) s g n gr [] u ∧ u.sa a = {} ∧ u.saState a = 0 ∧ (∀ j, j ≠ a → u.sa j = s.sa j) ∧ u.root = s.root)) ∧
      (NoKeys gr → AtSink s 0x0B14 g gr n → b.length = 12 → a < 16384 → en ≤ 3 →
        ((byteAt b 3 = 0 ∨ 2 < byteAt b 3) → Ends (.linkSaSwitch g) s g n gr 0x0104 s) ∧
        (∀ x, (byteAt b 3 = 1 ∨ byteAt b 3 = 2) → s.armBad a en (byteAt b 3) = some x → x = 0x0B02 ∧ ∃ u, Ends (.linkSaSwitch g) s g n gr x u ∧
          u.fur = s.fur ∧ u.getF Reg.FUR_SA_EVENT_ARM_REFUSED = 1) ∧
        ((byteAt b 3 = 1 ∨ byteAt b 3 = 2) → s.armBad a en (byteAt b 3) = none → ∃ u, Commits (.linkSaSwitch g) s g n gr [] u ∧
          u.arm a = some (en, byteAt b 3, leAt b 4 8) ∧ u.getF (Reg.FUR_CH_DW8_ARMED a) = 1 ∧ u.fur.sas = s.fur.sas)))

/-- An MKA instance is made on channels of its port, deleted with its keys, and reported; persistent instances have commands of their own.
A diverted MKPDU reaches the instance of its port and CKN or is discarded; hello and life timers act, and run again or not. Statistics are read,
cleared or zeroed; a poisoned line ends the read. A link master replaces the old one (R372 to R377, R379). -/
def Obligations.MkaStatisticsAndLinkMaster : Prop :=
  ∀ s : State, s.live = true →
    (∀ g n gr gr1 s1 c op per, s.resolveAll gr n = (gr1, s1) →
      ((c = .linkMkaCreate g ∧ op = 0x0B01 ∧ per = false) ∨ (c = .linkMkaCreatePersist g ∧ op = 0x0B04 ∧ per = true)) → AtSink s op g gr n →
      let b := gr.inp
      let p := leAt b 0 2
      let tx := leAt b 2 2
      let rx := leAt b 4 2
      let hello := leAt b 8 2
      let len := byteAt b 10
      let sound : Prop := (hello = 0 ∨ (500 ≤ hello ∧ hello ≤ 10000)) ∧ 1 ≤ len ∧ len ≤ 32 ∧ leAt b 11 5 = 0 ∧ allZero (b.drop (16 + len)) = true
      (b.length ≠ 48 → Ends c s g n gr 0x0102 s) ∧
      (b.length = 48 → (byteAt b 7 ≠ (if per then 1 else 0) ∨ ¬sound) → Ends c s g n gr 0x0104 s) ∧
      (∀ k, gr1.key 0 = .key k → b.length = 48 → byteAt b 7 = (if per then 1 else 0) → sound → Claims.Fits k ['X'] (usage2 '9' '0') [0x40, 0x41] →
        let fits : Prop := s1.portExists p = true ∧ tx < 16384 ∧ rx < 16384 ∧
          (∀ ch, (ch = tx ∨ ch = rx) → s1.getF (Reg.FUR_CH_DW0_VALID ch) = 1 ∧ s1.getF (Reg.FUR_CH_DW0_PORT ch) = p ∧
            ∀ i y, (i, some y) ∈ s1.fur.mka → y.txc ≠ ch ∧ y.rxc ≠ ch) ∧
          s1.getF (Reg.FUR_CH_DW0_DIR tx) = 0 ∧ s1.getF (Reg.FUR_CH_DW0_DIR rx) ≠ 0
        (¬fits → Ends c s g n gr1 0x0B02 s1) ∧
        (fits → per = true → 128 ≤ s1.root.persist.length → Ends c s g n gr1 0x0B01 s1) ∧
        (fits → (∀ i, i < 4096 → s1.mka i ≠ none) → Ends c s g n gr1 0x0B01 s1) ∧
        (∀ i, fits → (per = true → s1.root.persist.length < 128) → s1.mkaFree = some i → s1.drv.timers.length < 61440 → 8 ≤ gr.desc.outLen →
          i < 4096 ∧ s1.mka i = none ∧ ∃ u y, Commits c s g n gr1 (le 2 i ++ zeros 6) u ∧ u.mka i = some y ∧ (∀ j, j ≠ i → u.mka j = s1.mka j) ∧
            y.port = p ∧ y.txc = tx ∧ y.rxc = rx ∧ y.prio = byteAt b 6 ∧ y.hello = (if hello = 0 then 2000 else hello) ∧ y.ckn = slice b 16 len ∧
            y.cak = k.key ∧ y.persist = per ∧ y.peer = none ∧ y.sent = (if s1.pgState (p / 8) = 0 then 1 else 0) ∧ u.fur.sas = s1.fur.sas ∧
            u.root.persist = (if per then s1.root.persist ++ [⟨i, b, k.key⟩] else s1.root.persist)) ∧
        (fits → (per = true → s1.root.persist.length < 128) → 61440 ≤ s1.drv.timers.length → ∃ u, Ends c s g n gr1 0x0B01 u ∧ u.fur = s1.fur ∧
          u.root = s1.root))) ∧
    (∀ g n gr c op, NoKeys gr → AtSink s op g gr n →
      ((c = .linkMkaDelete g ∧ op = 0x0B02) ∨ (c = .linkMkaDeletePersist g ∧ op = 0x0B05) ∨ (c = .linkMkaStatus g ∧ op = 0x0B03)) →
      let b := gr.inp
      let i := leAt b 0 2
      (b.length ≠ 4 → Ends c s g n gr 0x0102 s) ∧ (b.length = 4 → leAt b 2 2 ≠ 0 → Ends c s g n gr 0x0104 s) ∧
      (b.length = 4 → leAt b 2 2 = 0 → s.mka i = none → Ends c s g n gr 0x0B02 s) ∧
      (∀ y, b.length = 4 → leAt b 2 2 = 0 → s.mka i = some y →
        (op = 0x0B02 → y.persist = true → Ends c s g n gr 0x0B02 s) ∧ (op = 0x0B05 → y.persist = false → Ends c s g n gr 0x0B02 s) ∧
        (((op = 0x0B02 ∧ y.persist = false) ∨ (op = 0x0B05 ∧ y.persist = true)) → ∃ u, Commits c s g n gr [] u ∧ u.mka i = none ∧
          (∀ j, j ≠ i → u.mka j = s.mka j) ∧ u.arm y.txc = none ∧ u.getF (Reg.FUR_CH_DW8_ENC_VALID y.txc) = 0 ∧
          (∀ k, k < 4 → u.sa (4 * y.txc + k) = {} ∧ u.sa (4 * y.rxc + k) = {} ∧ u.saState (4 * y.txc + k) = 0 ∧ u.saState (4 * y.rxc + k) = 0) ∧
          (∀ a, a / 4 ≠ y.txc → a / 4 ≠ y.rxc → u.sa a = s.sa a) ∧ (∀ x ∈ u.root.persist, x.inst ≠ i)) ∧
        (op = 0x0B03 → 32 ≤ gr.desc.outLen → Commits c s g n gr
          (le 1 (if y.live then (if y.keyed && y.secured then 3 else 2) else 1) ++ le 1 (if y.server then 1 else 0) ++ le 1 (y.an.getD 0) ++ [0] ++
            fit 12 (y.peer.getD []) ++ le 4 y.keyNo ++ le 8 y.sent ++ zeros 4) s))) ∧
    (∀ cell k e, s.runningSlot cell = some k → s.slot k = some e →
      let freed (t : State) : Prop := (∀ j x, s.slot j = some x → x.mode ≠ .prefetched) → t.slot k = none
      (∀ g n, e.work = .node g n → Gives (.mkpduReceive cell) s fun t => t = s) ∧
      (∀ p f, e.work = .frame p f →
        ((∀ i y, (i, some y) ∈ s.fur.mka → y.port ≠ p ∨ Config.mkpduCkn f ≠ some y.ckn) → Gives (.mkpduReceive cell) s fun t => freed t ∧
          t.fur = s.fur) ∧
        (∀ i y m q, s.fur.mka = [(i, some y)] → y.port = p → Config.mkpduCkn f = some y.ckn → Config.mkpduRead y.cak y.ckn f = some m →
          y.peer = some q → q ≠ m.mi → Gives (.mkpduReceive cell) s fun t => freed t ∧ t.fur = s.fur) ∧
        (∀ i y m, s.fur.mka = [(i, some y)] → y.port = p → Config.mkpduCkn f = some y.ckn → Config.mkpduRead y.cak y.ckn f = some m →
          (y.peer = none ∨ y.peer = some m.mi) → m.dist = none → m.use = none → (m.peers.any (fun z => z.1 == y.mi) = false ∨ y.keyed = true) →
          Gives (.mkpduReceive cell) s fun t => freed t ∧ ∃ z, t.mka i = some z ∧ z.peer = some m.mi ∧ z.peerMn = m.mn ∧ z.peerSci = m.sci ∧
            (z.live = true ↔ ∃ w ∈ m.peers, w.1 = y.mi) ∧ (z.server = true ↔ y.prio < m.prio ∨ (y.prio = m.prio ∧ beNat (s.sci y.txc) < beNat m.sci)) ∧
            z.cak = y.cak ∧ z.sent = y.sent))) ∧
    (∀ i kind y, s.mka i = some y →
      ((s.isDue (.mka i kind) = false ∨ s.mkaCell = none) → Gives (.mkaTimerExpire i kind) s fun t => t = s) ∧
      (s.isDue (.mka i kind) = true → s.mkaCell ≠ none →
        (kind = 0 → Gives (.mkaTimerExpire i kind) s fun t => t.mka i =
            some { y with mn := y.mn + 1, sent := y.sent + (if s.pgState (y.port / 8) = 0 then 1 else 0) } ∧ t.fur.sas = s.fur.sas ∧
          t.isDue (.mka i 0) = false) ∧
        (kind = 1 → Gives (.mkaTimerExpire i kind) s fun t => t.mka i = some { y with peer := none, live := false, keyed := false } ∧
          t.fur.sas = s.fur.sas ∧ ∀ j, j ≠ i → t.mka j = s.mka j) ∧
        (2 ≤ kind → ∀ an, y.old = some an → s.drv.tick < (s.sa (4 * y.rxc + an)).last + 10000 → Gives (.mkaTimerExpire i kind) s fun t =>
          t.fur = s.fur))) ∧
    (∀ g n gr, NoKeys gr → AtSink s 0x0B20 g gr n →
      let b := gr.inp
      let kind := byteAt b 0
      let fl := byteAt b 1
      let first := leAt b 4 4
      let count := leAt b 8 4
      let top := if kind = 0 then 65536 else 16384
      let rec_ (i : Nat) : Nat := 65536 * kind + first + i
      let grp (i : Nat) : Nat := s.getF (Reg.FUR_CH_DW0_PG (if kind = 0 then (first + i) / 4 else first + i))
      let poisoned : Prop := ∃ i, i < count ∧ s.statBad (grp i) (rec_ i) = true
      (b.length ≠ 12 → Ends (.linkStatsRead g) s g n gr 0x0102 s) ∧
      (b.length = 12 → (1 < kind ∨ 3 < fl ∨ leAt b 2 2 ≠ 0 ∨ count = 0 ∨ 4096 < count ∨ top < first + count) → Ends (.linkStatsRead g) s g n gr 0x0104 s) ∧
      (b.length = 12 → kind ≤ 1 → leAt b 2 2 = 0 → 1 ≤ count → count ≤ 4096 → first + count ≤ top →
        ((fl = 0 ∨ fl = 1) → poisoned → Ends (.linkStatsRead g) s g n gr 0x0802 s) ∧
        (fl = 0 → ¬poisoned → 64 * count ≤ gr.desc.outLen → ∃ out, Commits (.linkStatsRead g) s g n gr out s ∧ out.length = 64 * count ∧
          ∀ i j, i < count → j < 8 → slice out (64 * i + 8 * j) 8 = le 8 (((s.statRec (grp i) (rec_ i))[j]?).getD 0)) ∧
        ((fl = 2 ∨ fl = 3) → (∀ v w, s.zeroStats (statRange (65536 * kind) first count) = (v, w) → v = 0 → Commits (.linkStatsRead g) s g n gr [] w)))) ∧
    (∀ g n gr gr1 s1 k, s.resolveAll gr n = (gr1, s1) → gr1.key 0 = .key k → AtSink s 0x0B31 g gr n →
      let b := gr.inp
      20 ≤ b.length → b.length ≤ 9996 → leAt b 1 3 = 0 → ∀ p, parseBlock (byteAt b 0) (b.drop 4) = .inr p →
        (p.form = 1 → Ends (.linkMasterLoad g) s g n gr 0x0104 s) ∧
        (p.form ≠ 1 → Claims.Fits k ['D', 'B'] (usage2 'K' '1') (kbTypes p.form) → (∀ x ∈ p.opt 'K' 'P', x = checkContent k) →
          (Config.kbOpen p.form k.key p.head p.body = none → ∃ u, Ends (.linkMasterLoad g) s g n gr1 0x0301 u ∧ Recorded s1 u) ∧
          (∀ d, Config.kbOpen p.form k.key p.head p.body = some d →
            let key := slice d 2 32
            let whole : Prop := beNat (d.take 2) = 256 ∧ key.length = 32 ∧ p.h.alg = letter 'A'
            (¬whole → Ends (.linkMasterLoad g) s g n gr1 0x0104 s1) ∧
            (whole → (∀ x ∈ p.opt 'K' 'C', x = checkContent ⟨0, 0, 5, key, [], []⟩) → s1.narrowed (allotOf gr.qid) (.noImport p.h.use) = false →
              8 ≤ gr.desc.outLen → ∃ u, Commits (.linkMasterLoad g) s g n gr1 ((cmac 1 key (zeros 16)).take 5 ++ zeros 3) u ∧
                u.root.linkMaster = some key ∧ u.fur.sas = s1.fur.sas ∧ u.getF Reg.FUR_SA_STATUS_LINK_MASTER = 1))))

/-! ### Thatch and Hedgerow (spec/18) -/

/-- Thatch answers each access as its finding and its counters say: an access outside the two stacks is denied, one of a busy block waits,
an unwritten block reads zero, a poisoned line answers MEMORY_ERROR; a correctable error is counted, an uncorrectable one poisons its line and
the Barrow slot in it, one bad node copy is repaired, two halt, an attack trips its monitor. A write raises its line's counter by one, with a
major step and a rewrite of the block at the end of the minor, and freezes the line at the end of the counter; the scrubber passes over what was never written and repairs a bad node copy (R382, R385 to R391). -/
def Obligations.ThatchReadsWritesAndScrubs : Prop :=
  ∀ s : State, s.live = true →
    (∀ e n o, e < 2 → n < 234881024 → o < 64 → thaLine (0x400000000 * e + 64 * n + o) = some (e, n)) ∧
    (∀ a, 0x380000000 ≤ a → (a < 0x400000000 ∨ 0x780000000 ≤ a) → ∀ f b,
      (Gives (.dramRead a f none) s fun t => t = { s with outbox := .line 2 a none :: s.outbox }) ∧
      (Gives (.dramWrite a b none) s fun t => t = { s with outbox := .line 2 a none :: s.outbox }) ∧
      ∀ g gr k, s.graph g = some gr → gr.committed = false → s.openNode g = some k → ∀ c, (c = .dramRead a f (some g) ∨ c = .dramWrite a b (some g)) →
        Gives c s fun t => t.graph g = some (gr.setNode k { gr.node k with verdict := some 0x0A01 }) ∧ t.outbox = .line 2 a none :: s.outbox) ∧
    (∀ a e n, thaLine a = some (e, n) →
      let x := s.engine e
      let late : Prop := s.thaReady e = false ∨ n / 128 ∈ x.rewriting
      let fails (c : Option Nat → Instr) (v : Nat) (P : State → Prop) : Prop :=
        (Gives (c none) s fun t => P t ∧ .line e a none ∈ t.outbox) ∧
        ∀ g gr k, s.graph g = some gr → gr.committed = false → s.openNode g = some k →
          Gives (c (some g)) s fun t => P t ∧ .line e a none ∈ t.outbox ∧ t.graph g = some (gr.setNode k { gr.node k with verdict := some v })
      let found (t : State) (line kind : Nat) : Prop := t.getF (Reg.THA_LAST_ERR_LINE e) = line ∧ t.getF (Reg.THA_LAST_ERR_KIND e) = kind ∧
        t.getF (Reg.THA_LAST_ERR_VALID e) = 1
      let poisons (t : State) : Prop := (∀ k, (t.engine e).isPoison k = (x.isPoison k || k == n)) ∧ (t.engine e).data = x.data ∧
        (t.engine e).blocks = x.blocks ∧ Claims.Up s t (Reg.THA_UE_CNT_COUNT e) 1 ∧ found t n 1 ∧ t.getF Reg.THA_EVENT_POISON = 1 ∧
        t.getF (Reg.THA_POISONED_LINES e) = (s.getF (Reg.THA_POISONED_LINES e) + 1) % 2 ^ 28 ∧
        (n < 0x80000 → (s.kslot (2 * n + e)).st ≠ .free → (t.kslot (2 * n + e)).st = .poisoned) ∧
        (∀ k, (n < 0x80000 → k ≠ 2 * n + e) → t.kslot k = s.kslot k)
      (late → (∀ f g, Gives (.dramRead a f g) s fun t => (t.engine e).held = x.held ++ [.read a f g] ∧ t.regs = s.regs ∧ t.outbox = s.outbox) ∧
        ∀ b g, Gives (.dramWrite a b g) s fun t => (t.engine e).held = x.held ++ [.write a b g] ∧ t.regs = s.regs ∧ t.outbox = s.outbox) ∧
      (¬late →
        (x.block (n / 128) = none → ∀ f g, Gives (.dramRead a f g) s fun t => t = { s with outbox := .line e a (some (zeros 64)) :: s.outbox }) ∧
        (x.block (n / 128) ≠ none → x.isPoison n = true → ∀ f, fails (.dramRead a f) 0x0802 fun t => t.regs = s.regs ∧ t.tha = s.tha) ∧
        (x.block (n / 128) ≠ none → x.isPoison n = false →
          let data (t : State) : Prop := t.outbox = .line e a (some (x.line n)) :: s.outbox ∧ t.tha = s.tha ∧ t.bar = s.bar
          (∀ g, Gives (.dramRead a .clean g) s fun t => data t ∧ t.regs = s.regs) ∧
          (∀ f line kind g, ((f = .ceLine ∧ line = n ∧ kind = 0) ∨ (f = .ceMacLine ∧ line = 0xE000000 + n / 8 ∧ kind = 2) ∨
              (f = .ceNode 0 false ∧ line = 0xFC00000 + n / 128 ∧ kind = 2) ∨ (f = .ceNode 0 true ∧ line = 0xFE00000 + n / 128 ∧ kind = 2) ∨
              (f = .ceNode 1 false ∧ line = 0xFDC0000 + n / 1024 ∧ kind = 2)) →
            Gives (.dramRead a f g) s fun t => data t ∧ found t line kind ∧ Claims.Up s t (Reg.THA_CE_CNT_COUNT e) 1 ∧ t.getF Reg.THA_EVENT_CE = 1) ∧
          fails (.dramRead a .ueLine) 0x0802 poisons ∧ fails (.dramRead a .copies) 0x0802 (fun t => poisons t ∧ t.alarmed 22 = true) ∧
          (fails (.dramRead a .ueMacLine) 0x0802 fun t => found t (0xE000000 + n / 8) 4 ∧ (∀ k, k / 8 = n / 8 → (t.engine e).isPoison k = true) ∧
            (∀ k, k / 8 ≠ n / 8 → (t.engine e).isPoison k = x.isPoison k) ∧
            ((∀ k, k / 8 = n / 8 → x.isPoison k = false) → Claims.Up s t (Reg.THA_UE_CNT_COUNT e) 8)) ∧
          (∀ l c g, Gives (.dramRead a (.ueNodeOne l c) g) s fun t => data t ∧ Claims.Up s t (Reg.THA_NODE_REPAIR_COUNT e) 1 ∧
            t.getF Reg.THA_EVENT_NODE_REPAIR = 1 ∧ t.getF (Reg.THA_LAST_ERR_KIND e) = 3) ∧
          (∀ l, Gives (.dramRead a (.ueNodeBoth l) none) s fun t => ∃ u v : State, OnlyFields s u [Reg.THA_LAST_ERR_LINE e, Reg.THA_LAST_ERR_KIND e,
            Reg.THA_LAST_ERR_VALID e] ∧ Recorded u v ∧ t = (v.trip [21]).emit (.line e a none)) ∧
          (Gives (.dramRead a .attack none) s fun t => ∃ v : State, Recorded s v ∧ t = (v.trip [20]).emit (.line e a none))) ∧
        (∀ b, let o := a % 64
          let whole : Prop := o = 0 ∧ 64 ≤ b.length
          let c := (x.block (n / 128)).getD {}
          let m := (c.minors[n % 128]?).getD 0
          let ended (t : State) : Prop := t.getF Reg.THA_EVENT_COUNTER_END = 1 ∧ t.getF Reg.HIF_STATUS_RESTART_ADVISED = 1 ∧
            (t.engine e).data = x.data ∧ (t.engine e).blocks = x.blocks ∧ (t.engine e).isFrozen n = true
          (x.isFrozen n = true → fails (.dramWrite a b) 0x0402 fun t => t.tha = s.tha ∧ t.regs = s.regs) ∧
          (x.isFrozen n = false → x.isPoison n = true → ¬whole → fails (.dramWrite a b) 0x0802 fun t => t.tha = s.tha ∧ t.regs = s.regs) ∧
          (x.isFrozen n = false → (x.isPoison n = true → whole) →
            (m = 7 → c.major = 2 ^ 53 - 1 → fails (.dramWrite a b) 0x0402 fun t => ended t ∧ t.getF Reg.THA_STATUS_FROZEN_ANY = 1 ∧
              t.getF (Reg.THA_FROZEN_LINES e) = (s.getF (Reg.THA_FROZEN_LINES e) + 1) % 2 ^ 28) ∧
            (c.minors.length = 128 → (m < 7 ∨ (m = 7 ∧ c.major < 2 ^ 53 - 1)) → ∀ g, Gives (.dramWrite a b g) s fun t =>
              let y := t.engine e
              y.line n = (x.line n).take o ++ b.take (64 - o) ++ (x.line n).drop (o + b.length) ∧ y.counter n = x.counter n + 1 ∧
              (∀ k, k ≠ n → (k / 128 ≠ n / 128 ∨ x.block (n / 128) ≠ none) → y.line k = x.line k) ∧
              (∀ k, k / 128 ≠ n / 128 → y.counter k = x.counter k) ∧
              (m < 7 → (∀ k, k ≠ n → y.counter k = x.counter k) ∧ y.rewriting = x.rewriting) ∧
              (m = 7 → (∀ k, k / 128 = n / 128 → y.counter k = 8 * (c.major + 1)) ∧ n / 128 ∈ y.rewriting) ∧
              (∀ l, l < 8 → y.treeCtr l (n / 128 / 8 ^ l) = x.treeCtr l (n / 128 / 8 ^ l) + 1) ∧ y.treeCtr 7 0 = x.treeCtr 7 0 + 1 ∧
              y.isPoison n = false ∧ (∀ k, k ≠ n → y.isPoison k = x.isPoison k) ∧ t.outbox = s.outbox ∧
              t.getF (Reg.THA_POISONED_LINES e) = if x.isPoison n then (s.getF (Reg.THA_POISONED_LINES e) - 1) % 2 ^ 28
                else s.getF (Reg.THA_POISONED_LINES e)))))) ∧
    (∀ e b bad, let x := s.engine e
      (b ∉ x.rewriting → Gives (.counterBlockRewriteComplete e b bad) s fun t => t = s) ∧
      (b ∈ x.rewriting → bad = [] → Gives (.counterBlockRewriteComplete e b bad) s fun t =>
        let y : Engine := { x with rewriting := x.rewriting.filter (fun k => k != b) }
        t = x.held.foldl State.access ((s.setEngine e y).setEngine e { y with held := [] })) ∧
      (b ∈ x.rewriting → x.held = [] → Gives (.counterBlockRewriteComplete e b bad) s fun t => b ∉ (t.engine e).rewriting ∧
        ∀ j ∈ bad, j < 128 → (t.engine e).isPoison (128 * b + j) = true)) ∧
    (∀ e f, e < 2 → let p := s.getF (Reg.THA_SCRUB_POS_LINE e)
      (s.getF Reg.THA_SCRUB_CFG_PERIOD_H = 0 → Gives (.scrubRead e f) s fun t => t = s) ∧
      (s.getF Reg.THA_SCRUB_CFG_PERIOD_H ≠ 0 → s.thaBusy e (scrubData p) = false →
        (Gives (.scrubRead e .clean) s fun t => OnlyFields s t [Reg.THA_SCRUB_POS_LINE e] ∧ t.getF (Reg.THA_SCRUB_POS_LINE e) = (p + 1) % 2 ^ 28) ∧
        (p < 234881024 → ((s.engine e).block (p / 128) = none ∨ (s.engine e).isPoison p = true) → Gives (.scrubRead e f) s fun t =>
          OnlyFields s t [Reg.THA_SCRUB_POS_LINE e]) ∧
        (p < 234881024 → (s.engine e).block (p / 128) ≠ none → (s.engine e).isPoison p = false → Gives (.scrubRead e .ueLine) s fun t =>
          (t.engine e).isPoison p = true ∧ Claims.Up s t (Reg.THA_UE_CNT_COUNT e) 1 ∧ t.outbox = s.outbox) ∧
        (0xE000000 ≤ p → p < 0xFC00000 → let n := 8 * (p - 0xE000000)
          ((s.engine e).block (n / 128) = none → Gives (.scrubRead e f) s fun t => OnlyFields s t [Reg.THA_SCRUB_POS_LINE e]) ∧
          ((s.engine e).block (n / 128) ≠ none → Gives (.scrubRead e .ueLine) s fun t => t.outbox = s.outbox ∧
            ∀ k, k / 8 = n / 8 → (t.engine e).isPoison k = true)) ∧
        (0xFC00000 ≤ p → (∀ i, nodeAt p = some (0, i) → (s.engine e).block i = none → Gives (.scrubRead e f) s fun t =>
            OnlyFields s t [Reg.THA_SCRUB_POS_LINE e]) ∧
          ∀ l i, nodeAt p = some (l, i) → (0 < l ∨ (s.engine e).block i ≠ none) → Gives (.scrubRead e .ueLine) s fun t => t.outbox = s.outbox ∧
            t.tha = s.tha ∧ Claims.Up s t (Reg.THA_NODE_REPAIR_COUNT e) 1 ∧ t.getF Reg.THA_EVENT_NODE_REPAIR = 1)) ∧
      (s.thaReady e = true ∨ s.gorse.swale ≠ none ∨ s.bale.step < 8 → Gives (.thatchInitComplete e) s fun t => t = s) ∧
      (s.thaReady e = false → s.gorse.swale = none → 8 ≤ s.bale.step →
        ((s.engine e).keys = none → ∀ k u, s.draw 10 96 = some (k, u) → Gives (.thatchInitComplete e) s fun t => (t.engine e).keys = some k ∧
          t.regs = u.regs ∧ t.outbox = u.outbox) ∧
        ((s.engine e).keys ≠ none → (s.engine e).held = [] → Gives (.thatchInitComplete e) s fun t => t.thaReady e = true ∧
          (t.engine e).keys = (s.engine e).keys ∧ FieldsBut s t [Reg.THA_STATUS_E_READY, Reg.THA_STATUS_W_READY])))

/-- A unit lets a burst through when each of its sub-accesses lies in a region that allows it, and denies all of it at the first that does
not, recording that one; a disabled unit, or one whose set is not loaded, holds it; a loaded set is swapped in first. The inactive set is loaded
for the next work or refused with its node; an update disables its unit, and its commit adopts a set that passes or keeps the old one
(R393 to R399, R401). -/
def Obligations.HedgerowChecksAndRuleSets : Prop :=
  ∀ s : State, s.live = true →
    (∀ u master kind attr addr len, s.hasUnit u = true →
      let c := Instr.hedgerowAccessCheck u master kind attr addr len
      let k := s.activeSet u
      let set := s.ruleSet u k
      let w := s.unitWorld u
      let count := (addr % 64 + len + 63) / 64
      let a (i : Nat) : Nat := if i = 0 then addr else (addr / 64 + i) * 64
      let lets (z : Nat) : Prop := ∃ r ∈ set, r.base / 64 ≤ z / 64 ∧ z / 64 ≤ r.limit / 64 ∧ r.perm.testBit kind = true ∧
        r.masters.testBit master = true ∧ r.world.testBit w = true ∧ ¬(attr.testBit 0 = true ∧ attr.testBit 2 = true) ∧
        ∀ j, j < 3 → attr.testBit j = true → r.attr.testBit j = true
      let inForce : Prop := ∀ t, s.neededTag u = some t → s.setTag u k = t
      let waits : Prop := Gives c s fun t => getC [] t.hdg.held u = getC [] s.hdg.held u ++ [⟨master, kind, attr, addr, len⟩] ∧
        t.regs = s.regs ∧ t.outbox = s.outbox ∧ t.hdg.sets = s.hdg.sets
      (s.getF (Reg.HDG_U_STAT_ENABLED u) ≠ 1 → waits) ∧
      (s.getF (Reg.HDG_U_STAT_ENABLED u) = 1 →
        (inForce → setOk set = true →
          ((∀ i, i < count → lets (a i)) → Gives c s fun t => t = { s with outbox := .granted u true :: s.outbox }) ∧
          (∀ i, i < count → (∀ j, j < i → lets (a j)) → ¬lets (a i) → Gives c s fun t =>
            t.outbox = .granted u false :: s.outbox ∧ t.hdg = s.hdg ∧ t.getF (Reg.HDG_U_DENY_VALID u) = 1 ∧ t.getF (Reg.HDG_U_DENY_SUB u) = i % 8 ∧
            t.getF (Reg.HDG_U_DENY_MASTER u) = master % 4 ∧ t.getF (Reg.HDG_U_DENY_KIND u) = kind % 4 ∧
            t.getF (Reg.HDG_U_DENY_ATTR u) = attr % 8 ∧ t.getF (Reg.HDG_U_DENY_WORLD u) = w % 2 ∧
            t.getF (Reg.HDG_U_DENY_ADDR_LO_ADDR u) = a i % 2 ^ 32 / 64 ∧ t.getF (Reg.HDG_U_DENY_ADDR_HI_ADDR u) = a i / 2 ^ 32 % 65536 ∧
            Claims.Up s t (Reg.HDG_U_DENY_CNT_COUNT u) 1 ∧ Claims.Up s t Reg.HDG_DENIES_COUNT 1 ∧ t.getF Reg.HDG_LAST_DENY_UNIT = u ∧
            ∀ g n gr m, u < 256 → s.runningWork u = some (.node g n) → s.graph g = some gr → gr.committed = false → s.openNode g = some m →
              t.graph g = some (gr.setNode m { gr.node m with verdict := some 0x0A01 }))) ∧
        (∀ t, s.neededTag u = some t → s.setTag u k ≠ t →
          (s.setTag u (1 - k) = t → exec c s = exec c (s.setF (Reg.HDG_U_STAT_ACTIVE_SET u) (1 - k))) ∧ (s.setTag u (1 - k) ≠ t → waits)))) ∧
    (∀ c ok, s.hasCell c = true → let k := s.activeSet c
      (s.loadWork c = none → Gives (.inactiveSetLoad c ok) s fun t => t = s) ∧
      ∀ w, s.loadWork c = some w → let tag := 1 + 2 * s.cellRole c + s.workWorld w
        (s.setTag c k = tag → Gives (.inactiveSetLoad c ok) s fun t => t = s) ∧
        (s.setTag c k ≠ tag → ok = true → setOk (s.taggedSet tag) = true → k < 2 → getC [] s.hdg.held c = [] → Gives (.inactiveSetLoad c ok) s fun t =>
          t.ruleSet c (1 - k) = s.taggedSet tag ∧ t.setTag c (1 - k) = tag ∧ t.ruleSet c k = s.ruleSet c k ∧ t.setTag c k = s.setTag c k ∧
          t.regs = s.regs ∧ t.outbox = s.outbox) ∧
        (s.setTag c k ≠ tag → (ok = false ∨ setOk (s.taggedSet tag) = false) → Gives (.inactiveSetLoad c ok) s fun t =>
          t.getF Reg.HDG_FAULT_UNIT = c ∧ t.getF Reg.HDG_FAULT_FAULT = 1 ∧ t.hdg.sets = s.hdg.sets ∧ t.hdg.tags = s.hdg.tags ∧ t.activeSet c = k ∧
          ∀ g n gr, w = .node g n → s.graph g = some gr → gr.committed = false →
            t.graph g = some (gr.setNode n { gr.node n with verdict := some 0x0A01 }))) ∧
    (∀ u set, let c := Instr.hedgerowUpdate u set
      let onMain : Prop := s.hasUnit u = true ∧ (256 ≤ u ∨ s.cellState u = 3 ∨ s.cellState u = 4)
      (¬onMain → ∀ commit, Gives (c commit) s fun t => t = s) ∧
      (onMain → (Gives (c false) s fun t => OnlyFields s t [Reg.HDG_U_STAT_UPDATING u, Reg.HDG_U_STAT_ENABLED u] ∧
          t.getF (Reg.HDG_U_STAT_UPDATING u) = 1 ∧ t.getF (Reg.HDG_U_STAT_ENABLED u) = 0) ∧
        (s.getF (Reg.HDG_U_STAT_UPDATING u) ≠ 1 → Gives (c true) s fun t => t = s) ∧
        (s.getF (Reg.HDG_U_STAT_UPDATING u) = 1 → getC [] s.hdg.held u = [] →
          (setOk set = true → Gives (c true) s fun t => t.ruleSet u (s.activeSet u) = set ∧ t.getF (Reg.HDG_U_STAT_FAULT u) = 0 ∧
            Claims.Up s t Reg.HDG_UPDATES_COUNT 1 ∧ t.getF (Reg.HDG_U_STAT_UPDATING u) = 0 ∧ t.getF (Reg.HDG_U_STAT_ENABLED u) = 1 ∧
            ∀ v j, (v ≠ u ∨ j ≠ s.activeSet u) → j < 2 → s.activeSet u < 2 → t.ruleSet v j = s.ruleSet v j) ∧
          (setOk set = false → Gives (c true) s fun t => t.hdg.sets = s.hdg.sets ∧ t.getF (Reg.HDG_U_STAT_FAULT u) = 1 ∧
            t.getF Reg.HDG_FAULT_UNIT = u ∧ t.getF Reg.HDG_FAULT_FAULT = 1 ∧ t.getF (Reg.HDG_U_STAT_UPDATING u) = 0 ∧
            t.getF (Reg.HDG_U_STAT_ENABLED u) = 1))))

/-! ### Gorse (spec/19) -/

/-- A record that Gorse writes: appended to the Peat buffer in Test and Production, nothing in any other state. -/
def Claims.Wrote (s t : State) (l : List Bytes) : Prop := t.gorse.peat = if s.lc.st = 1 ∨ s.lc.st = 2 then s.gorse.peat ++ l else s.gorse.peat

/-- Monitors that trip set their bits, count and record; only those whose bit was clear act: Hold, swale or Halt by their response, united in
one sample; End of Life and Lost act no further. A cleared bit stays set while its monitor is out of window; `ALARM_N` and Hold follow the bits.
A swale that ends is recorded and counted, and a Halt waits for it (R403 to R409, R414, R416 to R419). -/
def Obligations.TripsResponsesAndAcknowledgement : Prop :=
  ∀ s : State,
    let on : Prop := s.pwr.on = true ∧ s.pwr.reset = false
    let roomy (n : Nat) : Prop := s.gorse.ledger.length < 4095 ∧ s.gorse.peat.length + n ≤ 64
    let entry (type m flags resp : Nat) : Bytes := ledgerBody type m flags resp s.cairn.opTime s.cairn.pcc
    let follows (t : State) : Prop := t.pins.alarmLow = t.alarmNow ∧ (t.getF Reg.GOR_STATUS_HOLD = 1 ↔ t.holdNow = true) ∧
      t.getF Reg.GOR_STATUS_ALARM_OUT = (if t.alarmNow then 1 else 0)
    let recorded (u : State) : Prop :=
      u = { s with regs := u.regs, gorse := u.gorse, cairn := u.cairn, drv := { s.drv with timers := u.drv.timers } }
    (on → s.pwr.halted = false →
      (∀ ms, Gives (.monitorTrip ms) s follows) ∧
      (∀ m, m < 26 → s.sampled m = true →
        (s.alarmed m = true → Gives (.monitorTrip [m]) s fun t => Claims.Up s t (Reg.GOR_MON_STAT_TRIPS m) 1 ∧ t.gorse.peat = s.gorse.peat ∧
          t.gorse.swale = s.gorse.swale ∧ t.gorse.haltMon = s.gorse.haltMon ∧ ∀ k, k < 26 → t.alarmed k = s.alarmed k) ∧
        (s.alarmed m = false → let r := s.resp m
          ((r = 0 ∨ r = 1 ∨ r = 4 ∨ s.lc.st = 3 ∨ s.lc.st = 4) → Gives (.monitorTrip [m]) s fun t => Claims.Up s t (Reg.GOR_MON_STAT_TRIPS m) 1 ∧
            (∀ k, k < 26 → t.alarmed k = (s.alarmed k || k == m)) ∧ t.gorse.swale = s.gorse.swale ∧ t.root = s.root ∧ t.tha = s.tha ∧ t.bar = s.bar ∧
            (r = 0 → Claims.Up s t Reg.GOR_COUNTS_NOTES 1 ∧ t.gorse.peat = s.gorse.peat) ∧ (r ≠ 0 → t.pins.alarmLow = true) ∧
            (r ≠ 0 → roomy 1 → Claims.Wrote s t [entry 1 m 0 r]) ∧
            (r = 1 → s.lc.st ≠ 3 → s.lc.st ≠ 4 → t.getF Reg.GOR_STATUS_HOLD = 1 ∧ (s.getF Reg.GOR_STATUS_HOLD = 0 → t.getF Reg.HIF_STATUS_HOLD = 1 ∧
              t.getF Reg.HIF_EVENT_HOLD_CHANGE = 1 ∧ Claims.Up s t Reg.GOR_COUNTS_HOLDS 1)) ∧
            ((r ≠ 4 ∨ s.lc.st = 3 ∨ s.lc.st = 4) → t.gorse.haltMon = s.gorse.haltMon) ∧
            (r = 4 → s.lc.st ≠ 3 → s.lc.st ≠ 4 → s.gorse.haltMon = none → t.gorse.haltMon = some m ∧ t.getF Reg.GOR_STATUS_HALT_PENDING = 1)) ∧
          (s.lc.st ≠ 3 → s.lc.st ≠ 4 →
            ((r = 2 ∨ r = 3) → Gives (.monitorTrip [m]) s fun t => ∃ u : State, recorded u ∧ (roomy 1 → Claims.Wrote s u [entry 1 m 0 r]) ∧
              t = (u.beginSwale (r - 1) m r).refreshAlarm) ∧
            ((r = 5 ∨ r = 6) → Gives (.monitorTrip [m]) s fun t => ∃ u : State, recorded u ∧ (roomy 1 → Claims.Wrote s u [entry 1 m 0 r]) ∧
              ∀ v : State, v = u.beginSwale (r - 4) m r → v.gorse.haltMon = none →
                t = ({ v with gorse := { v.gorse with haltMon := some m } }.setF Reg.GOR_STATUS_HALT_PENDING 1).refreshAlarm)))) ∧
      (∀ i j, i < j → j < 26 → s.sampled i = true → s.sampled j = true → s.alarmed i = false → s.alarmed j = false → s.lc.st ≠ 3 → s.lc.st ≠ 4 →
        ∀ k kind, (s.resp i ≤ 3 ∧ 1 ≤ s.resp i ∧ s.resp j ≤ 3 ∧ 1 ≤ s.resp j) →
          ((kind = 2 ∧ s.resp i = 3 ∧ k = i) ∨ (kind = 2 ∧ s.resp i ≠ 3 ∧ s.resp j = 3 ∧ k = j) ∨ (kind = 1 ∧ s.resp i = 2 ∧ s.resp j ≠ 3 ∧ k = i) ∨
            (kind = 1 ∧ s.resp i = 1 ∧ s.resp j = 2 ∧ k = j)) →
          Gives (.monitorTrip [j, i]) s fun t => ∃ u : State, recorded u ∧
            t = ((if s.resp i = 1 ∨ s.resp j = 1 then u.holdClear else u).beginSwale kind k (s.resp k)).refreshAlarm ∧
            (roomy 2 → Claims.Wrote s u [entry 1 i 1 (s.resp i), entry 1 j 1 (s.resp j)])) ∧
      (s.gorse.swale = none → Gives .swaleComplete s fun t => t = s) ∧
      (∀ w h, s.gorse.swale = some w → s.gorse.haltMon = some h → s.lc.check = none → s.lc.memTest = none → Gives .swaleComplete s fun t =>
        t = { s with regs := t.regs, gorse := t.gorse, cairn := t.cairn, drv := { s.drv with timers := t.drv.timers } } ∧ t.gorse.swale = none ∧
          t.getF Reg.GOR_STATUS_SWALE_BUSY = 0 ∧ t.getF Reg.GOR_STATUS_LAST_SWALE = w.kind % 4 ∧ Claims.Up s t Reg.GOR_COUNTS_SWALES 1 ∧
          (w.kind = 1 → w.mon = 0xFF → t.gorse.peat = s.gorse.peat) ∧
          ((w.kind ≠ 1 ∨ w.mon ≠ 0xFF) → roomy 1 → Claims.Wrote s t [entry (w.kind + 1) w.mon 0 w.resp])) ∧
      (∀ w, s.gorse.swale = some w → s.gorse.haltMon = none → w.kind = 2 → s.lc.check = none → s.lc.memTest = none → 9 ≤ s.bale.step →
        s.bale.running ≠ none → Gives .swaleComplete s fun t => t.gorse.swale = none ∧ t.bar.recovering = true) ∧
      (∀ w, s.gorse.swale = some w → s.gorse.haltMon = none → w.kind = 1 → s.lc.check = none → s.lc.memTest = none → s.bale.step < 8 →
        s.getF Reg.BAR_STATUS_ROOT_OPEN = 1 → Gives .swaleComplete s fun t => t.gorse.swale = none ∧ t.root.era = (s.root.era + 1) % 256 ∧
          t.getF Reg.BAR_EVENT_ERA_CHANGE = 1) ∧
      (s.gorse.haltMon = none ∨ s.gorse.swale ≠ none ∨ s.lc.job ≠ none → Gives .haltBegin s fun t => t = s) ∧
      (∀ m, s.gorse.haltMon = some m → s.gorse.swale = none → s.lc.job = none → Gives .haltBegin s fun t => t.pwr.halted = true ∧ t.live = false ∧
        t.pins.haltLow = true ∧ t.pins.ready = false ∧ t.getF Reg.GOR_STATUS_HALT_PENDING = 0)) ∧
    (on → s.pwr.halted = true → ∀ ms, Gives (.monitorTrip ms) s fun t => t.gorse.swale = s.gorse.swale ∧ t.gorse.haltMon = s.gorse.haltMon ∧
      t.root = s.root ∧ ∀ k, k < 26 → t.alarmed k = (s.alarmed k || (ms.contains k && s.sampled k))) ∧
    (¬on → (s.pwr.vin = true → ∀ ms, Gives (.monitorTrip ms) s fun t => t.gorse.peat = s.gorse.peat ∧ (∀ k, k < 26 → t.alarmed k = s.alarmed k) ∧
        ∀ m, m ∈ t.gorse.outs ↔ m ∈ s.gorse.outs ∨ (m ∈ ms ∧ m < 13)) ∧
      (s.pwr.vin = false → ∀ ms, Gives (.monitorTrip ms) s fun t => t = s)) ∧
    (∀ m, Gives (.monitorReturnToWindow m) s fun t => (∀ k, k ∈ t.gorse.outs ↔ k ∈ s.gorse.outs ∧ k ≠ m) ∧
      (∀ k, k < 26 → ((t.getF Reg.GOR_OUT_OUT).testBit k = true ↔ k ∈ s.gorse.outs ∧ k ≠ m)) ∧ (∀ k, k < 26 → t.alarmed k = s.alarmed k)) ∧
    (s.up →
      (∀ mask, Gives (.gorAlarmClear mask) s fun t => follows t ∧ t.gorse = s.gorse ∧ t.root = s.root ∧
        ∀ k, k < 26 → (t.alarmed k = true ↔ s.alarmed k = true ∧ (mask.testBit k = false ∨ k ∈ s.gorse.outs))) ∧
      (Gives .peatRecordsClear s fun t => follows t ∧ t.getF Reg.GOR_STATUS_PEAT_RECORDS = 0 ∧ t.gorse = { s.gorse with peatAlarm := false } ∧
        ∀ k, k < 26 → t.alarmed k = s.alarmed k))

/-- A swale clears every key, association, cache, operand copy, Skylark instance and pending entry, and ends every graph before its commit
point; a Swale-R clears the root store as well, also where it extends a Swale-W; an extension repeats nothing. A Halt is recorded before the
islands stop (R405, R406, R409, R417, R418). -/
def Obligations.SwalesClearWhatTheSpecLists : Prop :=
  ∀ (s : State) (m : Nat), s.live = true → m < 26 → s.sampled m = true → s.alarmed m = false → s.lc.st ≠ 3 → s.lc.st ≠ 4 →
    ((s.resp m = 2 ∨ s.resp m = 3) → s.gorse.swale = none → Gives (.monitorTrip [m]) s fun t =>
      t.gorse.swale = some ⟨s.resp m - 1, m, s.resp m⟩ ∧ t.getF Reg.GOR_STATUS_SWALE_BUSY = 1 ∧ t.alarmed m = true ∧ t.live = true ∧
      (∀ e, e < 2 → (t.engine e).keys = none ∧ t.thaReady e = false ∧ ∀ n, (t.engine e).block n = none) ∧
      (∀ a, t.sa a = {}) ∧ (∀ i, t.mka i = none) ∧ (∀ c, t.arm c = none) ∧ (∀ k, t.kslot k = {}) ∧ t.bar.hotE = [] ∧ t.bar.hotW = [] ∧
      t.drv.copies = [] ∧ t.pends = [] ∧ t.sky.service = [] ∧ t.sky.clients = [] ∧ t.sky.seeds = 0 ∧ t.sky.buffer = 0 ∧
      (∀ g gr, t.graph g = some gr → gr.committed = true) ∧ t.cmn.sess = [] ∧ t.cmn.roster = [] ∧ t.hif.spdm.sessions = [] ∧
      (s.resp m = 2 → t.root.root = s.root.root ∧ t.root.era = s.root.era ∧ t.root.linkMaster = s.root.linkMaster ∧ t.root.persist = s.root.persist) ∧
      (s.resp m = 3 → t.root = {} ∧ t.getF Reg.BAR_STATUS_ROOT_OPEN = 0)) ∧
    (∀ w, s.gorse.swale = some w → w.mon < 26 → (s.resp m = 2 ∨ s.resp m = 3) → Gives (.monitorTrip [m]) s fun t => t.tha = s.tha ∧ t.fur = s.fur ∧
      t.drv.graphs = s.drv.graphs ∧ t.queues = s.queues ∧ (w.kind < s.resp m - 1 → t.gorse.swale = some ⟨s.resp m - 1, m, s.resp m⟩ ∧
        (s.resp m = 3 → t.root = {})) ∧ (s.resp m - 1 ≤ w.kind → t.gorse.swale = some w ∧ t.root = s.root)) ∧
    (∀ h, s.gorse.haltMon = some h → s.gorse.swale = none → s.lc.job = none → s.gorse.ledger.length < 4095 → s.gorse.peat.length < 64 →
      Gives .haltBegin s fun t => Claims.Wrote s t [ledgerBody 4 h 0 (s.resp h) s.cairn.opTime s.cairn.pcc] ∧ t.root = s.root)

/-- A test of a channel is begun or refused, and ends with its result and its mark; a failed one trips BIST_FAIL, an interval without a full
pass BIST_OVERDUE, a shadow that disagrees SHADOW. A ledger record is chained to the one before it, and the last one ends the ledger. On the
backup cell each monitor trips once, the first clearing the root store; without that cell all the Peat domain holds is lost
(R48, R410 to R414, R417). -/
def Obligations.BuiltInTestsLedgerAndBackupCell : Prop :=
  ∀ s : State,
    (s.up → ∀ m c, m < 32 → c < 8 →
      let ok : Prop := s.gorse.bist = none ∧ c < (if m < 3 then 8 else if m < 17 then 2 else if m = 17 then 1 else 0) ∧ s.sampled m = true
      (¬ok → Gives (.gorBistStart m c) s fun t => OnlyFields s t [Reg.GOR_BIST_STAT_RESULT] ∧ t.getF Reg.GOR_BIST_STAT_RESULT = 3) ∧
      (ok → Gives (.gorBistStart m c) s fun t => t.gorse = { s.gorse with bist := some (m, c) } ∧ t.getF Reg.GOR_BIST_STAT_BUSY = 1 ∧
        t.getF Reg.GOR_BIST_STAT_RESULT = 0 ∧ t.getF Reg.GOR_BIST_STAT_MONITOR = m ∧ t.getF Reg.GOR_BIST_STAT_CHANNEL = c ∧
        t = { s with regs := t.regs, gorse := t.gorse })) ∧
    (s.live = true →
      (s.gorse.bist = none → ∀ p, Gives (.gorBistComplete p) s fun t => t = s) ∧
      (∀ m c, s.gorse.bist = some (m, c) → m < 18 →
        (Gives (.gorBistComplete true) s fun t => t.gorse.bist = none ∧ t.getF Reg.GOR_BIST_STAT_BUSY = 0 ∧ t.getF Reg.GOR_BIST_STAT_RESULT = 1 ∧
          t.getF (Reg.GOR_MON_STAT_BIST_FAIL m) = (if s.gorse.failedCh.any (fun x => x != (m, c) && x.1 == m) then 1 else 0) ∧
          (∀ x, x ∈ t.gorse.failedCh ↔ x ∈ s.gorse.failedCh ∧ x ≠ (m, c)) ∧ t.gorse.peat = s.gorse.peat ∧
          ((∃ x ∈ s.bistAll, x ∉ (m, c) :: s.gorse.passed) → t.gorse.passed = (m, c) :: s.gorse.passed ∧ t.gorse.fullAt = s.gorse.fullAt) ∧
          ((∀ x ∈ s.bistAll, x ∈ (m, c) :: s.gorse.passed) → t.gorse.passed = [] ∧ t.gorse.fullAt = s.cairn.opTime ∧ t.gorse.overdue = false)) ∧
        (Gives (.gorBistComplete false) s fun t => ∃ u : State, t = u.trip [18] ∧ u.gorse = { s.gorse with bist := none, failedCh := u.gorse.failedCh } ∧
          (m, c) ∈ u.gorse.failedCh ∧ u.getF Reg.GOR_BIST_STAT_BUSY = 0 ∧ u.getF Reg.GOR_BIST_STAT_RESULT = 2 ∧ u.getF (Reg.GOR_MON_STAT_BIST_FAIL m) = 1)) ∧
      (let late : Prop := s.gorse.overdue = false ∧ s.gorse.fullAt + 3600000 * s.getF Reg.GOR_BIST_CFG_INTERVAL_H ≤ s.cairn.opTime
       (¬late → Gives .bistOverdue s fun t => t = s) ∧
       (late → Gives .bistOverdue s fun t => t = State.trip { s with gorse := { s.gorse with overdue := true } } [19])) ∧
      (Gives (.shadowScan none) s fun t => t = s) ∧
      (∀ k, s.sampled 17 = true → Gives (.shadowScan (some k)) s fun t => ∃ u : State, Recorded s u ∧ t = u.trip [17])) ∧
    (s.pwr.on = true → s.pwr.reset = false →
      let ledger := s.gorse.ledger
      let chain (prev body : Bytes) : Bytes := fit 12 body ++ (sha256 (prev ++ fit 12 body)).take 4
      let last := ledger.getLast?.getD s.lc.uid
      (s.gorse.peat = [] → Gives .ledgerRecordProgrammed s fun t => t = s) ∧
      (∀ b rest, s.gorse.peat = b :: rest →
        (ledger.length ≠ 4094 → Gives .ledgerRecordProgrammed s fun t => t.gorse =
          { s.gorse with ledger := ledger ++ [chain last b], peat := rest ++ s.gorse.latch.take 1, latch := s.gorse.latch.drop 1 } ∧
          t.root = s.root ∧ t.lc = s.lc ∧ FieldsBut s t logFields) ∧
        (ledger.length = 4094 → Gives .ledgerRecordProgrammed s fun t => ∃ u v : State, u.gorse.ledger = ledger ++ [chain last b,
            chain (chain last b) (ledgerBody 0x14 0xFF 0 0 s.cairn.opTime s.cairn.pcc)] ∧ u.gorse.peat = [] ∧ u.gorse.latch = [] ∧
          u.getF Reg.GOR_STATUS_LEDGER_FULL = 1 ∧ v = u.trip [25] ∧
          ((v.lc.st = 3 ∨ v.lc.st = 4) → t = v) ∧ (v.lc.st ≠ 3 → v.lc.st ≠ 4 → t = (v.setF Reg.LCS_STATUS_EOL_PENDING 1).stopService)))) ∧
    (let backup : List Nat := [0, 1, 2, 3, 4, 5, 8, 9]
     let alone : Prop := s.pwr.vin = false ∧ s.pwr.on = false ∧ s.pwr.peatLost = false ∧ s.lc.st ≠ 3 ∧ s.lc.st ≠ 4
     let entry (type m flags : Nat) : Bytes := ledgerBody type m flags 3 s.gorse.downTime (min 65535 (s.gorse.downUs / 3600000000))
     (¬alone → ∀ ms, Gives (.backupTrip ms) s fun t => t = s) ∧
     (alone →
       (∀ m, (m ∉ backup ∨ m ∈ s.gorse.backupTrips) → Gives (.backupTrip [m]) s fun t => t = s) ∧
       (∀ m, m ∈ backup → s.gorse.backupTrips = [] → Gives (.backupTrip [m]) s fun t => t.root = {} ∧ t.gorse.backupTrips = [m] ∧
         t.gorse.ledger = s.gorse.ledger ∧ (s.gorse.peat.length ≤ 62 → t.gorse.peat = s.gorse.peat ++ [entry 1 m 2, entry 3 m 2]) ∧
         (64 ≤ s.gorse.peat.length → t.gorse.peat = s.gorse.peat ∧ t.gorse.overflow = min 65535 (min 65535 (s.gorse.overflow + 1) + 1))) ∧
       (∀ i j, i ∈ backup → j ∈ backup → i < j → s.gorse.backupTrips = [] → s.gorse.peat = [] → Gives (.backupTrip [j, i]) s fun t => t.root = {} ∧
         t.gorse.backupTrips = [i, j] ∧ t.gorse.peat = [entry 1 i 3, entry 1 j 3, entry 3 i 2]) ∧
       (∀ m k l, m ∈ backup → s.gorse.backupTrips = k :: l → m ∉ k :: l → s.gorse.peat.length < 64 → Gives (.backupTrip [m]) s fun t =>
         t.root = s.root ∧ t.bar = s.bar ∧ t.gorse.backupTrips = k :: l ++ [m] ∧ t.gorse.peat = s.gorse.peat ++ [entry 1 m 2]))) ∧
    ((s.pwr.vin = true ∨ s.pwr.on = true) → Gives .vbakLoss s fun t => t = s) ∧
    (s.pwr.vin = false → s.pwr.on = false → Gives .vbakLoss s fun t => t.root = {} ∧ t.gorse.peat = [] ∧ t.gorse.latch = [] ∧
      t.gorse.overflow = 0 ∧ t.gorse.ledger = s.gorse.ledger ∧ t.pins.haltLow = false ∧ t.pwr.peatLost = true ∧ t.lc.uid = s.lc.uid ∧ t.lc.st = s.lc.st)

/-! ### Cairn (spec/20) -/

/-- The open block has taken one record `r`, with the event's code, payload and flags, stamped now, in full form where it is the first of the
block or of the start or comes too long after the one before (R423). -/
def Claims.Took (s t : State) (code flags : Nat) (payload : Bytes) : Prop :=
  let c := s.cairn
  (∃ r, (t.cairn.block c.head).recs = (c.block c.head).recs ++ [r] ∧ r.code = code ∧ r.payload = payload ∧ r.time = c.opTime ∧ r.pcc = c.pcc ∧
    r.delta = c.opTime - c.lastTime ∧ (∀ k, 0 < k → r.flags.testBit k = flags.testBit k) ∧
    (r.flags.testBit 0 = true ↔ c.fresh = true ∨ (c.block c.head).recs = [] ∨ 0xFFFFFFFF < c.opTime - c.lastTime)) ∧
  t.cairn.head = c.head ∧ (∀ k, k ≠ c.head → t.cairn.block k = c.block k) ∧ t.cairn.unspilled = c.unspilled ∧ t.cairn.spill = c.spill

/-- An event is recorded, counted in its rate window, tallied during a freeze, held while the ring is full of unspilled blocks, or dropped and
counted; a block that is full is closed and the next opened; a window that closes leaves its summary. A freeze stops the ring and the spill until
its thaw or its limit; aperture loads copy a block; a closed block is programmed at the spill position, on a device that takes it
(R421 to R423, R425 to R431, R433, R434). -/
def Obligations.EventsFreezeLoadsAndSpill : Prop :=
  ∀ s : State,
    let c := s.cairn
    let used := (c.block c.head).used
    let idle : Prop := c.queue = [] ∧ c.dropped = 0
    let fits (payload : Bytes) : Prop := used + 16 + pad8 payload.length ≤ 4080
    let ringKept (t : State) : Prop := t.cairn.ring = c.ring ∧ t.cairn.head = c.head ∧ t.cairn.tail = c.tail ∧ t.cairn.spill = c.spill ∧
      t.cairn.spillPos = c.spillPos
    let still : Prop := s.getF Reg.CRN_STATUS_FROZEN = 0
    (s.live = true →
      ((∀ r ∈ c.rates, r.1 ≠ 0x4004) → c.rate 0x4004 = (1000, 32)) ∧
      (∀ code key payload, let post := Instr.cairnEventPost code key payload
        (idle → still →
          (unlimited code = true → fits payload → Gives post s fun t => Claims.Took s t code 0 payload ∧ t.cairn.windows = c.windows ∧
            t.drv = s.drv ∧ t.regs = s.regs) ∧
          (unlimited code = true → 4080 < used + 8 + pad8 payload.length →
            ((c.head + 1) % 256 ∈ c.unspilled → Gives post s fun t => ringKept t ∧ t.cairn.queue = [⟨code, key, payload, 0⟩] ∧ t.regs = s.regs) ∧
            ((c.head + 1) % 256 ∉ c.unspilled → let n := (c.head + 1) % 256
              Gives post s fun t => t.cairn.head = n ∧ (t.cairn.block c.head).closed = true ∧ (t.cairn.block c.head).recs = (c.block c.head).recs ∧
                t.cairn.unspilled = c.unspilled ++ [c.head] ∧ (t.cairn.block n).seq = c.nextSeq % 2 ^ 32 ∧ (t.cairn.block n).pcc = c.pcc ∧
                (t.cairn.block n).closed = false ∧ t.cairn.queue = [] ∧
                ∃ r, (t.cairn.block n).recs = [r] ∧ r.code = code ∧ r.payload = payload ∧ r.time = c.opTime ∧ r.flags = 1)) ∧
          (unlimited code = false → code ≠ 0x2012 → fits payload →
            ((∀ w ∈ c.windows, ¬(w.code = code ∧ w.key = key)) →
              (s.drv.timers.length < 61440 → Gives post s fun t => Claims.Took s t code 0 payload ∧ t.cairn.windows = c.windows ++ [⟨code, key, 1, 0, 0⟩] ∧
                t.drv.timers = s.drv.timers ++ [⟨3, s.drv.tick + 1000 * (c.rate code).1, .cairn code key⟩] ∧ t.regs = s.regs) ∧
              (61440 ≤ s.drv.timers.length →
                let untimed (t : State) (n : Nat) : Prop := t.cairn.windows = c.windows ∧ t.drv = s.drv ∧ t.getF Reg.CRN_EVENT_NO_WINDOW = 1 ∧
                  t.getF Reg.DRV_EVENT_TIMER_FULL = 1 ∧ Claims.Up s t Reg.DRV_TIMER_FULL_COUNT n
                (code = 0x4002 → Gives post s fun t => Claims.Took s t code 0 payload ∧ untimed t 1) ∧
                (code ≠ 0x4002 → (∀ w ∈ c.windows, ¬(w.code = 0x4002 ∧ w.key = 3)) → used + 32 + pad8 payload.length ≤ 4080 →
                  Gives post s fun t => untimed t 2 ∧ ∃ u : State, Claims.Took s u code 0 payload ∧
                    Claims.Took u t 0x4002 0 (le 2 3 ++ le 2 3 ++ le 4 0)))) ∧
            (∀ w, c.windows = [w] → w.code = code → w.key = key →
              (w.count < (c.rate code).2 → Gives post s fun t => Claims.Took s t code 0 payload ∧ t.cairn.windows = [{ w with count := w.count + 1 }] ∧
                t.drv = s.drv ∧ t.regs = s.regs) ∧
              ((c.rate code).2 ≤ w.count → Gives post s fun t => ringKept t ∧
                t.cairn.windows = [{ w with suppressed := w.suppressed + 1, last := c.opTime }] ∧ t.drv = s.drv ∧ t.regs = s.regs)))) ∧
        (s.getF Reg.CRN_STATUS_FROZEN = 1 → c.queue = [] → code ≠ 0x2012 → Gives post s fun t => ringKept t ∧ t.cairn.windows = c.windows ∧
          Claims.Up s t Reg.CRN_FROZEN_COUNT 1 ∧
          ((∀ x ∈ c.tally, ¬(x.code = code ∧ x.key = key)) → c.tally.length < 64 → t.cairn.tally = c.tally ++ [⟨code, key, 1, c.opTime, c.opTime⟩]) ∧
          ((∀ x ∈ c.tally, ¬(x.code = code ∧ x.key = key)) → 64 ≤ c.tally.length → t.cairn.tallyOver = c.tallyOver + 1 ∧ t.cairn.tally = c.tally) ∧
          (∀ x, c.tally = [x] → x.code = code → x.key = key → t.cairn.tally = [{ x with count := x.count + 1, last := c.opTime }])) ∧
        (reservedCode code = true ↔ code / 0x1000 = 0 ∨ code / 0x1000 = 0xB ∨ code = 0x9004 ∨ code = 0x9006) ∧
        (∀ e q, still → c.queue = e :: q → unlimited e.code = true → 4080 < used + 8 + pad8 e.payload.length → (c.head + 1) % 256 ∈ c.unspilled →
          224 ≤ (c.queue.filter (fun x => !reservedCode x.code)).length →
          (reservedCode code = false → Gives post s fun t => ringKept t ∧ t.cairn.queue = c.queue ∧ t.cairn.dropped = c.dropped + 1 ∧
            Claims.Up s t Reg.CRN_DROPPED_COUNT 1 ∧ t.getF Reg.CRN_EVENT_DROPPED = 1) ∧
          (reservedCode code = true → Gives post s fun t => ringKept t ∧ t.cairn.queue = c.queue ++ [⟨code, key, payload, 0⟩] ∧ t.regs = s.regs))) ∧
      (∀ code key, let close := Instr.rateWindowClose code key
        (s.isDue (.cairn code key) = false → Gives close s fun t => t = s) ∧
        (∀ w, s.isDue (.cairn code key) = true → c.windows = [w] → w.code = code → w.key = key →
          let summary := le 2 key ++ zeros 2 ++ le 4 w.suppressed ++ le 6 w.last ++ zeros 2
          (w.suppressed = 0 → Gives close s fun t => ringKept t ∧ t.cairn.windows = [] ∧ t.isDue (.cairn code key) = false ∧ t.regs = s.regs) ∧
          (0 < w.suppressed → still → fits summary → Gives close s fun t => Claims.Took s t code 2 summary ∧ t.cairn.windows = [] ∧
            t.isDue (.cairn code key) = false ∧ t.regs = s.regs) ∧
          (0 < w.suppressed → s.getF Reg.CRN_STATUS_FROZEN = 1 → Gives close s fun t => ringKept t ∧ t.cairn.windows = [] ∧
            t.cairn.sums = c.sums ++ [⟨code, key, summary, 2⟩]))) ∧
      (¬(s.getF Reg.CRN_STATUS_FROZEN = 1 ∧ c.frozenAt + 100 ≤ c.opTime) → Gives .freezeTimeout s fun t => t = s) ∧
      (let ends (i : Instr) (P : State → Prop) : Prop :=
        (c.tally = [] → c.tallyOver = 0 → c.sums = [] → idle → Gives i s fun t => P t ∧ ringKept t ∧ t.getF Reg.CRN_STATUS_FROZEN = 0) ∧
        (∀ x, c.tally = [x] → c.tallyOver = 0 → c.sums = [] → idle →
          let payload := le 2 x.key ++ zeros 2 ++ le 4 x.count ++ le 6 x.last ++ zeros 2 ++ le 6 x.first ++ zeros 2
          fits payload → Gives i s fun t => P t ∧ Claims.Took s t x.code 4 payload ∧ t.getF Reg.CRN_STATUS_FROZEN = 0 ∧ t.cairn.tally = [])
       s.getF Reg.CRN_STATUS_FROZEN = 1 →
        (s.hif.perst = false → ends .thawCmd fun t => OnlyFields { s with cairn := t.cairn } t [Reg.CRN_STATUS_FROZEN]) ∧
        (c.frozenAt + 100 ≤ c.opTime → ends .freezeTimeout fun t => t.getF Reg.CRN_EVENT_THAW_AUTO = 1 ∧
          OnlyFields { s with cairn := t.cairn } t [Reg.CRN_STATUS_FROZEN, Reg.CRN_EVENT_THAW_AUTO])) ∧
      (∀ b, c.load = some (.ring b) → Gives .loadRingComplete s fun t => t.cairn = { c with load := none, aperture := (c.block b).bytes } ∧
        OnlyFields { s with cairn := t.cairn } t [Reg.CRN_STATUS_LOADING] ∧ t.getF Reg.CRN_STATUS_LOADING = 0) ∧
      ((∀ b, c.load ≠ some (.ring b)) → Gives .loadRingComplete s fun t => t = s) ∧
      (∀ p, c.load = some (.flash p) → Gives .loadFlashComplete s fun t =>
        t.cairn = { c with load := none, aperture := ((getC none c.spill p).map CairnBlock.bytes).getD (List.replicate 4096 0xFF) } ∧
        OnlyFields { s with cairn := t.cairn } t [Reg.CRN_STATUS_LOADING] ∧ t.getF Reg.CRN_STATUS_LOADING = 0) ∧
      ((∀ p, c.load ≠ some (.flash p)) → Gives .loadFlashComplete s fun t => t = s) ∧
      (let on : Prop := s.getF Reg.CRN_STATUS_SPILLING = 1 ∧ s.getF Reg.CRN_STATUS_FROZEN ≠ 1
       let ok (d : Nat) : Prop := getC false s.bale.deviceBad d = false ∧
         ¬(s.bale.target = d ∧ (s.getF Reg.HIF_BALE_STATUS_STAGE = 1 ∨ s.getF Reg.HIF_BALE_STATUS_STAGE = 2))
       let d := c.spillPos / 4080
       (¬on → Gives .spillBlockProgrammed s fun t => t = s) ∧
       (¬ok d → ¬ok (1 - d) → Gives .spillBlockProgrammed s fun t => t = s) ∧
       (∀ k rest p, on → idle → c.unspilled = k :: rest → c.spillPos < 8160 → ((ok d ∧ p = c.spillPos) ∨ (¬ok d ∧ ok (1 - d) ∧ p = 4080 * (1 - d))) →
         Gives .spillBlockProgrammed s fun t => getC none t.cairn.spill p = some (c.block k) ∧ t.cairn.unspilled = rest ∧
           t.cairn.spillPos = (p + 1) % 8160 ∧ t.cairn.ring = c.ring ∧ t.cairn.head = c.head ∧ t.regs = s.regs))) ∧
    (s.up →
      (still → Gives .freezeCmd s fun t => t.cairn = { c with frozenAt := c.opTime } ∧ t.getF Reg.CRN_STATUS_FROZEN = 1 ∧
        OnlyFields { s with cairn := t.cairn } t [Reg.CRN_STATUS_FROZEN]) ∧
      (s.getF Reg.CRN_STATUS_FROZEN = 1 → Gives .freezeCmd s fun t => t = s) ∧ (still → Gives .thawCmd s fun t => t = s) ∧
      (Gives .loadRing s fun t => t.cairn = { c with load := some (.ring (s.getF Reg.CRN_RD_SEL_BLOCK)) } ∧ t.getF Reg.CRN_STATUS_LOADING = 1 ∧
        OnlyFields { s with cairn := t.cairn } t [Reg.CRN_STATUS_LOADING]) ∧
      (let dev := s.getF Reg.CRN_RD_SEL_DEVICE
       let sec := s.getF Reg.CRN_RD_SEL_SECTOR
       let staging : Prop := s.bale.target = dev ∧ (s.getF Reg.HIF_BALE_STATUS_STAGE = 1 ∨ s.getF Reg.HIF_BALE_STATUS_STAGE = 2)
       (sec = 255 → Gives .loadFlash s fun t => OnlyFields s t [Reg.CRN_EVENT_CFG_REFUSED] ∧ t.getF Reg.CRN_EVENT_CFG_REFUSED = 1) ∧
       (sec ≠ 255 → staging → Gives .loadFlash s fun t => OnlyFields s t [Reg.CRN_EVENT_LOAD_REFUSED] ∧ t.getF Reg.CRN_EVENT_LOAD_REFUSED = 1) ∧
       (sec ≠ 255 → ¬staging → Gives .loadFlash s fun t =>
         t.cairn = { c with load := some (.flash (4080 * dev + 16 * sec + s.getF Reg.CRN_RD_SEL_FBLOCK)) } ∧ t.getF Reg.CRN_STATUS_LOADING = 1 ∧
         OnlyFields { s with cairn := t.cairn } t [Reg.CRN_STATUS_LOADING])) ∧
      (let payload := le 4 (s.getF Reg.CRN_WALL_LO_VALUE) ++ le 4 (s.getF Reg.CRN_WALL_HI_VALUE)
       still → idle → fits payload → c.windows = [] → s.drv.timers.length < 61440 → Gives .wallCmd s fun t => Claims.Took s t 0x2010 8 payload ∧
         t.regs = s.regs))

/-! ### The Commons (spec/21) -/

/-- The commands of the Commons are the steward's, have one length each, and act on a member with its roster loaded: founding, evidence,
invitation and join, leaving and expulsion, the sealed roster image, sessions and relayed messages, replicas, their binding and the notice of a
generation. A write of `CMN_PEER_SEL` selects a peer, and sets its route with ROUTE_WE (R435 to R443, R446, R447). -/
def Obligations.CommandsOfTheCommons : Prop :=
  ∀ (s : State) (g n : Nat) (gr : Graph), s.cmn.join = none → NoKeys gr →
    let b := gr.inp
    let at_ (op : Nat) : Prop := AtSink s op g gr n ∧ isSteward gr.qid = true
    let member : Prop := s.root.cmn.member = true ∧ s.getF Reg.CMN_STATUS_ROSTER_LOADED = 1
    let own := s.root.cmn
    let first := leAt b 0 2
    let named : Prop := leAt b 2 2 = 0 ∧ first < 16384
    let same (u : State) : Prop := u.root = s.root ∧ u.cmn.roster = s.cmn.roster
    let left (u : State) : Prop := u.root.cmn = {} ∧ u.cmn.roster = [] ∧ u.cmn.sess = [] ∧ u.root.masters = s.root.masters ∧
      u.getF Reg.CMN_STATUS_ROSTER_LOADED = 0
    let waits (c : Instr) (P : State → Prop) : Prop := Gives c s fun t => t.graph g = some gr ∧ P t
    (∀ full c op len, ((c = .cmnFound g ∧ op = 0x0C01 ∧ len = 0) ∨ (c = .cmnEvidence g ∧ op = 0x0C02 ∧ len = 32) ∨
        (c = .cmnInvite g ∧ op = 0x0C03 ∧ len = 17284) ∨ (c = .cmnJoin g ∧ op = 0x0C04 ∧ len = 34560) ∨ (c = .cmnLeave g ∧ op = 0x0C06 ∧ len = 0) ∨
        (c = .cmnExpel g ∧ op = 0x0C07 ∧ len = 4) ∨ (c = .cmnRosterExport g ∧ op = 0x0C08 ∧ len = 0) ∨
        (c = .cmnRosterLoad g ∧ op = 0x0C09 ∧ len = 524336) ∨ (c = .cmnSessionOpen g ∧ op = 0x0C10 ∧ len = 4) ∨
        (c = .cmnRelayOut g ∧ op = 0x0C12 ∧ len = 4) ∨ (c = .cmnReplicate g full ∧ op = 0x0C20 ∧ len = 8) ∨
        (c = .cmnReplicaBind g ∧ op = 0x0C21 ∧ len = 12) ∨ (c = .cmnReplicaDrop g ∧ op = 0x0C22 ∧ len = 8)) → AtSink s op g gr n →
      (isSteward gr.qid = false → Ends c s g n gr 0x0A01 s) ∧ (isSteward gr.qid = true → b.length ≠ len → Ends c s g n gr 0x0102 s)) ∧
    (at_ 0x0C01 → b.length = 0 → (own.member = true → Ends (.cmnFound g) s g n gr 0x0B02 s) ∧
      (own.member = false → gr.drawn = [] → 16 ≤ gr.desc.outLen → ∀ r u, s.draw (s.clientOf gr) 48 = some (r, u) →
        ∃ v, Commits (.cmnFound g) s g n gr (r.take 16) v ∧ v.root.cmn.member = true ∧ v.root.cmn.self = 0 ∧ v.root.cmn.gen = 0 ∧
          v.root.cmn.id = r.take 16 ∧ v.root.cmn.rosterKey = r.drop 16 ∧ v.root.cmn.replicas = [] ∧ v.root.cmn.digest = sha256 v.rosterBytes ∧
          v.entry 0 = s.selfEntry ∧ (∀ i, i ≠ 0 → v.entry i = zeros 32) ∧ v.root.masters = s.root.masters ∧
          v.getF Reg.CMN_STATUS_ROSTER_LOADED = 1)) ∧
    (at_ 0x0C02 → b.length = 32 → 17280 ≤ gr.desc.outLen → ∃ out u, Commits (.cmnEvidence g) s g n gr out u ∧ out.length = 17280 ∧
      out.take 192 = fit 192 (Config.evidenceBody { uid := s.lc.uid, pk := s.cmnPub, state := s.lc.st, meas := s.cmnMeas, nonce := b }) ∧ same u) ∧
    (at_ 0x0C03 → b.length = 17284 →
      let x := evidenceOk (b.drop 4)
      (¬named → Ends (.cmnInvite g) s g n gr 0x0104 s) ∧
      (named → (¬member ∨ s.entry first ≠ zeros 32) → Ends (.cmnInvite g) s g n gr 0x0B02 s) ∧
      (named → member → s.entry first = zeros 32 →
        ((x = none ∨ ∃ e, x = some e ∧ e.state ≠ s.lc.st) → Ends (.cmnInvite g) s g n gr 0x0301 s) ∧
        (∀ e, x = some e → e.state = s.lc.st → 34560 ≤ gr.desc.outLen → ∃ out u, Commits (.cmnInvite g) s g n gr out u ∧ out.length = 34560 ∧
          out.take 192 = fit 192 (Config.inviteBody ⟨own.id, first, own.gen, own.self⟩) ∧
          ⟨first, entryOf e.uid e.pk, s.cairn.opTime + 3600000⟩ ∈ u.cmn.invites ∧ same u))) ∧
    (at_ 0x0C04 → b.length = 34560 →
      let x := inviteOk b
      (own.member = true → Ends (.cmnJoin g) s g n gr 0x0B02 s) ∧
      (own.member = false → (x = none ∨ ∃ i e, x = some (i, e) ∧ (16384 ≤ i.index ∨ 16384 ≤ i.sponsor)) →
        Ends (.cmnJoin g) s g n gr 0x0301 s) ∧
      (∀ i e, own.member = false → x = some (i, e) → i.index < 16384 → i.sponsor < 16384 →
        waits (.cmnJoin g) fun t => t.cmn.join = some ⟨g, i, e⟩ ∧ t.root = s.root)) ∧
    (at_ 0x0C06 → b.length = 0 → (own.member = false → Ends (.cmnLeave g) s g n gr 0x0B02 s) ∧
      (own.member = true → (s.getF Reg.CMN_STATUS_ROSTER_LOADED = 1 → s.changeGoes = true) → ∃ u, Commits (.cmnLeave g) s g n gr [] u ∧ left u) ∧
      (member → s.changeGoes = false → waits (.cmnLeave g) fun t => t.root = s.root)) ∧
    (at_ 0x0C07 → b.length = 4 → (¬named → Ends (.cmnExpel g) s g n gr 0x0104 s) ∧
      (named → (¬member ∨ s.entry first = zeros 32 ∨ first = own.self) → Ends (.cmnExpel g) s g n gr 0x0B02 s) ∧
      (named → member → s.entry first ≠ zeros 32 → first ≠ own.self → (s.relayRoom s.changePeers = false → waits (.cmnExpel g) fun t => t.root = s.root) ∧
        (s.relayRoom s.changePeers = true → s.keeper ≠ own.self → ∃ u, Commits (.cmnExpel g) s g n gr [] u ∧ same u) ∧
        (s.relayRoom s.changePeers = true → s.keeper = own.self → ∃ u, Commits (.cmnExpel g) s g n gr [] u ∧ u.entry first = zeros 32 ∧ (∀ i, i ≠ first → u.entry i = s.entry i) ∧
          u.root.cmn = { own with gen := own.gen + 1, digest := sha256 u.rosterBytes }))) ∧
    (at_ 0x0C08 → b.length = 0 → (¬member → Ends (.cmnRosterExport g) s g n gr 0x0B02 s) ∧
      (member → let head := fit 16 own.id ++ le 4 own.gen ++ le 4 s.cmn.roster.length ++ zeros 8
        524336 ≤ gr.desc.outLen → ∃ out, Commits (.cmnRosterExport g) s g n gr out s ∧ out.take 32 = head ∧ out.length = 524336 ∧
          ∃ iv, out.drop 32 = gcmSeal own.rosterKey iv head s.rosterBytes)) ∧
    (at_ 0x0C09 → b.length = 524336 → (own.member = false → Ends (.cmnRosterLoad g) s g n gr 0x0B02 s) ∧
      (own.member = true → let r := gcmOpen own.rosterKey (imageNonce b) (b.take 32) (b.drop 32)
        (r = none → Ends (.cmnRosterLoad g) s g n gr 0x0301 s) ∧
        (∀ image, r = some image → (leAt b 16 4 ≠ own.gen ∨ sha256 image ≠ own.digest) → Ends (.cmnRosterLoad g) s g n gr 0x0301 s) ∧
        (∀ image, r = some image → leAt b 16 4 = own.gen → sha256 image = own.digest → ∃ u, Commits (.cmnRosterLoad g) s g n gr [] u ∧
          (∀ i, i < 16384 → u.entry i = fit 32 (slice image (32 * i) 32)) ∧ u.getF Reg.CMN_STATUS_ROSTER_LOADED = 1 ∧ u.root = s.root))) ∧
    (at_ 0x0C10 → b.length = 4 → (¬named → Ends (.cmnSessionOpen g) s g n gr 0x0104 s) ∧
      (named → (¬member ∨ first = own.self ∨ s.peerEntry first = none) → Ends (.cmnSessionOpen g) s g n gr 0x0B02 s) ∧
      (named → member → first ≠ own.self → s.peerEntry first ≠ none →
        ((g, first) ∈ s.cmn.failed → ∃ u, Ends (.cmnSessionOpen g) s g n gr 0x0301 u ∧ (g, first) ∉ u.cmn.failed ∧ same u) ∧
        ((g, first) ∉ s.cmn.failed →
          (∀ x, s.cmnSess first = some x → (x.opening = false → ∃ u, Commits (.cmnSessionOpen g) s g n gr [] u ∧ u.cmn.sess = s.cmn.sess ∧ same u) ∧
            (x.opening = true → waits (.cmnSessionOpen g) fun t => t.cmn.sess = s.cmn.sess ∧ (g, first) ∈ t.cmn.openers)) ∧
          (s.cmnSess first = none → (4096 ≤ s.cmn.sess.length → Ends (.cmnSessionOpen g) s g n gr 0x0B01 s) ∧
            (s.cmn.sess.length < 4096 → waits (.cmnSessionOpen g) fun t => t.root = s.root ∧ (g, first) ∈ t.cmn.openers))))) ∧
    (AtSink s 0x0C11 g gr n → s.cmn.waiting = [] →
      (isSteward gr.qid = false → Ends (.cmnRelayIn g) s g n gr 0x0A01 s) ∧
      (isSteward gr.qid = true → (b.length < 49 ∨ 8240 < b.length) → Ends (.cmnRelayIn g) s g n gr 0x0102 s) ∧
      (isSteward gr.qid = true → 49 ≤ b.length → b.length ≤ 8240 →
        (cmnRead b = none → Ends (.cmnRelayIn g) s g n gr 0x0104 s) ∧
        (∀ h, cmnRead b = some h →
          (b.length ≠ h.len + 48 → Ends (.cmnRelayIn g) s g n gr 0x0103 s) ∧
          (b.length = h.len + 48 →
            ((h.receiver ≠ own.self ∨ s.peerEntry h.sender = none) → ∃ u, Commits (.cmnRelayIn g) s g n gr [] u ∧ u.cmn = s.cmn ∧ same u) ∧
            (∀ x, h.receiver = own.self → s.peerEntry h.sender ≠ none → h.type ≠ 1 → h.type ≠ 2 → s.cmnSess h.sender = some x → x.opening = false →
              x.num = h.num → let stale : Prop := h.seq = 0 ∨ h.seq + 1024 ≤ x.top ∨ h.seq ∈ x.seen
              let opened := gcmOpen (s.kslot x.rx).key (cmnNonce h.num h.seq) (b.take 32) (b.drop 32)
              (stale → ∃ u, Commits (.cmnRelayIn g) s g n gr [] u ∧ u.cmn = s.cmn ∧
                u.getF Reg.CMN_REPLAY_DROP_COUNT = min (s.getF Reg.CMN_REPLAY_DROP_COUNT + 1) 0xFFFFFFFF) ∧
              (¬stale → opened = none → ∃ u, Ends (.cmnRelayIn g) s g n gr 0x0301 u ∧ Recorded s u) ∧
              (∀ body m, ¬stale → opened = some body → h.last = 0 → h.seq < 2 ^ 32 → Config.cmnRead h.type body = some m → cmnType m = h.type →
                ∃ u y, Commits (.cmnRelayIn g) s g n gr [] u ∧ u.cmn.inbox = s.cmn.inbox ++ [⟨x.peer, x.num, m⟩] ∧ u.cmnSess x.peer = some y ∧
                  y.top = max x.top h.seq ∧ h.seq ∈ y.seen ∧ y.lost = false ∧ y.heard = s.drv.tick)))))) ∧
    (at_ 0x0C12 → b.length = 4 → s.cmn.waiting = [] → let k := byteAt b 0
      ((k = 0 ∨ 64 < k ∨ leAt b 1 3 ≠ 0) → Ends (.cmnRelayOut g) s g n gr 0x0104 s) ∧
      (∀ out, 1 ≤ k → k ≤ 64 → leAt b 1 3 = 0 → out = (s.cmn.outQ.take k).flatMap (fun m => le 4 m.length ++ m) → out.length ≤ gr.desc.outLen →
        ∃ u, Commits (.cmnRelayOut g) s g n gr out u ∧ u.cmn.outQ = s.cmn.outQ.drop k ∧ same u)) ∧
    (at_ 0x0C20 → b.length = 8 → ∀ full, let p := leAt b 2 2
      let move := byteAt b 4
      let formed : Prop := move ≤ 1 ∧ leAt b 5 3 = 0 ∧ p < 16384 ∧ (first < 2048 ∨ first = 0xFFFF)
      let e := if first = 0xFFFF then 2048 else first
      let m := s.master e
      let able : Prop := member ∧ m.present = true ∧ p ≠ own.self ∧ s.entry p ≠ zeros 32 ∧ (move = 1 → (s.allot e).st = .quiesced)
      let c := Instr.cmnReplicate g full
      (¬formed → Ends c s g n gr 0x0104 s) ∧ (formed → ¬able → Ends c s g n gr 0x0B02 s) ∧ (formed → able → full = true → Ends c s g n gr 0x0B01 s) ∧
      (∀ x, formed → able → full = false → s.cmnSess p = some x → x.opening = false →
        (s.sendNow x (.replica e m.gen m.id m.key) = none → waits c fun t => t.root = s.root) ∧
        (∀ u, s.sendNow x (.replica e m.gen m.id m.key) = some u → ∃ v, Commits c s g n gr [] v ∧ v.cmn.outQ = u.cmn.outQ ∧
          v.cmn.moves = u.cmn.moves ++ (if move = 1 then [(p, m.id)] else [])))) ∧
    (at_ 0x0C21 → b.length = 12 → let a := leAt b 8 2
      let r := own.replicas.find? (fun r => r.id == b.take 8)
      let c := Instr.cmnReplicaBind g
      ((leAt b 10 2 ≠ 0 ∨ 2048 ≤ a) → Ends c s g n gr 0x0104 s) ∧
      (leAt b 10 2 = 0 → a < 2048 → (r = none → Ends c s g n gr 0x0201 s) ∧
        ∀ x, r = some x → let fit_ : Prop := (s.master a).present = false ∧ ((s.allot a).st = .active ∨ (s.allot a).st = .quiesced)
          (¬fit_ → Ends c s g n gr 0x0B02 s) ∧
          (fit_ → 2 ≤ gr.desc.outLen → ∃ u, Commits c s g n gr (le 2 x.gen) u ∧ u.master a = { present := true, gen := x.gen, id := x.id, key := x.key } ∧
            (∀ k, k ≠ a → u.master k = s.master k) ∧ u.root.cmn.replicas = own.replicas.filter (fun y => y.id != x.id)))) ∧
    (at_ 0x0C22 → b.length = 8 → let c := Instr.cmnReplicaDrop g
      ((∀ r ∈ own.replicas, r.id ≠ b) → Ends c s g n gr 0x0201 s) ∧
      (∀ r ∈ own.replicas, r.id = b → ∃ u, Commits c s g n gr [] u ∧ u.root.cmn.replicas = own.replicas.filter (fun y => y.id != b) ∧
        u.root.masters = s.root.masters)) ∧
    (AtSink s 0x0C23 g gr n → let k := byteAt b 8
      let l := (List.range k).map (fun i => leAt b (12 + 2 * i) 2)
      let formed : Prop := k ≤ 64 ∧ leAt b 9 3 = 0 ∧ ∀ i ∈ l, i < 16384
      let c := Instr.cmnGenNotify g
      (isSteward gr.qid = false → Ends c s g n gr 0x0A01 s) ∧
      (isSteward gr.qid = true → (b.length < 14 ∨ b.length ≠ 12 + 2 * k) → Ends c s g n gr 0x0102 s) ∧
      (isSteward gr.qid = true → 14 ≤ b.length → b.length = 12 + 2 * k → (¬formed → Ends c s g n gr 0x0104 s) ∧
        (formed → ¬member → Ends c s g n gr 0x0B02 s) ∧ (formed → member → s.heldGen (b.take 8) = none → Ends c s g n gr 0x0201 s) ∧
        (∀ v, formed → member → s.heldGen (b.take 8) = some v →
          let room : Prop := l.filter s.byRelay = [] ∨ s.cmn.outQ.length + (l.filter s.byRelay).length ≤ 256
          (¬room → waits c fun t => t.root = s.root) ∧ (room → ∃ u, Commits c s g n gr [] u ∧ u.root = s.root)))) ∧
    (s.shown → ∀ val, let i := val % 16384
      let c := Instr.cmnPeerSelWrite val
      (s.lc.variant.hasPqc = true → Gives c s fun t => t.getF Reg.CMN_PEER_SEL_INDEX = i ∧ t.root = s.root ∧
        ((val.testBit 15 = false ∨ s.cmn.waiting = []) → FieldsBut s t [Reg.CMN_PEER_SEL_INDEX] ∧
          t = { s with regs := t.regs, cmn := { s.cmn with routes := t.cmn.routes } }) ∧
        ∀ p, getC false t.cmn.routes p = if val.testBit 15 = true ∧ p = i then val.testBit 14 else getC false s.cmn.routes p) ∧
      (s.lc.variant.hasPqc = false → Gives c s fun t => t.cmn = s.cmn ∧
        t.getF Reg.HIF_ABSENT_HITS_HITS = min (s.getF Reg.HIF_ABSENT_HITS_HITS + 1) (2 ^ Reg.HIF_ABSENT_HITS_HITS.w - 1)))

/-- The first message taken in that concerns an event acts as its kind says, where its peer may have a session: an invited candidate is
admitted, an update of the next generation is applied and others are requested, ignored or in conflict, a roster replaces one of a lower
generation or commits a join, a replica is stored, a higher generation is adopted, and a bind acknowledgement ends a move. A handshake is checked
by each side. A heartbeat is set anew; a peer silent for five intervals is lost (R436 to R443). -/
def Obligations.MessagesAndTimersOfTheCommons : Prop :=
  ∀ s : State, s.live = true → s.cmn.join = none → s.fur.toCmn = [] → s.cmn.waiting = [] →
    let own := s.root.cmn
    let kinds : List Instr := [.heartbeatReceive, .joinRequestReceive, .rosterUpdateReceive, .rosterRequestReceive, .rosterSegmentReceive, .replicaReceive,
      .genNoticeReceive, .bindAckReceive]
    (s.cmn.inbox = [] → ∀ c ∈ kinds, Gives c s fun t => t = s) ∧
    (∀ x rest, s.cmn.inbox = x :: rest →
      let taken : State := { s with cmn := { s.cmn with inbox := rest } }
      let drops (c : Instr) : Prop := Gives c s fun t => t = taken
      (x.msg = .heartbeat → drops .heartbeatReceive) ∧
      (s.peerEntry x.peer = none → ∀ g i e k b d im a id key,
        (x.msg = .join → drops .joinRequestReceive) ∧ ((x.msg = .update g k i b d ∨ x.msg = .change i e) → drops .rosterUpdateReceive) ∧
        (x.msg = .request → drops .rosterRequestReceive) ∧ (x.msg = .roster g im → drops .rosterSegmentReceive) ∧
        (x.msg = .replica a g id key → drops .replicaReceive) ∧ (x.msg = .notice id g → drops .genNoticeReceive) ∧
        (x.msg = .bound id → drops .bindAckReceive)) ∧
      (s.peerEntry x.peer ≠ none →
        let applied (t : State) (g i : Nat) (b : Bytes) : Prop := t.entry i = fit 32 b ∧ (∀ j, j ≠ i → t.entry j = s.entry j) ∧
          t.root.cmn = { own with gen := g, digest := sha256 t.rosterBytes } ∧ t.getF Reg.CMN_EVENT_ROSTER_CHANGE = 1
        let kept (t : State) : Prop := t.root = s.root ∧ t.cmn.roster = s.cmn.roster ∧ t.cmn.inbox = rest
        (x.msg = .join →
          ((∀ v ∈ s.cmn.invites, ¬(v.index = x.peer ∧ s.cairn.opTime ≤ v.until_)) → drops .joinRequestReceive) ∧
          (∀ v, s.cmn.invites.find? (fun v => v.index == x.peer && decide (s.cairn.opTime ≤ v.until_)) = some v → s.keeper = own.self →
            Gives .joinRequestReceive s fun t => applied t (own.gen + 1) v.index v.entry ∧ ∀ w ∈ t.cmn.invites, w.index ≠ v.index)) ∧
        (∀ g k i b d, x.msg = .update g k i b d →
          let u := s.putEntry i b
          let fitting : Prop := sha256 u.rosterBytes = d
          (g = own.gen + 1 → fitting → u.entry own.self = s.selfEntry → Gives .rosterUpdateReceive s fun t => applied t g i b) ∧
          (g = own.gen + 1 → fitting → u.entry own.self ≠ s.selfEntry → Gives .rosterUpdateReceive s fun t => t.root.cmn = {} ∧ t.cmn.roster = [] ∧
            t.cmn.sess = []) ∧
          ((own.gen + 1 < g ∨ (g = own.gen + 1 ∧ ¬fitting)) → Gives .rosterUpdateReceive s kept) ∧
          (g < own.gen → drops .rosterUpdateReceive) ∧
          (∀ l, g = own.gen → s.cmn.last = some l → l.gen = g →
            let other : Prop := ¬(l.keeper = k ∧ l.index = i ∧ l.entry = b)
            (¬other → drops .rosterUpdateReceive) ∧
            (other → l.keeper ≤ k → Gives .rosterUpdateReceive s fun t => kept t ∧ t.getF Reg.CMN_EVENT_ROSTER_CONFLICT = 1) ∧
            (other → k < l.keeper → ((s.putEntry l.index l.old).putEntry i b).entry own.self = s.selfEntry → Gives .rosterUpdateReceive s fun t =>
              t.entry i = fit 32 b ∧ t.root.cmn.gen = g ∧ t.getF Reg.CMN_EVENT_ROSTER_CONFLICT = 1 ∧ (i ≠ l.index → t.entry l.index = fit 32 l.old)))) ∧
        (∀ i b, x.msg = .change i b → s.keeper = own.self → (allZero b = true ∨ s.entry i = zeros 32) → Gives .rosterUpdateReceive s fun t =>
          applied t (own.gen + 1) i b) ∧
        (∀ i b, x.msg = .change i b → allZero b = false → s.entry i ≠ zeros 32 → drops .rosterUpdateReceive) ∧
        (x.msg = .request → Gives .rosterRequestReceive s fun t => t = taken.send x.peer (.roster own.gen s.rosterBytes) ∧ t.root = s.root ∧
          t.cmn.roster = s.cmn.roster) ∧
        (∀ g im, x.msg = .roster g im → (g ≤ own.gen → drops .rosterSegmentReceive) ∧
          (own.gen < g → own.self < 16384 → fit 32 (slice im (32 * own.self) 32) = s.selfEntry → Gives .rosterSegmentReceive s fun t =>
            t.root.cmn.gen = g ∧ t.root.cmn.id = own.id ∧ ∀ i, i < 16384 → t.entry i = fit 32 (slice im (32 * i) 32)) ∧
          (own.gen < g → own.self < 16384 → fit 32 (slice im (32 * own.self) 32) ≠ s.selfEntry → Gives .rosterSegmentReceive s fun t =>
            t.root.cmn = {} ∧ t.cmn.roster = [])) ∧
        (∀ a g id key, x.msg = .replica a g id key → let l := own.replicas.filter (fun r => r.id != fit 8 id)
          (l.length < 192 → Gives .replicaReceive s fun t => t.root.cmn = { own with replicas := l ++ [⟨x.peer, a, g, fit 8 id, key⟩] } ∧
            t.getF Reg.CMN_EVENT_REPLICA_IN = 1 ∧ t.root.masters = s.root.masters) ∧
          (192 ≤ l.length → drops .replicaReceive)) ∧
        (∀ id g, x.msg = .notice id g → wfM (fun _ => ({} : Master)) s.root.masters = true → Gives .genNoticeReceive s fun t =>
          (∀ e, t.master e = if (s.master e).present = true ∧ (s.master e).id = fit 8 id ∧ (s.master e).gen < g then { s.master e with gen := g }
            else s.master e) ∧
          t.root.cmn.replicas = own.replicas.map (fun r => if r.id = fit 8 id ∧ r.gen < g then { r with gen := g } else r)) ∧
        (∀ id, x.msg = .bound id → ((x.peer, id) ∉ s.cmn.moves → drops .bindAckReceive) ∧
          ((x.peer, id) ∈ s.cmn.moves → Gives .bindAckReceive s fun t => t.cmn.moves = s.cmn.moves.erase (x.peer, id) ∧
            t.getF Reg.CMN_EVENT_MOVE_DONE = 1 ∧ t.root = s.root)))) ∧
    (∀ p num type body, s.wholeHs = some (p, num, type, body) → s.roleUp 3 = false → Gives .handshakeReceive s fun t => t = s) ∧
    (s.wholeHs = none → Gives .handshakeReceive s fun t => t = s) ∧
    (∀ p num body uid pk ct nonce sig x, s.wholeHs = some (p, num, 2, body) → s.roleUp 3 = true →
      Config.cmnRead 2 body = some (.reply uid pk ct nonce sig) → s.cmnSess p = some x → x.opening = true → x.mine = true → x.num = num →
      let tr := x.hello ++ uid ++ pk ++ ct ++ nonce
      let good : Prop := verifyPure 0x51 pk [] tr sig = true ∧ s.peerEntry p = some (entryOf uid pk) ∧ ct.length = 1568
      let u : State := { s with cmn := { s.cmn with hs := s.cmn.hs.filter (fun h => !(h.peer == p && h.num == num && h.type == 2)) } }
      (¬good → Gives .handshakeReceive s fun t => t.cmnSess p = none ∧ t.root = s.root ∧ ∀ o ∈ s.cmn.openers, o.2 = p → o ∈ t.cmn.failed) ∧
      (good → Gives .handshakeReceive s fun t => t = u.openSess x (fit 32 (Config.decaps 0x41 x.eph ct)) tr)) ∧
    (∀ p num body uid pk ek nonce sig, s.wholeHs = some (p, num, 1, body) → s.roleUp 3 = true →
      Config.cmnRead 1 body = some (.hello uid pk ek nonce sig) →
      (verifyPure 0x51 pk [] (uid ++ pk ++ ek ++ nonce) sig = false ∨ s.peerEntry p ≠ some (entryOf uid pk)) → Gives .handshakeReceive s fun t =>
        t.cmn.sess = s.cmn.sess ∧ t.root = s.root ∧ t.bar = s.bar) ∧
    (∀ p, (s.isDue (.cmn 0 p) = false → Gives (.heartbeatTimer p) s fun t => t = s) ∧
      (s.isDue (.cmn 0 p) = true → Gives (.heartbeatTimer p) s fun t => t.isDue (.cmn 0 p) = false ∧ t.root = s.root) ∧
      (s.isDue (.cmn 1 p) = false → Gives (.peerTimeout p) s fun t => t = s) ∧
      (∀ x, s.isDue (.cmn 1 p) = true → s.cmnSess p = some x → let silent : Prop := x.heard + 5000 * s.getF Reg.CMN_CFG_HB_MS ≤ s.drv.tick
        (x.opening = true → Gives (.peerTimeout p) s fun t => t.cmnSess p = none) ∧
        (x.opening = false → silent → x.lost = false → Gives (.peerTimeout p) s fun t => t.getF Reg.CMN_EVENT_PEER_LOST = 1 ∧
          t.cmnSess p = some { x with lost := true }) ∧
        (x.opening = false → (¬silent ∨ x.lost = true) → Gives (.peerTimeout p) s fun t => t.cmn = s.cmn)))
end

