-- ==== Sys2Proof/Laws/SMap.lean ====
section
/-! SUPPORT. The laws of sparse arrays: a read after a store, and that every operation keeps the canonical form. -/

namespace Sys2Proof.Machine

variable {α : Type}

theorem getM_putM (d : Nat → α) (m : SMap α) (k k' : Nat) (v : α) :
    getM d (putM m k v) k' = if k = k' then v else getM d m k' := by
  induction m with
  | nil => simp [putM, getM]
  | cons e m ih =>
    obtain ⟨a, b⟩ := e
    by_cases h1 : k < a
    · simp [putM, h1, getM]
    · by_cases h2 : a = k
      · subst h2
        simp only [putM, lt_irrefl, if_false, if_true, getM]
        split <;> rfl
      · simp only [putM, h1, h2, if_false, getM, ih]
        by_cases h3 : a = k'
        · subst h3; simp [Ne.symm h2]
        · simp [h3]

@[simp] theorem aboveM_none (k : Nat) : aboveM none k = true := rfl

theorem aboveM_of_lt {lo : Option Nat} {a k : Nat} (h : aboveM lo a = true) (hk : a < k) : aboveM lo k = true := by
  cases lo with
  | none => rfl
  | some l => simp only [aboveM, decide_eq_true_eq] at h ⊢; omega

theorem risingM_cons [DecidableEq α] (d : Nat → α) (lo : Option Nat) (k : Nat) (v : α) (m : SMap α) :
    risingM d lo ((k, v) :: m) = true ↔ aboveM lo k = true ∧ v ≠ d k ∧ risingM d (some k) m = true := by
  simp [risingM, and_assoc]

theorem risingM_weaken [DecidableEq α] (d : Nat → α) (m : SMap α) (lo : Option Nat) (a : Nat) (h : aboveM lo a = true)
    (hm : risingM d (some a) m = true) : risingM d lo m = true := by
  cases m with
  | nil => rfl
  | cons e m =>
    obtain ⟨b, v⟩ := e
    rw [risingM_cons] at hm ⊢
    exact ⟨aboveM_of_lt h (by simpa [aboveM] using hm.1), hm.2⟩

theorem getM_delM (d : Nat → α) (m : SMap α) (k k' : Nat) :
    getM d (delM m k) k' = if k = k' then d k else getM d m k' := by
  induction m with
  | nil =>
    simp only [delM, getM]
    by_cases h : k = k'
    · subst h; simp
    · simp [h]
  | cons e m ih =>
    obtain ⟨a, b⟩ := e
    by_cases h2 : a = k
    · subst h2
      simp only [delM, if_true, ih, getM]
      by_cases h3 : a = k'
      · subst h3; simp
      · simp [h3]
    · simp only [delM, h2, if_false, getM, ih]
      by_cases h3 : a = k'
      · subst h3; simp [Ne.symm h2]
      · simp [h3]

/-- A read after a store. -/
theorem getM_setM [DecidableEq α] (d : Nat → α) (m : SMap α) (k k' : Nat) (v : α) :
    getM d (setM d m k v) k' = if k = k' then v else getM d m k' := by
  unfold setM
  split
  · next h => subst h; rw [getM_delM]
  · exact getM_putM d m k k' v

theorem risingM_putM [DecidableEq α] (d : Nat → α) (m : SMap α) (lo : Option Nat) (k : Nat) (v : α)
    (hlo : aboveM lo k = true) (hv : v ≠ d k) (hm : risingM d lo m = true) :
    risingM d lo (putM m k v) = true := by
  induction m generalizing lo with
  | nil => simpa [putM, risingM, hv] using hlo
  | cons e m ih =>
    obtain ⟨a, b⟩ := e
    rw [risingM_cons] at hm
    by_cases h1 : k < a
    · simp only [putM, h1, if_true, risingM_cons]
      exact ⟨hlo, hv, by simpa [aboveM] using h1, hm.2⟩
    · by_cases h2 : a = k
      · subst h2
        simp only [putM, lt_irrefl, if_false, if_true, risingM_cons]
        exact ⟨hlo, hv, hm.2.2⟩
      · simp only [putM, h1, h2, if_false, risingM_cons]
        exact ⟨hm.1, hm.2.1, ih (some a) (by simp only [aboveM, decide_eq_true_eq]; omega) hm.2.2⟩

theorem risingM_delM [DecidableEq α] (d : Nat → α) (m : SMap α) (lo : Option Nat) (k : Nat)
    (hm : risingM d lo m = true) : risingM d lo (delM m k) = true := by
  induction m generalizing lo with
  | nil => rfl
  | cons e m ih =>
    obtain ⟨a, b⟩ := e
    rw [risingM_cons] at hm
    by_cases h2 : a = k
    · simp only [delM, h2, if_true]
      subst h2
      exact risingM_weaken d _ lo a hm.1 (ih (some a) hm.2.2)
    · simp only [delM, h2, if_false, risingM_cons]
      exact ⟨hm.1, hm.2.1, ih (some a) hm.2.2⟩

/-- A store keeps the canonical form. -/
theorem wfM_setM [DecidableEq α] (d : Nat → α) (m : SMap α) (k : Nat) (v : α) (hm : wfM d m = true) :
    wfM d (setM d m k v) = true := by
  unfold setM wfM
  split
  · exact risingM_delM d m none k hm
  · next h => exact risingM_putM d m none k v rfl h hm

/-- The empty array is in canonical form. -/
theorem wfM_nil [DecidableEq α] (d : Nat → α) : wfM d ([] : SMap α) = true := rfl

end Sys2Proof.Machine
end

