-- ==== Sys2Proof/Laws/State.lean ====
section
/-! SUPPORT. What each named update of the state leaves in each part of it: one lemma for each part, true by unfolding, and the read of what was stored. -/

namespace Sys2Proof.Machine

@[simp] theorem State.setF_pending (s : State) (f : Fld) (v : Nat) : (s.setF f v).pending = s.pending := rfl
@[simp] theorem State.setF_drv (s : State) (f : Fld) (v : Nat) : (s.setF f v).drv = s.drv := rfl
@[simp] theorem State.setF_queues (s : State) (f : Fld) (v : Nat) : (s.setF f v).queues = s.queues := rfl
@[simp] theorem State.setF_allots (s : State) (f : Fld) (v : Nat) : (s.setF f v).allots = s.allots := rfl
@[simp] theorem State.setF_hif (s : State) (f : Fld) (v : Nat) : (s.setF f v).hif = s.hif := rfl
@[simp] theorem State.setF_cairn (s : State) (f : Fld) (v : Nat) : (s.setF f v).cairn = s.cairn := rfl
@[simp] theorem State.setF_gorse (s : State) (f : Fld) (v : Nat) : (s.setF f v).gorse = s.gorse := rfl
@[simp] theorem State.setF_root (s : State) (f : Fld) (v : Nat) : (s.setF f v).root = s.root := rfl
@[simp] theorem State.setF_bar (s : State) (f : Fld) (v : Nat) : (s.setF f v).bar = s.bar := rfl
@[simp] theorem State.setF_pends (s : State) (f : Fld) (v : Nat) : (s.setF f v).pends = s.pends := rfl
@[simp] theorem State.setF_pwr (s : State) (f : Fld) (v : Nat) : (s.setF f v).pwr = s.pwr := rfl
@[simp] theorem State.setF_pins (s : State) (f : Fld) (v : Nat) : (s.setF f v).pins = s.pins := rfl
@[simp] theorem State.setF_lc (s : State) (f : Fld) (v : Nat) : (s.setF f v).lc = s.lc := rfl
@[simp] theorem State.setF_bale (s : State) (f : Fld) (v : Nat) : (s.setF f v).bale = s.bale := rfl
@[simp] theorem State.setF_sky (s : State) (f : Fld) (v : Nat) : (s.setF f v).sky = s.sky := rfl
@[simp] theorem State.setF_fur (s : State) (f : Fld) (v : Nat) : (s.setF f v).fur = s.fur := rfl
@[simp] theorem State.setF_tha (s : State) (f : Fld) (v : Nat) : (s.setF f v).tha = s.tha := rfl
@[simp] theorem State.setF_hdg (s : State) (f : Fld) (v : Nat) : (s.setF f v).hdg = s.hdg := rfl
@[simp] theorem State.setF_cmn (s : State) (f : Fld) (v : Nat) : (s.setF f v).cmn = s.cmn := rfl
@[simp] theorem State.setF_rdata (s : State) (f : Fld) (v : Nat) : (s.setF f v).rdata = s.rdata := rfl
@[simp] theorem State.setF_outbox (s : State) (f : Fld) (v : Nat) : (s.setF f v).outbox = s.outbox := rfl
@[simp] theorem State.setF_freeCtr (s : State) (f : Fld) (v : Nat) : (s.setF f v).freeCtr = s.freeCtr := rfl

@[simp] theorem State.setQueue_pending (s : State) (k : Nat) (x : Queue) : (s.setQueue k x).pending = s.pending := rfl
@[simp] theorem State.setQueue_regs (s : State) (k : Nat) (x : Queue) : (s.setQueue k x).regs = s.regs := rfl
@[simp] theorem State.setQueue_drv (s : State) (k : Nat) (x : Queue) : (s.setQueue k x).drv = s.drv := rfl
@[simp] theorem State.setQueue_allots (s : State) (k : Nat) (x : Queue) : (s.setQueue k x).allots = s.allots := rfl
@[simp] theorem State.setQueue_hif (s : State) (k : Nat) (x : Queue) : (s.setQueue k x).hif = s.hif := rfl
@[simp] theorem State.setQueue_cairn (s : State) (k : Nat) (x : Queue) : (s.setQueue k x).cairn = s.cairn := rfl
@[simp] theorem State.setQueue_gorse (s : State) (k : Nat) (x : Queue) : (s.setQueue k x).gorse = s.gorse := rfl
@[simp] theorem State.setQueue_root (s : State) (k : Nat) (x : Queue) : (s.setQueue k x).root = s.root := rfl
@[simp] theorem State.setQueue_bar (s : State) (k : Nat) (x : Queue) : (s.setQueue k x).bar = s.bar := rfl
@[simp] theorem State.setQueue_pends (s : State) (k : Nat) (x : Queue) : (s.setQueue k x).pends = s.pends := rfl
@[simp] theorem State.setQueue_pwr (s : State) (k : Nat) (x : Queue) : (s.setQueue k x).pwr = s.pwr := rfl
@[simp] theorem State.setQueue_pins (s : State) (k : Nat) (x : Queue) : (s.setQueue k x).pins = s.pins := rfl
@[simp] theorem State.setQueue_lc (s : State) (k : Nat) (x : Queue) : (s.setQueue k x).lc = s.lc := rfl
@[simp] theorem State.setQueue_bale (s : State) (k : Nat) (x : Queue) : (s.setQueue k x).bale = s.bale := rfl
@[simp] theorem State.setQueue_sky (s : State) (k : Nat) (x : Queue) : (s.setQueue k x).sky = s.sky := rfl
@[simp] theorem State.setQueue_fur (s : State) (k : Nat) (x : Queue) : (s.setQueue k x).fur = s.fur := rfl
@[simp] theorem State.setQueue_tha (s : State) (k : Nat) (x : Queue) : (s.setQueue k x).tha = s.tha := rfl
@[simp] theorem State.setQueue_hdg (s : State) (k : Nat) (x : Queue) : (s.setQueue k x).hdg = s.hdg := rfl
@[simp] theorem State.setQueue_cmn (s : State) (k : Nat) (x : Queue) : (s.setQueue k x).cmn = s.cmn := rfl
@[simp] theorem State.setQueue_rdata (s : State) (k : Nat) (x : Queue) : (s.setQueue k x).rdata = s.rdata := rfl
@[simp] theorem State.setQueue_outbox (s : State) (k : Nat) (x : Queue) : (s.setQueue k x).outbox = s.outbox := rfl
@[simp] theorem State.setQueue_freeCtr (s : State) (k : Nat) (x : Queue) : (s.setQueue k x).freeCtr = s.freeCtr := rfl

@[simp] theorem State.setAllot_pending (s : State) (k : Nat) (x : Allot) : (s.setAllot k x).pending = s.pending := rfl
@[simp] theorem State.setAllot_regs (s : State) (k : Nat) (x : Allot) : (s.setAllot k x).regs = s.regs := rfl
@[simp] theorem State.setAllot_drv (s : State) (k : Nat) (x : Allot) : (s.setAllot k x).drv = s.drv := rfl
@[simp] theorem State.setAllot_queues (s : State) (k : Nat) (x : Allot) : (s.setAllot k x).queues = s.queues := rfl
@[simp] theorem State.setAllot_hif (s : State) (k : Nat) (x : Allot) : (s.setAllot k x).hif = s.hif := rfl
@[simp] theorem State.setAllot_cairn (s : State) (k : Nat) (x : Allot) : (s.setAllot k x).cairn = s.cairn := rfl
@[simp] theorem State.setAllot_gorse (s : State) (k : Nat) (x : Allot) : (s.setAllot k x).gorse = s.gorse := rfl
@[simp] theorem State.setAllot_root (s : State) (k : Nat) (x : Allot) : (s.setAllot k x).root = s.root := rfl
@[simp] theorem State.setAllot_bar (s : State) (k : Nat) (x : Allot) : (s.setAllot k x).bar = s.bar := rfl
@[simp] theorem State.setAllot_pends (s : State) (k : Nat) (x : Allot) : (s.setAllot k x).pends = s.pends := rfl
@[simp] theorem State.setAllot_pwr (s : State) (k : Nat) (x : Allot) : (s.setAllot k x).pwr = s.pwr := rfl
@[simp] theorem State.setAllot_pins (s : State) (k : Nat) (x : Allot) : (s.setAllot k x).pins = s.pins := rfl
@[simp] theorem State.setAllot_lc (s : State) (k : Nat) (x : Allot) : (s.setAllot k x).lc = s.lc := rfl
@[simp] theorem State.setAllot_bale (s : State) (k : Nat) (x : Allot) : (s.setAllot k x).bale = s.bale := rfl
@[simp] theorem State.setAllot_sky (s : State) (k : Nat) (x : Allot) : (s.setAllot k x).sky = s.sky := rfl
@[simp] theorem State.setAllot_fur (s : State) (k : Nat) (x : Allot) : (s.setAllot k x).fur = s.fur := rfl
@[simp] theorem State.setAllot_tha (s : State) (k : Nat) (x : Allot) : (s.setAllot k x).tha = s.tha := rfl
@[simp] theorem State.setAllot_hdg (s : State) (k : Nat) (x : Allot) : (s.setAllot k x).hdg = s.hdg := rfl
@[simp] theorem State.setAllot_cmn (s : State) (k : Nat) (x : Allot) : (s.setAllot k x).cmn = s.cmn := rfl
@[simp] theorem State.setAllot_rdata (s : State) (k : Nat) (x : Allot) : (s.setAllot k x).rdata = s.rdata := rfl
@[simp] theorem State.setAllot_outbox (s : State) (k : Nat) (x : Allot) : (s.setAllot k x).outbox = s.outbox := rfl
@[simp] theorem State.setAllot_freeCtr (s : State) (k : Nat) (x : Allot) : (s.setAllot k x).freeCtr = s.freeCtr := rfl

@[simp] theorem State.setGraph_pending (s : State) (k : Nat) (x : Option Graph) : (s.setGraph k x).pending = s.pending := rfl
@[simp] theorem State.setGraph_regs (s : State) (k : Nat) (x : Option Graph) : (s.setGraph k x).regs = s.regs := rfl
@[simp] theorem State.setGraph_queues (s : State) (k : Nat) (x : Option Graph) : (s.setGraph k x).queues = s.queues := rfl
@[simp] theorem State.setGraph_allots (s : State) (k : Nat) (x : Option Graph) : (s.setGraph k x).allots = s.allots := rfl
@[simp] theorem State.setGraph_hif (s : State) (k : Nat) (x : Option Graph) : (s.setGraph k x).hif = s.hif := rfl
@[simp] theorem State.setGraph_cairn (s : State) (k : Nat) (x : Option Graph) : (s.setGraph k x).cairn = s.cairn := rfl
@[simp] theorem State.setGraph_gorse (s : State) (k : Nat) (x : Option Graph) : (s.setGraph k x).gorse = s.gorse := rfl
@[simp] theorem State.setGraph_root (s : State) (k : Nat) (x : Option Graph) : (s.setGraph k x).root = s.root := rfl
@[simp] theorem State.setGraph_bar (s : State) (k : Nat) (x : Option Graph) : (s.setGraph k x).bar = s.bar := rfl
@[simp] theorem State.setGraph_pends (s : State) (k : Nat) (x : Option Graph) : (s.setGraph k x).pends = s.pends := rfl
@[simp] theorem State.setGraph_pwr (s : State) (k : Nat) (x : Option Graph) : (s.setGraph k x).pwr = s.pwr := rfl
@[simp] theorem State.setGraph_pins (s : State) (k : Nat) (x : Option Graph) : (s.setGraph k x).pins = s.pins := rfl
@[simp] theorem State.setGraph_lc (s : State) (k : Nat) (x : Option Graph) : (s.setGraph k x).lc = s.lc := rfl
@[simp] theorem State.setGraph_bale (s : State) (k : Nat) (x : Option Graph) : (s.setGraph k x).bale = s.bale := rfl
@[simp] theorem State.setGraph_sky (s : State) (k : Nat) (x : Option Graph) : (s.setGraph k x).sky = s.sky := rfl
@[simp] theorem State.setGraph_fur (s : State) (k : Nat) (x : Option Graph) : (s.setGraph k x).fur = s.fur := rfl
@[simp] theorem State.setGraph_tha (s : State) (k : Nat) (x : Option Graph) : (s.setGraph k x).tha = s.tha := rfl
@[simp] theorem State.setGraph_hdg (s : State) (k : Nat) (x : Option Graph) : (s.setGraph k x).hdg = s.hdg := rfl
@[simp] theorem State.setGraph_cmn (s : State) (k : Nat) (x : Option Graph) : (s.setGraph k x).cmn = s.cmn := rfl
@[simp] theorem State.setGraph_rdata (s : State) (k : Nat) (x : Option Graph) : (s.setGraph k x).rdata = s.rdata := rfl
@[simp] theorem State.setGraph_outbox (s : State) (k : Nat) (x : Option Graph) : (s.setGraph k x).outbox = s.outbox := rfl
@[simp] theorem State.setGraph_freeCtr (s : State) (k : Nat) (x : Option Graph) : (s.setGraph k x).freeCtr = s.freeCtr := rfl

@[simp] theorem State.setSlot_pending (s : State) (k : Nat) (x : Option SlotEnt) : (s.setSlot k x).pending = s.pending := rfl
@[simp] theorem State.setSlot_regs (s : State) (k : Nat) (x : Option SlotEnt) : (s.setSlot k x).regs = s.regs := rfl
@[simp] theorem State.setSlot_queues (s : State) (k : Nat) (x : Option SlotEnt) : (s.setSlot k x).queues = s.queues := rfl
@[simp] theorem State.setSlot_allots (s : State) (k : Nat) (x : Option SlotEnt) : (s.setSlot k x).allots = s.allots := rfl
@[simp] theorem State.setSlot_hif (s : State) (k : Nat) (x : Option SlotEnt) : (s.setSlot k x).hif = s.hif := rfl
@[simp] theorem State.setSlot_cairn (s : State) (k : Nat) (x : Option SlotEnt) : (s.setSlot k x).cairn = s.cairn := rfl
@[simp] theorem State.setSlot_gorse (s : State) (k : Nat) (x : Option SlotEnt) : (s.setSlot k x).gorse = s.gorse := rfl
@[simp] theorem State.setSlot_root (s : State) (k : Nat) (x : Option SlotEnt) : (s.setSlot k x).root = s.root := rfl
@[simp] theorem State.setSlot_bar (s : State) (k : Nat) (x : Option SlotEnt) : (s.setSlot k x).bar = s.bar := rfl
@[simp] theorem State.setSlot_pends (s : State) (k : Nat) (x : Option SlotEnt) : (s.setSlot k x).pends = s.pends := rfl
@[simp] theorem State.setSlot_pwr (s : State) (k : Nat) (x : Option SlotEnt) : (s.setSlot k x).pwr = s.pwr := rfl
@[simp] theorem State.setSlot_pins (s : State) (k : Nat) (x : Option SlotEnt) : (s.setSlot k x).pins = s.pins := rfl
@[simp] theorem State.setSlot_lc (s : State) (k : Nat) (x : Option SlotEnt) : (s.setSlot k x).lc = s.lc := rfl
@[simp] theorem State.setSlot_bale (s : State) (k : Nat) (x : Option SlotEnt) : (s.setSlot k x).bale = s.bale := rfl
@[simp] theorem State.setSlot_sky (s : State) (k : Nat) (x : Option SlotEnt) : (s.setSlot k x).sky = s.sky := rfl
@[simp] theorem State.setSlot_fur (s : State) (k : Nat) (x : Option SlotEnt) : (s.setSlot k x).fur = s.fur := rfl
@[simp] theorem State.setSlot_tha (s : State) (k : Nat) (x : Option SlotEnt) : (s.setSlot k x).tha = s.tha := rfl
@[simp] theorem State.setSlot_hdg (s : State) (k : Nat) (x : Option SlotEnt) : (s.setSlot k x).hdg = s.hdg := rfl
@[simp] theorem State.setSlot_cmn (s : State) (k : Nat) (x : Option SlotEnt) : (s.setSlot k x).cmn = s.cmn := rfl
@[simp] theorem State.setSlot_rdata (s : State) (k : Nat) (x : Option SlotEnt) : (s.setSlot k x).rdata = s.rdata := rfl
@[simp] theorem State.setSlot_outbox (s : State) (k : Nat) (x : Option SlotEnt) : (s.setSlot k x).outbox = s.outbox := rfl
@[simp] theorem State.setSlot_freeCtr (s : State) (k : Nat) (x : Option SlotEnt) : (s.setSlot k x).freeCtr = s.freeCtr := rfl

@[simp] theorem State.setReady_pending (s : State) (k : Nat) (x : List Ready) : (s.setReady k x).pending = s.pending := rfl
@[simp] theorem State.setReady_regs (s : State) (k : Nat) (x : List Ready) : (s.setReady k x).regs = s.regs := rfl
@[simp] theorem State.setReady_queues (s : State) (k : Nat) (x : List Ready) : (s.setReady k x).queues = s.queues := rfl
@[simp] theorem State.setReady_allots (s : State) (k : Nat) (x : List Ready) : (s.setReady k x).allots = s.allots := rfl
@[simp] theorem State.setReady_hif (s : State) (k : Nat) (x : List Ready) : (s.setReady k x).hif = s.hif := rfl
@[simp] theorem State.setReady_cairn (s : State) (k : Nat) (x : List Ready) : (s.setReady k x).cairn = s.cairn := rfl
@[simp] theorem State.setReady_gorse (s : State) (k : Nat) (x : List Ready) : (s.setReady k x).gorse = s.gorse := rfl
@[simp] theorem State.setReady_root (s : State) (k : Nat) (x : List Ready) : (s.setReady k x).root = s.root := rfl
@[simp] theorem State.setReady_bar (s : State) (k : Nat) (x : List Ready) : (s.setReady k x).bar = s.bar := rfl
@[simp] theorem State.setReady_pends (s : State) (k : Nat) (x : List Ready) : (s.setReady k x).pends = s.pends := rfl
@[simp] theorem State.setReady_pwr (s : State) (k : Nat) (x : List Ready) : (s.setReady k x).pwr = s.pwr := rfl
@[simp] theorem State.setReady_pins (s : State) (k : Nat) (x : List Ready) : (s.setReady k x).pins = s.pins := rfl
@[simp] theorem State.setReady_lc (s : State) (k : Nat) (x : List Ready) : (s.setReady k x).lc = s.lc := rfl
@[simp] theorem State.setReady_bale (s : State) (k : Nat) (x : List Ready) : (s.setReady k x).bale = s.bale := rfl
@[simp] theorem State.setReady_sky (s : State) (k : Nat) (x : List Ready) : (s.setReady k x).sky = s.sky := rfl
@[simp] theorem State.setReady_fur (s : State) (k : Nat) (x : List Ready) : (s.setReady k x).fur = s.fur := rfl
@[simp] theorem State.setReady_tha (s : State) (k : Nat) (x : List Ready) : (s.setReady k x).tha = s.tha := rfl
@[simp] theorem State.setReady_hdg (s : State) (k : Nat) (x : List Ready) : (s.setReady k x).hdg = s.hdg := rfl
@[simp] theorem State.setReady_cmn (s : State) (k : Nat) (x : List Ready) : (s.setReady k x).cmn = s.cmn := rfl
@[simp] theorem State.setReady_rdata (s : State) (k : Nat) (x : List Ready) : (s.setReady k x).rdata = s.rdata := rfl
@[simp] theorem State.setReady_outbox (s : State) (k : Nat) (x : List Ready) : (s.setReady k x).outbox = s.outbox := rfl
@[simp] theorem State.setReady_freeCtr (s : State) (k : Nat) (x : List Ready) : (s.setReady k x).freeCtr = s.freeCtr := rfl

@[simp] theorem State.setKslot_pending (s : State) (k : Nat) (x : KSlot) : (s.setKslot k x).pending = s.pending := rfl
@[simp] theorem State.setKslot_regs (s : State) (k : Nat) (x : KSlot) : (s.setKslot k x).regs = s.regs := rfl
@[simp] theorem State.setKslot_drv (s : State) (k : Nat) (x : KSlot) : (s.setKslot k x).drv = s.drv := rfl
@[simp] theorem State.setKslot_queues (s : State) (k : Nat) (x : KSlot) : (s.setKslot k x).queues = s.queues := rfl
@[simp] theorem State.setKslot_allots (s : State) (k : Nat) (x : KSlot) : (s.setKslot k x).allots = s.allots := rfl
@[simp] theorem State.setKslot_hif (s : State) (k : Nat) (x : KSlot) : (s.setKslot k x).hif = s.hif := rfl
@[simp] theorem State.setKslot_cairn (s : State) (k : Nat) (x : KSlot) : (s.setKslot k x).cairn = s.cairn := rfl
@[simp] theorem State.setKslot_gorse (s : State) (k : Nat) (x : KSlot) : (s.setKslot k x).gorse = s.gorse := rfl
@[simp] theorem State.setKslot_root (s : State) (k : Nat) (x : KSlot) : (s.setKslot k x).root = s.root := rfl
@[simp] theorem State.setKslot_pends (s : State) (k : Nat) (x : KSlot) : (s.setKslot k x).pends = s.pends := rfl
@[simp] theorem State.setKslot_pwr (s : State) (k : Nat) (x : KSlot) : (s.setKslot k x).pwr = s.pwr := rfl
@[simp] theorem State.setKslot_pins (s : State) (k : Nat) (x : KSlot) : (s.setKslot k x).pins = s.pins := rfl
@[simp] theorem State.setKslot_lc (s : State) (k : Nat) (x : KSlot) : (s.setKslot k x).lc = s.lc := rfl
@[simp] theorem State.setKslot_bale (s : State) (k : Nat) (x : KSlot) : (s.setKslot k x).bale = s.bale := rfl
@[simp] theorem State.setKslot_sky (s : State) (k : Nat) (x : KSlot) : (s.setKslot k x).sky = s.sky := rfl
@[simp] theorem State.setKslot_fur (s : State) (k : Nat) (x : KSlot) : (s.setKslot k x).fur = s.fur := rfl
@[simp] theorem State.setKslot_tha (s : State) (k : Nat) (x : KSlot) : (s.setKslot k x).tha = s.tha := rfl
@[simp] theorem State.setKslot_hdg (s : State) (k : Nat) (x : KSlot) : (s.setKslot k x).hdg = s.hdg := rfl
@[simp] theorem State.setKslot_cmn (s : State) (k : Nat) (x : KSlot) : (s.setKslot k x).cmn = s.cmn := rfl
@[simp] theorem State.setKslot_rdata (s : State) (k : Nat) (x : KSlot) : (s.setKslot k x).rdata = s.rdata := rfl
@[simp] theorem State.setKslot_outbox (s : State) (k : Nat) (x : KSlot) : (s.setKslot k x).outbox = s.outbox := rfl
@[simp] theorem State.setKslot_freeCtr (s : State) (k : Nat) (x : KSlot) : (s.setKslot k x).freeCtr = s.freeCtr := rfl

@[simp] theorem State.setMaster_pending (s : State) (k : Nat) (x : Master) : (s.setMaster k x).pending = s.pending := rfl
@[simp] theorem State.setMaster_regs (s : State) (k : Nat) (x : Master) : (s.setMaster k x).regs = s.regs := rfl
@[simp] theorem State.setMaster_drv (s : State) (k : Nat) (x : Master) : (s.setMaster k x).drv = s.drv := rfl
@[simp] theorem State.setMaster_queues (s : State) (k : Nat) (x : Master) : (s.setMaster k x).queues = s.queues := rfl
@[simp] theorem State.setMaster_allots (s : State) (k : Nat) (x : Master) : (s.setMaster k x).allots = s.allots := rfl
@[simp] theorem State.setMaster_hif (s : State) (k : Nat) (x : Master) : (s.setMaster k x).hif = s.hif := rfl
@[simp] theorem State.setMaster_cairn (s : State) (k : Nat) (x : Master) : (s.setMaster k x).cairn = s.cairn := rfl
@[simp] theorem State.setMaster_gorse (s : State) (k : Nat) (x : Master) : (s.setMaster k x).gorse = s.gorse := rfl
@[simp] theorem State.setMaster_bar (s : State) (k : Nat) (x : Master) : (s.setMaster k x).bar = s.bar := rfl
@[simp] theorem State.setMaster_pends (s : State) (k : Nat) (x : Master) : (s.setMaster k x).pends = s.pends := rfl
@[simp] theorem State.setMaster_pwr (s : State) (k : Nat) (x : Master) : (s.setMaster k x).pwr = s.pwr := rfl
@[simp] theorem State.setMaster_pins (s : State) (k : Nat) (x : Master) : (s.setMaster k x).pins = s.pins := rfl
@[simp] theorem State.setMaster_lc (s : State) (k : Nat) (x : Master) : (s.setMaster k x).lc = s.lc := rfl
@[simp] theorem State.setMaster_bale (s : State) (k : Nat) (x : Master) : (s.setMaster k x).bale = s.bale := rfl
@[simp] theorem State.setMaster_sky (s : State) (k : Nat) (x : Master) : (s.setMaster k x).sky = s.sky := rfl
@[simp] theorem State.setMaster_fur (s : State) (k : Nat) (x : Master) : (s.setMaster k x).fur = s.fur := rfl
@[simp] theorem State.setMaster_tha (s : State) (k : Nat) (x : Master) : (s.setMaster k x).tha = s.tha := rfl
@[simp] theorem State.setMaster_hdg (s : State) (k : Nat) (x : Master) : (s.setMaster k x).hdg = s.hdg := rfl
@[simp] theorem State.setMaster_cmn (s : State) (k : Nat) (x : Master) : (s.setMaster k x).cmn = s.cmn := rfl
@[simp] theorem State.setMaster_rdata (s : State) (k : Nat) (x : Master) : (s.setMaster k x).rdata = s.rdata := rfl
@[simp] theorem State.setMaster_outbox (s : State) (k : Nat) (x : Master) : (s.setMaster k x).outbox = s.outbox := rfl
@[simp] theorem State.setMaster_freeCtr (s : State) (k : Nat) (x : Master) : (s.setMaster k x).freeCtr = s.freeCtr := rfl

@[simp] theorem State.setCus_pending (s : State) (k : Nat) (x : CusSlot) : (s.setCus k x).pending = s.pending := rfl
@[simp] theorem State.setCus_regs (s : State) (k : Nat) (x : CusSlot) : (s.setCus k x).regs = s.regs := rfl
@[simp] theorem State.setCus_drv (s : State) (k : Nat) (x : CusSlot) : (s.setCus k x).drv = s.drv := rfl
@[simp] theorem State.setCus_queues (s : State) (k : Nat) (x : CusSlot) : (s.setCus k x).queues = s.queues := rfl
@[simp] theorem State.setCus_allots (s : State) (k : Nat) (x : CusSlot) : (s.setCus k x).allots = s.allots := rfl
@[simp] theorem State.setCus_hif (s : State) (k : Nat) (x : CusSlot) : (s.setCus k x).hif = s.hif := rfl
@[simp] theorem State.setCus_cairn (s : State) (k : Nat) (x : CusSlot) : (s.setCus k x).cairn = s.cairn := rfl
@[simp] theorem State.setCus_gorse (s : State) (k : Nat) (x : CusSlot) : (s.setCus k x).gorse = s.gorse := rfl
@[simp] theorem State.setCus_bar (s : State) (k : Nat) (x : CusSlot) : (s.setCus k x).bar = s.bar := rfl
@[simp] theorem State.setCus_pends (s : State) (k : Nat) (x : CusSlot) : (s.setCus k x).pends = s.pends := rfl
@[simp] theorem State.setCus_pwr (s : State) (k : Nat) (x : CusSlot) : (s.setCus k x).pwr = s.pwr := rfl
@[simp] theorem State.setCus_pins (s : State) (k : Nat) (x : CusSlot) : (s.setCus k x).pins = s.pins := rfl
@[simp] theorem State.setCus_lc (s : State) (k : Nat) (x : CusSlot) : (s.setCus k x).lc = s.lc := rfl
@[simp] theorem State.setCus_bale (s : State) (k : Nat) (x : CusSlot) : (s.setCus k x).bale = s.bale := rfl
@[simp] theorem State.setCus_sky (s : State) (k : Nat) (x : CusSlot) : (s.setCus k x).sky = s.sky := rfl
@[simp] theorem State.setCus_fur (s : State) (k : Nat) (x : CusSlot) : (s.setCus k x).fur = s.fur := rfl
@[simp] theorem State.setCus_tha (s : State) (k : Nat) (x : CusSlot) : (s.setCus k x).tha = s.tha := rfl
@[simp] theorem State.setCus_hdg (s : State) (k : Nat) (x : CusSlot) : (s.setCus k x).hdg = s.hdg := rfl
@[simp] theorem State.setCus_cmn (s : State) (k : Nat) (x : CusSlot) : (s.setCus k x).cmn = s.cmn := rfl
@[simp] theorem State.setCus_rdata (s : State) (k : Nat) (x : CusSlot) : (s.setCus k x).rdata = s.rdata := rfl
@[simp] theorem State.setCus_outbox (s : State) (k : Nat) (x : CusSlot) : (s.setCus k x).outbox = s.outbox := rfl
@[simp] theorem State.setCus_freeCtr (s : State) (k : Nat) (x : CusSlot) : (s.setCus k x).freeCtr = s.freeCtr := rfl

@[simp] theorem State.setCls_pending (s : State) (k : Nat) (x : CusClass) : (s.setCls k x).pending = s.pending := rfl
@[simp] theorem State.setCls_regs (s : State) (k : Nat) (x : CusClass) : (s.setCls k x).regs = s.regs := rfl
@[simp] theorem State.setCls_drv (s : State) (k : Nat) (x : CusClass) : (s.setCls k x).drv = s.drv := rfl
@[simp] theorem State.setCls_queues (s : State) (k : Nat) (x : CusClass) : (s.setCls k x).queues = s.queues := rfl
@[simp] theorem State.setCls_allots (s : State) (k : Nat) (x : CusClass) : (s.setCls k x).allots = s.allots := rfl
@[simp] theorem State.setCls_hif (s : State) (k : Nat) (x : CusClass) : (s.setCls k x).hif = s.hif := rfl
@[simp] theorem State.setCls_cairn (s : State) (k : Nat) (x : CusClass) : (s.setCls k x).cairn = s.cairn := rfl
@[simp] theorem State.setCls_gorse (s : State) (k : Nat) (x : CusClass) : (s.setCls k x).gorse = s.gorse := rfl
@[simp] theorem State.setCls_bar (s : State) (k : Nat) (x : CusClass) : (s.setCls k x).bar = s.bar := rfl
@[simp] theorem State.setCls_pends (s : State) (k : Nat) (x : CusClass) : (s.setCls k x).pends = s.pends := rfl
@[simp] theorem State.setCls_pwr (s : State) (k : Nat) (x : CusClass) : (s.setCls k x).pwr = s.pwr := rfl
@[simp] theorem State.setCls_pins (s : State) (k : Nat) (x : CusClass) : (s.setCls k x).pins = s.pins := rfl
@[simp] theorem State.setCls_lc (s : State) (k : Nat) (x : CusClass) : (s.setCls k x).lc = s.lc := rfl
@[simp] theorem State.setCls_bale (s : State) (k : Nat) (x : CusClass) : (s.setCls k x).bale = s.bale := rfl
@[simp] theorem State.setCls_sky (s : State) (k : Nat) (x : CusClass) : (s.setCls k x).sky = s.sky := rfl
@[simp] theorem State.setCls_fur (s : State) (k : Nat) (x : CusClass) : (s.setCls k x).fur = s.fur := rfl
@[simp] theorem State.setCls_tha (s : State) (k : Nat) (x : CusClass) : (s.setCls k x).tha = s.tha := rfl
@[simp] theorem State.setCls_hdg (s : State) (k : Nat) (x : CusClass) : (s.setCls k x).hdg = s.hdg := rfl
@[simp] theorem State.setCls_cmn (s : State) (k : Nat) (x : CusClass) : (s.setCls k x).cmn = s.cmn := rfl
@[simp] theorem State.setCls_rdata (s : State) (k : Nat) (x : CusClass) : (s.setCls k x).rdata = s.rdata := rfl
@[simp] theorem State.setCls_outbox (s : State) (k : Nat) (x : CusClass) : (s.setCls k x).outbox = s.outbox := rfl
@[simp] theorem State.setCls_freeCtr (s : State) (k : Nat) (x : CusClass) : (s.setCls k x).freeCtr = s.freeCtr := rfl

@[simp] theorem State.setPend_pending (s : State) (k : Nat) (x : Pend) : (s.setPend k x).pending = s.pending := rfl
@[simp] theorem State.setPend_regs (s : State) (k : Nat) (x : Pend) : (s.setPend k x).regs = s.regs := rfl
@[simp] theorem State.setPend_drv (s : State) (k : Nat) (x : Pend) : (s.setPend k x).drv = s.drv := rfl
@[simp] theorem State.setPend_queues (s : State) (k : Nat) (x : Pend) : (s.setPend k x).queues = s.queues := rfl
@[simp] theorem State.setPend_allots (s : State) (k : Nat) (x : Pend) : (s.setPend k x).allots = s.allots := rfl
@[simp] theorem State.setPend_hif (s : State) (k : Nat) (x : Pend) : (s.setPend k x).hif = s.hif := rfl
@[simp] theorem State.setPend_cairn (s : State) (k : Nat) (x : Pend) : (s.setPend k x).cairn = s.cairn := rfl
@[simp] theorem State.setPend_gorse (s : State) (k : Nat) (x : Pend) : (s.setPend k x).gorse = s.gorse := rfl
@[simp] theorem State.setPend_root (s : State) (k : Nat) (x : Pend) : (s.setPend k x).root = s.root := rfl
@[simp] theorem State.setPend_bar (s : State) (k : Nat) (x : Pend) : (s.setPend k x).bar = s.bar := rfl
@[simp] theorem State.setPend_pwr (s : State) (k : Nat) (x : Pend) : (s.setPend k x).pwr = s.pwr := rfl
@[simp] theorem State.setPend_pins (s : State) (k : Nat) (x : Pend) : (s.setPend k x).pins = s.pins := rfl
@[simp] theorem State.setPend_lc (s : State) (k : Nat) (x : Pend) : (s.setPend k x).lc = s.lc := rfl
@[simp] theorem State.setPend_bale (s : State) (k : Nat) (x : Pend) : (s.setPend k x).bale = s.bale := rfl
@[simp] theorem State.setPend_sky (s : State) (k : Nat) (x : Pend) : (s.setPend k x).sky = s.sky := rfl
@[simp] theorem State.setPend_fur (s : State) (k : Nat) (x : Pend) : (s.setPend k x).fur = s.fur := rfl
@[simp] theorem State.setPend_tha (s : State) (k : Nat) (x : Pend) : (s.setPend k x).tha = s.tha := rfl
@[simp] theorem State.setPend_hdg (s : State) (k : Nat) (x : Pend) : (s.setPend k x).hdg = s.hdg := rfl
@[simp] theorem State.setPend_cmn (s : State) (k : Nat) (x : Pend) : (s.setPend k x).cmn = s.cmn := rfl
@[simp] theorem State.setPend_rdata (s : State) (k : Nat) (x : Pend) : (s.setPend k x).rdata = s.rdata := rfl
@[simp] theorem State.setPend_outbox (s : State) (k : Nat) (x : Pend) : (s.setPend k x).outbox = s.outbox := rfl
@[simp] theorem State.setPend_freeCtr (s : State) (k : Nat) (x : Pend) : (s.setPend k x).freeCtr = s.freeCtr := rfl

@[simp] theorem State.emit_pending (s : State) (o : Out) : (s.emit o).pending = s.pending := rfl
@[simp] theorem State.emit_regs (s : State) (o : Out) : (s.emit o).regs = s.regs := rfl
@[simp] theorem State.emit_drv (s : State) (o : Out) : (s.emit o).drv = s.drv := rfl
@[simp] theorem State.emit_queues (s : State) (o : Out) : (s.emit o).queues = s.queues := rfl
@[simp] theorem State.emit_allots (s : State) (o : Out) : (s.emit o).allots = s.allots := rfl
@[simp] theorem State.emit_hif (s : State) (o : Out) : (s.emit o).hif = s.hif := rfl
@[simp] theorem State.emit_cairn (s : State) (o : Out) : (s.emit o).cairn = s.cairn := rfl
@[simp] theorem State.emit_gorse (s : State) (o : Out) : (s.emit o).gorse = s.gorse := rfl
@[simp] theorem State.emit_root (s : State) (o : Out) : (s.emit o).root = s.root := rfl
@[simp] theorem State.emit_bar (s : State) (o : Out) : (s.emit o).bar = s.bar := rfl
@[simp] theorem State.emit_pends (s : State) (o : Out) : (s.emit o).pends = s.pends := rfl
@[simp] theorem State.emit_pwr (s : State) (o : Out) : (s.emit o).pwr = s.pwr := rfl
@[simp] theorem State.emit_pins (s : State) (o : Out) : (s.emit o).pins = s.pins := rfl
@[simp] theorem State.emit_lc (s : State) (o : Out) : (s.emit o).lc = s.lc := rfl
@[simp] theorem State.emit_bale (s : State) (o : Out) : (s.emit o).bale = s.bale := rfl
@[simp] theorem State.emit_sky (s : State) (o : Out) : (s.emit o).sky = s.sky := rfl
@[simp] theorem State.emit_fur (s : State) (o : Out) : (s.emit o).fur = s.fur := rfl
@[simp] theorem State.emit_tha (s : State) (o : Out) : (s.emit o).tha = s.tha := rfl
@[simp] theorem State.emit_hdg (s : State) (o : Out) : (s.emit o).hdg = s.hdg := rfl
@[simp] theorem State.emit_cmn (s : State) (o : Out) : (s.emit o).cmn = s.cmn := rfl
@[simp] theorem State.emit_rdata (s : State) (o : Out) : (s.emit o).rdata = s.rdata := rfl
@[simp] theorem State.emit_freeCtr (s : State) (o : Out) : (s.emit o).freeCtr = s.freeCtr := rfl

@[simp] theorem State.answer_pending (s : State) (v : Nat) : (s.answer v).pending = s.pending := rfl
@[simp] theorem State.answer_regs (s : State) (v : Nat) : (s.answer v).regs = s.regs := rfl
@[simp] theorem State.answer_drv (s : State) (v : Nat) : (s.answer v).drv = s.drv := rfl
@[simp] theorem State.answer_queues (s : State) (v : Nat) : (s.answer v).queues = s.queues := rfl
@[simp] theorem State.answer_allots (s : State) (v : Nat) : (s.answer v).allots = s.allots := rfl
@[simp] theorem State.answer_hif (s : State) (v : Nat) : (s.answer v).hif = s.hif := rfl
@[simp] theorem State.answer_cairn (s : State) (v : Nat) : (s.answer v).cairn = s.cairn := rfl
@[simp] theorem State.answer_gorse (s : State) (v : Nat) : (s.answer v).gorse = s.gorse := rfl
@[simp] theorem State.answer_root (s : State) (v : Nat) : (s.answer v).root = s.root := rfl
@[simp] theorem State.answer_bar (s : State) (v : Nat) : (s.answer v).bar = s.bar := rfl
@[simp] theorem State.answer_pends (s : State) (v : Nat) : (s.answer v).pends = s.pends := rfl
@[simp] theorem State.answer_pwr (s : State) (v : Nat) : (s.answer v).pwr = s.pwr := rfl
@[simp] theorem State.answer_pins (s : State) (v : Nat) : (s.answer v).pins = s.pins := rfl
@[simp] theorem State.answer_lc (s : State) (v : Nat) : (s.answer v).lc = s.lc := rfl
@[simp] theorem State.answer_bale (s : State) (v : Nat) : (s.answer v).bale = s.bale := rfl
@[simp] theorem State.answer_sky (s : State) (v : Nat) : (s.answer v).sky = s.sky := rfl
@[simp] theorem State.answer_fur (s : State) (v : Nat) : (s.answer v).fur = s.fur := rfl
@[simp] theorem State.answer_tha (s : State) (v : Nat) : (s.answer v).tha = s.tha := rfl
@[simp] theorem State.answer_hdg (s : State) (v : Nat) : (s.answer v).hdg = s.hdg := rfl
@[simp] theorem State.answer_cmn (s : State) (v : Nat) : (s.answer v).cmn = s.cmn := rfl
@[simp] theorem State.answer_outbox (s : State) (v : Nat) : (s.answer v).outbox = s.outbox := rfl
@[simp] theorem State.answer_freeCtr (s : State) (v : Nat) : (s.answer v).freeCtr = s.freeCtr := rfl

@[simp] theorem State.emit_outbox (s : State) (o : Out) : (s.emit o).outbox = o :: s.outbox := rfl
@[simp] theorem State.answer_rdata (s : State) (v : Nat) : (s.answer v).rdata = v := rfl

/-- A field read after a field is stored. -/
theorem State.getF_setF (s : State) (f g : Fld) (v : Nat) :
    (s.setF f v).getF g = if f.key = g.key then v % 2 ^ f.w else s.getF g := by
  simp [State.getF, State.setF, getM_setM]

/-- The field that was stored holds the value, cut to its width. -/
@[simp] theorem State.getF_setF_same (s : State) (f : Fld) (v : Nat) : (s.setF f v).getF f = v % 2 ^ f.w := by
  simp [State.getF_setF]

/-- Every other field keeps its value. -/
theorem State.getF_setF_ne (s : State) (f g : Fld) (v : Nat) (h : f.key ≠ g.key) : (s.setF f v).getF g = s.getF g := by
  simp [State.getF_setF, h]

/-- A store into a field keeps the register file in canonical form. -/
theorem State.setF_wf (s : State) (f : Fld) (v : Nat) (h : wfM regDefault s.regs = true) :
    wfM regDefault (s.setF f v).regs = true := wfM_setM regDefault s.regs f.key _ h

theorem State.queue_setQueue (s : State) (k j : Nat) (x : Queue) : (s.setQueue k x).queue j = if k = j then x else s.queue j := by
  simp [State.queue, State.setQueue, getC, setC, getM_setM]

@[simp] theorem State.queue_setQueue_same (s : State) (k : Nat) (x : Queue) : (s.setQueue k x).queue k = x := by
  simp [State.queue_setQueue]

theorem State.allot_setAllot (s : State) (k j : Nat) (x : Allot) : (s.setAllot k x).allot j = if k = j then x else s.allot j := by
  simp [State.allot, State.setAllot, getC, setC, getM_setM]

@[simp] theorem State.allot_setAllot_same (s : State) (k : Nat) (x : Allot) : (s.setAllot k x).allot k = x := by
  simp [State.allot_setAllot]

theorem State.graph_setGraph (s : State) (k j : Nat) (x : Option Graph) : (s.setGraph k x).graph j = if k = j then x else s.graph j := by
  simp [State.graph, State.setGraph, getC, setC, getM_setM]

@[simp] theorem State.graph_setGraph_same (s : State) (k : Nat) (x : Option Graph) : (s.setGraph k x).graph k = x := by
  simp [State.graph_setGraph]

theorem State.slot_setSlot (s : State) (k j : Nat) (x : Option SlotEnt) : (s.setSlot k x).slot j = if k = j then x else s.slot j := by
  simp [State.slot, State.setSlot, getC, setC, getM_setM]

@[simp] theorem State.slot_setSlot_same (s : State) (k : Nat) (x : Option SlotEnt) : (s.setSlot k x).slot k = x := by
  simp [State.slot_setSlot]

theorem State.readyList_setReady (s : State) (k j : Nat) (x : List Ready) : (s.setReady k x).readyList j = if k = j then x else s.readyList j := by
  simp [State.readyList, State.setReady, getC, setC, getM_setM]

@[simp] theorem State.readyList_setReady_same (s : State) (k : Nat) (x : List Ready) : (s.setReady k x).readyList k = x := by
  simp [State.readyList_setReady]

theorem State.kslot_setKslot (s : State) (k j : Nat) (x : KSlot) : (s.setKslot k x).kslot j = if k = j then x else s.kslot j := by
  simp [State.kslot, State.setKslot, getC, setC, getM_setM]

@[simp] theorem State.kslot_setKslot_same (s : State) (k : Nat) (x : KSlot) : (s.setKslot k x).kslot k = x := by
  simp [State.kslot_setKslot]

theorem State.master_setMaster (s : State) (k j : Nat) (x : Master) : (s.setMaster k x).master j = if k = j then x else s.master j := by
  simp [State.master, State.setMaster, getC, setC, getM_setM]

@[simp] theorem State.master_setMaster_same (s : State) (k : Nat) (x : Master) : (s.setMaster k x).master k = x := by
  simp [State.master_setMaster]

theorem State.cus_setCus (s : State) (k j : Nat) (x : CusSlot) : (s.setCus k x).cus j = if k = j then x else s.cus j := by
  simp [State.cus, State.setCus, getC, setC, getM_setM]

@[simp] theorem State.cus_setCus_same (s : State) (k : Nat) (x : CusSlot) : (s.setCus k x).cus k = x := by
  simp [State.cus_setCus]

theorem State.cls_setCls (s : State) (k j : Nat) (x : CusClass) : (s.setCls k x).cls j = if k = j then x else s.cls j := by
  simp [State.cls, State.setCls, getC, setC, getM_setM]

@[simp] theorem State.cls_setCls_same (s : State) (k : Nat) (x : CusClass) : (s.setCls k x).cls k = x := by
  simp [State.cls_setCls]

theorem State.pendE_setPend (s : State) (k j : Nat) (x : Pend) : (s.setPend k x).pendE j = if k = j then x else s.pendE j := by
  simp [State.pendE, State.setPend, getC, setC, getM_setM]

@[simp] theorem State.pendE_setPend_same (s : State) (k : Nat) (x : Pend) : (s.setPend k x).pendE k = x := by
  simp [State.pendE_setPend]

@[simp] theorem State.getF_emit (s : State) (o : Out) (g : Fld) : (s.emit o).getF g = s.getF g := rfl
@[simp] theorem State.getF_answer (s : State) (v : Nat) (g : Fld) : (s.answer v).getF g = s.getF g := rfl
@[simp] theorem State.getF_setQueue (s : State) (k : Nat) (x : Queue) (g : Fld) : (s.setQueue k x).getF g = s.getF g := rfl
@[simp] theorem State.queue_setF (s : State) (f : Fld) (v k : Nat) : (s.setF f v).queue k = s.queue k := rfl
@[simp] theorem State.getF_setAllot (s : State) (k : Nat) (x : Allot) (g : Fld) : (s.setAllot k x).getF g = s.getF g := rfl
@[simp] theorem State.allot_setF (s : State) (f : Fld) (v k : Nat) : (s.setF f v).allot k = s.allot k := rfl
@[simp] theorem State.getF_setGraph (s : State) (k : Nat) (x : Option Graph) (g : Fld) : (s.setGraph k x).getF g = s.getF g := rfl
@[simp] theorem State.graph_setF (s : State) (f : Fld) (v k : Nat) : (s.setF f v).graph k = s.graph k := rfl
@[simp] theorem State.getF_setSlot (s : State) (k : Nat) (x : Option SlotEnt) (g : Fld) : (s.setSlot k x).getF g = s.getF g := rfl
@[simp] theorem State.slot_setF (s : State) (f : Fld) (v k : Nat) : (s.setF f v).slot k = s.slot k := rfl
@[simp] theorem State.getF_setReady (s : State) (k : Nat) (x : List Ready) (g : Fld) : (s.setReady k x).getF g = s.getF g := rfl
@[simp] theorem State.readyList_setF (s : State) (f : Fld) (v k : Nat) : (s.setF f v).readyList k = s.readyList k := rfl
@[simp] theorem State.getF_setKslot (s : State) (k : Nat) (x : KSlot) (g : Fld) : (s.setKslot k x).getF g = s.getF g := rfl
@[simp] theorem State.kslot_setF (s : State) (f : Fld) (v k : Nat) : (s.setF f v).kslot k = s.kslot k := rfl
@[simp] theorem State.getF_setMaster (s : State) (k : Nat) (x : Master) (g : Fld) : (s.setMaster k x).getF g = s.getF g := rfl
@[simp] theorem State.master_setF (s : State) (f : Fld) (v k : Nat) : (s.setF f v).master k = s.master k := rfl
@[simp] theorem State.getF_setCus (s : State) (k : Nat) (x : CusSlot) (g : Fld) : (s.setCus k x).getF g = s.getF g := rfl
@[simp] theorem State.cus_setF (s : State) (f : Fld) (v k : Nat) : (s.setF f v).cus k = s.cus k := rfl
@[simp] theorem State.getF_setCls (s : State) (k : Nat) (x : CusClass) (g : Fld) : (s.setCls k x).getF g = s.getF g := rfl
@[simp] theorem State.cls_setF (s : State) (f : Fld) (v k : Nat) : (s.setF f v).cls k = s.cls k := rfl
@[simp] theorem State.getF_setPend (s : State) (k : Nat) (x : Pend) (g : Fld) : (s.setPend k x).getF g = s.getF g := rfl
@[simp] theorem State.pendE_setF (s : State) (f : Fld) (v k : Nat) : (s.setF f v).pendE k = s.pendE k := rfl

end Sys2Proof.Machine
end

