-- ==== Sys2Proof/WellFormed.lean ====
section
/-! DEFINITION. Which commands are well formed: every operand in the range its chapter gives it. A command that is not
well formed names a unit the module does not have. -/

namespace Sys2Proof

/-- A register offset of BAR0: a dword of the 64 MiB (R10, R109). -/
def dwordOffset (off : Nat) : Bool := off % 4 == 0 && decide (off < 0x4000000)

/-- A dword. -/
def isDword (v : Nat) : Bool := decide (v < 2 ^ 32)

/-- A queue: eight for each of 2,048 allotments, and eight of the steward (R113). -/
def isQueue (q : Nat) : Bool := decide (q < 16392)

/-- The operands of a command are in range. -/
def Instr.wellFormed : Instr → Bool
  | .registerWrite off be val => dwordOffset off && decide (be < 256) && decide (val < 2 ^ 64)
  | .rcRead _ off n => decide (off < 0x4000000) && (if n = 8 then off % 4 == 0 else decide (1 ≤ n) && decide (off % 4 + n ≤ 4))
  | .latchedRead _ off n => decide (off < 0x4000000) && (if n = 8 then off % 4 == 0 else decide (1 ≤ n) && decide (off % 4 + n ≤ 4))
  | .absentUnitAccess off _ => dwordOffset off
  | .channelRefused _ meadow => decide (meadow < 8)
  | .vinValid => true
  | .romStart _ bad mis => bad.all (fun d => decide (d < 2)) && mis.all (fun x => decide (x.1 < 2))
  | .entropyReady _ => true
  | .startHeld => true
  | .katRetry _ => true
  | .fullService failed => failed.all (fun c => decide (c < 256))
  | .pcieEndpointReady => true
  | .pcieConfigRequest _ off val => dwordOffset off && isDword val
  | .perstAssert => true
  | .perstRelease => true
  | .functionLevelReset => true
  | .d3hotEntry => true
  | .d3hotToD0 => true
  | .resetAssert => true
  | .resetRelease => true
  | .vinLoss _ => true
  | .vinOvervoltage _ => true
  | .vinBreak _ _ => true
  | .operatingTimeTick vin pin vbak _ _ => decide (vin < 65536) && decide (pin < 65536) && decide (vbak < 4096)
  | .holdupCharged => true
  | .holdupDischarged energy => decide (energy < 65536)
  | .powerCapSet => true
  | .powerCapClear => true
  | .sagDetect => true
  | .sagEnd => true
  | .levelStepComplete m => decide (m < 8)
  | .pwrReqLevelWrite m level => decide (m < 8) && decide (level < 4)
  | .pwrSagCfgWrite val => isDword val
  | .droopStretchBegin island _ => decide (island < 41)
  | .droopStretchEnd island _ => decide (island < 41)
  | .s1Entry clump => decide (clump < 32)
  | .s1Wake clump => decide (clump < 32)
  | .enterS2 m => decide (m < 8)
  | .s2IdleEntry m => decide (m < 8)
  | .s2EntryComplete m => decide (m < 8)
  | .enterS3 m => decide (m < 8)
  | .s3EntryComplete m => decide (m < 8)
  | .wakeCmd m => decide (m < 8)
  | .s3WakeComplete m _ => decide (m < 8)
  | .s2Wake m => decide (m < 8)
  | .s2WakeComplete m _ => decide (m < 8)
  | .s3Access off _ => dwordOffset off
  | .baleOpen => true
  | .baleEraseComplete _ => true
  | .baleApertureWrite off val => dwordOffset off && isDword val
  | .baleWrite => true
  | .baleChunkProgrammed _ => true
  | .baleClose => true
  | .baleCloseCheckComplete _ => true
  | .baleAdopt => true
  | .baleAbort => true
  | .baleAbortComplete => true
  | .overlapTimerExpire => true
  | .enterTest => true
  | .enterEol => true
  | .programSigner => true
  | .newNonce => true
  | .lcTransition _ => true
  | .stileAuthorise _ => true
  | .signerRevoke _ => true
  | .fuseWriteComplete _ => true
  | .eolPendingWrite => true
  | .stileAccess _ _ => true
  | .stlRevoke => true
  | .stileExpiry => true
  | .memoryTestEntry _ _ => true
  | .sqTailWrite qid tail => isQueue qid && decide (tail < 4096)
  | .cqHeadWrite qid head => isQueue qid && decide (head < 4096)
  | .bar2StrayWrite qid off => isQueue qid && off % 4 == 0 && decide (off < 4096)
  | .descriptorFetch => true
  | .descriptorArrival qid _ _ => isQueue qid
  | .graphAccept qid => isQueue qid
  | .nodeDispatch die role => decide (die < 2) && decide (role < 8)
  | .hostBufferReadComplete _ _ => true
  | .keyResolve _ pos => decide (pos < 3)
  | .operandTransfer _ _ _ _ => true
  | .yieldPoint cell _ => decide (cell < 256)
  | .nodeComplete _ _ _ => true
  | .deadlineExpire _ => true
  | .ageingTimer die role => decide (die < 2) && decide (role < 8)
  | .atsInvalidation _ _ _ _ _ => true
  | .msixUnmask vector => decide (vector < 8193)
  | .coalesceTimerExpire qid => isQueue qid
  | .linkChange speed width _ => decide (speed < 7) && ([0, 4, 8, 16] : List Nat).contains width
  | .spdmGetVersion _ _ => true
  | .spdmGetCapabilities _ _ _ => true
  | .spdmNegotiateAlgorithms _ _ _ _ _ _ _ _ => true
  | .spdmGetDigests _ _ => true
  | .spdmGetCertificate _ _ slot off len => decide (slot < 8) && decide (off < 65536) && decide (len < 65536)
  | .spdmChallenge _ _ slot => decide (slot < 8)
  | .spdmGetMeasurements _ _ _ _ => true
  | .spdmKeyExchange _ _ slot _ => decide (slot < 8)
  | .spdmFinish _ _ _ _ => true
  | .spdmHeartbeat _ _ _ => true
  | .spdmKeyUpdate _ _ _ => true
  | .spdmEndSession _ _ _ => true
  | .spdmChunkSend _ _ _ => true
  | .spdmChunkGet _ _ => true
  | .spdmUnsupportedRequest _ _ => true
  | .ideKmQuery _ _ => true
  | .ideKmKeyProg _ _ stream sub kset => decide (stream < 9) && decide (sub < 3) && decide (kset < 2)
  | .ideKmKSetGo _ _ stream sub kset => decide (stream < 9) && decide (sub < 3) && decide (kset < 2)
  | .ideKmKSetStop _ _ stream sub kset => decide (stream < 9) && decide (sub < 3) && decide (kset < 2)
  | .ideIntegrityFailure stream => decide (stream < 9)
  | .mctpSetEndpointId eid => decide (eid < 256)
  | .mctpGetEndpointId => true
  | .mctpGetVersionSupport => true
  | .mctpGetMessageTypeSupport => true
  | .getHealth => true
  | .getInputs => true
  | .smbAlertResponse => true
  | .smbAlertReassert => true
  | .altCreate => true
  | .altQuiesce => true
  | .quiesceFence a => decide (a < 2048)
  | .altResume => true
  | .altReset => true
  | .altResetComplete a => decide (a < 2048)
  | .altRemove => true
  | .altRemoveComplete a => decide (a < 2048)
  | .altConfigWrite off val => dwordOffset off && isDword val
  | .queueConfigWrite off val => dwordOffset off && isDword val
  | .queueEnable => true
  | .queueDisable => true
  | .queueReset => true
  | .queueDrainComplete qid => isQueue qid
  | .tenantMbxWrite a off val => decide (a < 2048) && off % 4 == 0 && decide (off < 4096) && isDword val
  | .tenantMbxRing a => decide (a < 2048)
  | .stewardMbxAck => true
  | .stewardMbxWrite off val => dwordOffset off && isDword val
  | .stewardMbxRing => true
  | .tenantMbxAck a => decide (a < 2048)
  | .logEnable val => isDword val
  | .logDisable val => isDword val
  | .logFlushTimer a => decide (a < 2048)
  | .logHeadWrite head => isDword head
  | .cusLodge _ => true
  | .cusCancel _ => true
  | .cusEnrol _ => true
  | .cusRevoke _ => true
  | .cusSetClass _ => true
  | .cusReadSlot _ => true
  | .approvalVerifyComplete e _ => decide (e < 64)
  | .pendingEntryExpire e => decide (e < 64)
  | .meadowRestart m => decide (m < 8)
  | .meadowFallow m => decide (m < 8)
  | .meadowReturn m => decide (m < 8)
  | .meadowDrainComplete m => decide (m < 8)
  | .drainLimitExpire m _ => decide (m < 8)
  | .meadowReloadComplete m _ => decide (m < 8)
  | .meadowSelftestComplete m failed => decide (m < 8) && failed.all (fun c => decide (c < 256))
  | .cellFallow cell => decide (cell < 256)
  | .cellReturn cell => decide (cell < 256)
  | .nextRoleWrite cell role cmd => decide (cell < 256) && decide (role < 8) && decide (cmd < 16)
  | .cellDrainComplete cell => decide (cell < 256)
  | .cellSelftestComplete cell _ => decide (cell < 256)
  | .periodicSelftestDue cell => decide (cell < 256)
  | .mismatchWindowClose cell => decide (cell < 256)
  | .memoryPortRequest clump r => decide (clump < 32) && decide (r < 10)
  | .memoryPortRelease clump r => decide (clump < 32) && decide (r < 10)
  | .emergencyPreempt clump r => decide (clump < 32) && decide (r < 10)
  | .portHoldViolation cell => decide (cell < 256)
  | .arbConfigWrite off val => dwordOffset off && isDword val
  | .nopCmd qid => isQueue qid
  | .abortCmd qid _ => isQueue qid
  | .pinTranslate _ => true
  | .pinVerifyOffset _ => true
  | .pinGenerateOffset _ => true
  | .pinVerifyPvv _ => true
  | .pinGeneratePvv _ => true
  | .macGenerate _ => true
  | .macVerify _ => true
  | .macTranslate _ => true
  | .cvvGenerate _ => true
  | .cvvVerify _ => true
  | .arqcVerify _ => true
  | .arqcVerifyArpc _ => true
  | .dukptPinTranslate _ => true
  | .dukptMacVerify _ => true
  | .dukptDataDecrypt _ => true
  | .dukptInitialKey _ => true
  | .kbImport _ => true
  | .kbExport _ => true
  | .pkKeygen _ => true
  | .rsaSign _ => true
  | .rsaVerify _ => true
  | .ecdsaSign _ => true
  | .ecdsaVerify _ => true
  | .ecdhDerive _ => true
  | .ecPointMul _ => true
  | .ed25519Sign _ => true
  | .ed25519Verify _ => true
  | .pqKeygen _ => true
  | .mlkemEncaps _ => true
  | .mlkemDecaps _ => true
  | .mldsaSign _ => true
  | .mldsaVerify _ => true
  | .slhdsaVerify _ => true
  | .digest _ => true
  | .hmacGenerate _ => true
  | .hmacVerify _ => true
  | .digestCompare _ => true
  | .digestDerive _ => true
  | .keyGenerate _ => true
  | .keySave _ => true
  | .keySaveUnder _ => true
  | .keyLoad _ => true
  | .keyLoadUnder _ => true
  | .keyRelease _ => true
  | .keyRestrict _ => true
  | .keyInfo _ => true
  | .keyPublic _ => true
  | .keyCheckValue _ => true
  | .keyProve _ => true
  | .masterCreate _ => true
  | .masterInvalidate _ => true
  | .masterStatus _ => true
  | .invalidationPass => true
  | .keyValidityExpire slot => decide (slot < 1048576)
  | .rootRecoveryComplete => true
  | .noiseBlockComplete src bits => decide (src < 24) && bits.length == 1024
  | .skyFailLimitWrite val => isDword val
  | .expanderReseed inst => decide (inst < 19)
  | .randomRead _ client _ => decide (client < 11)
  | .randomStallTimeout _ => true
  | .skyDataRead => true
  | .randomGenerate _ => true
  | .randomFresh _ => true
  | .egressFrame port _ _ _ _ _ => decide (port < 16)
  | .ingressFrame port _ _ _ => decide (port < 16)
  | .icvVerdict port _ => decide (port < 16)
  | .furrowMismatchWindowClose pg => decide (pg < 2)
  | .ruleCommit pg rule => decide (pg < 2) && decide (rule < 8192)
  | .portConfigWrite side port val => decide (side < 2) && decide (port < 16) && isDword val
  | .pgConfigWrite pg val => decide (pg < 2) && isDword val
  | .pgStop pg => decide (pg < 2)
  | .pgStopComplete pg => decide (pg < 2)
  | .pgStart pg => decide (pg < 2)
  | .pgStartComplete pg _ => decide (pg < 2)
  | .portLinkChange side port _ _ => decide (side < 2) && decide (port < 16)
  | .statsWriteback assoc => decide (assoc < 65536)
  | .channelCommit ch => decide (ch < 16384)
  | .saCommit assoc => decide (assoc < 65536)
  | .switchArm ch val => decide (ch < 16384) && isDword val
  | .linkMkaCreate _ => true
  | .linkMkaDelete _ => true
  | .linkMkaStatus _ => true
  | .linkMkaCreatePersist _ => true
  | .linkMkaDeletePersist _ => true
  | .linkSaInstall _ => true
  | .linkSaInstallWrapped _ => true
  | .linkSaClear _ => true
  | .linkSaSwitch _ => true
  | .linkStatsRead _ => true
  | .linkMasterLoad _ => true
  | .mkpduReceive cell => decide (cell < 256)
  | .mkaTimerExpire inst _ => decide (inst < 4096)
  | .dramRead addr _ _ => decide (addr < 2 ^ 48)
  | .dramWrite addr _ _ => decide (addr < 2 ^ 48)
  | .counterBlockRewriteComplete e _ _ => decide (e < 2)
  | .scrubRead e _ => decide (e < 2)
  | .thatchInitComplete e => decide (e < 2)
  | .hedgerowAccessCheck unit master kind attr addr _ => decide (unit < 259) && decide (master < 4) && decide (kind < 3) && decide (attr < 8) && decide (addr < 2 ^ 48)
  | .inactiveSetLoad cell _ => decide (cell < 256)
  | .hedgerowUpdate unit _ _ => decide (unit < 259)
  | .monitorTrip ms => ms.all (fun m => decide (m < 26))
  | .swaleComplete => true
  | .haltBegin => true
  | .gorAlarmClear mask => isDword mask
  | .peatRecordsClear => true
  | .gorBistStart mon chan => decide (mon < 32) && decide (chan < 8)
  | .gorBistComplete _ => true
  | .bistOverdue => true
  | .shadowScan _ => true
  | .backupTrip ms => ms.all (fun m => decide (m < 26))
  | .ledgerRecordProgrammed => true
  | .cairnEventPost code key _ => decide (code < 65536) && decide (key < 65536)
  | .rateWindowClose code key => decide (code < 65536) && decide (key < 65536)
  | .freezeCmd => true
  | .thawCmd => true
  | .freezeTimeout => true
  | .loadRing => true
  | .loadFlash => true
  | .loadFlashComplete => true
  | .wallCmd => true
  | .spillBlockProgrammed => true
  | .cmnFound _ => true
  | .cmnEvidence _ => true
  | .cmnInvite _ => true
  | .cmnJoin _ => true
  | .cmnLeave _ => true
  | .cmnExpel _ => true
  | .cmnRosterExport _ => true
  | .cmnRosterLoad _ => true
  | .cmnSessionOpen _ => true
  | .cmnRelayIn _ => true
  | .cmnRelayOut _ => true
  | .cmnReplicate _ _ => true
  | .cmnReplicaBind _ => true
  | .cmnReplicaDrop _ => true
  | .cmnGenNotify _ => true
  | .cmnPeerSelWrite val => isDword val
  | .handshakeReceive => true
  | .heartbeatReceive => true
  | .joinRequestReceive => true
  | .rosterUpdateReceive => true
  | .rosterRequestReceive => true
  | .rosterSegmentReceive => true
  | .replicaReceive => true
  | .genNoticeReceive => true
  | .bindAckReceive => true
  | .heartbeatTimer peer => decide (peer < 16384)
  | .peerTimeout peer => decide (peer < 16384)
  | .vbakLoss => true
  | .monitorReturnToWindow m => decide (m < 26)
  | .loadRingComplete => true
  | .skyDataRefill => true
  | .egressFrameDeparture port => decide (port < 16)
  | .adminFirmwareTimer _ _ _ => true

end Sys2Proof
end

