-- ==== Sys2Proof/Tests/Slice0.lean ====
section
/-! SUPPORT. Tests: for each obligation with hypotheses, states and operands that meet them (its witnesses); for each check of
WellFormed, a command it refuses; a few single steps. Where a hypothesis is about an opaque function of Config (whether a signature
verifies, a block opens, a draw gives a usable candidate), the statement covers both answers, and the witness fixes everything else. -/

namespace Sys2Proof.Tests

set_option Elab.async false

open Machine

/-! ### States to test on -/

/-- The state with some register fields set. -/
def put (s : State) (fs : List (Fld × Nat)) : State := fs.foldl (fun (s : State) p => s.setF p.1 p.2) s

/-- The islands run and nothing else has happened. -/
def live : State := { State.reset with pwr := { State.reset.pwr with vin := true, on := true, peatLost := false } }

/-- A module in Production in full service, with the root store open and Thatch ready. -/
def serving : State :=
  put { live with
        lc := { live.lc with st := 2 }
        bale := { live.bale with step := 12, adoptedEpoch := 7 } }
    [(Reg.HIF_STATUS_FULL_SERVICE, 1), (Reg.HIF_STATUS_ENTROPY_READY, 1), (Reg.BAR_STATUS_ROOT_OPEN, 1), (Reg.THA_STATUS_E_READY, 1),
      (Reg.THA_STATUS_W_READY, 1)]

/-- What a command answers, when it answers a next state. -/
def after (c : Instr) (s : State) : Option State :=
  match exec c s with
  | .next t => some t
  | _ => none

/-! ### Register access and steps -/

/-- A module without meadow 7 and with meadow 0 in S3, its save memory written. -/
def mixed : State :=
  put { live with lc := { live.lc with variant := .p1700 }
                  pwr := { live.pwr with save := [(0, { cells := List.replicate 32 (1, 200, 2), valid := true })] } }
    [(Reg.PWR_MDW_STAT_STATE 0, 4), (Reg.DRV_MDW_STAT_STATE 1, 3)]

theorem wit_register_writes : live.live = true ∧ live.hif.perst = false ∧ live.fullMap = true ∧ live.lc.variant.hasFurrow = true ∧
    live.hasCell 255 = true ∧ live.sleepState (meadowOf 255) ≠ 4 ∧ (0xFFC : Nat) % 4 = 0 ∧ (0x3FFFFFC : Nat) < 0x4000000 := by
  decide +kernel

theorem wit_absent_and_sleeping : mixed.live = true ∧ mixed.hif.perst = false ∧ mixed.fullMap = true ∧ mixed.lc.variant = .p1700 ∧
    { mixed with lc := { mixed.lc with variant := .l1700 } }.hasMeadow 1 = false ∧ mixed.hasCell 0 = true ∧ mixed.sleepState (meadowOf 0) = 4 ∧ mixed.sleepState 1 ≠ 4 ∧
    mixed.mdwState 1 = 3 ∧ mixed.sleepState 2 ≠ 4 ∧ mixed.mdwState 2 ≠ 3 ∧
    (getC {} mixed.pwr.save (meadowOf 0)).cells[0 % 32]? = some (1, 200, 2) := by decide +kernel

theorem wit_absent_windows :
    let l := { mixed with lc := { mixed.lc with variant := .l1700 } }
    let h := { mixed with lc := { mixed.lc with variant := .h1700 } }
    (inHedge 0xC18000 = true ∧ l.hasUnit (hedgeUnit 0xC18000) = false) ∧ h.lc.variant = .h1700 ∧
      (0x1100000 : Nat) ≤ 0x11FFFFC ∧ l.live = true ∧ l.fullMap = true ∧ h.fullMap = true ∧ l.hif.perst = false := by decide +kernel

theorem test_write_stores_a_register :
    (after (.registerWrite 0xF00014 15 0x00640001) live).map (fun t => t.getF Reg.PWR_SLEEP_CFG_S1_EN) = some 1 := by decide +kernel

theorem test_partial_write_is_discarded : after (.registerWrite 0xF00014 7 1) live = some live := by decide +kernel

theorem test_access_beyond_bar_faults : exec (.registerWrite 0x4000000 15 0) live = .fault .outsideBar := rfl

theorem test_step_takes_the_front : (match step { live with pending := [.powerCapSet, .sagEnd] } with
    | .next t => t.pending
    | _ => []) = [.sagEnd] := by decide +kernel

theorem test_idle_step_is_a_tick : (match step live with
    | .next t => t.drv.tick
    | _ => 0) = 1 := by decide +kernel

/-! ### Supply, power levels and sleep -/

def atP0 : State := put { live with bale := { live.bale with step := 6 } } [(Reg.PWR_MDW_STAT_EFF_LEVEL 0, 0)]
def atP1Capped : State := put { live with bale := { live.bale with step := 6 } }
  [(Reg.PWR_MDW_STAT_EFF_LEVEL 0, 1), (Reg.PWR_STATUS_CAP_ACTIVE, 1)]

theorem wit_power_cap : atP0.live = true ∧ atP0.getF Reg.PWR_STATUS_CAP_ACTIVE = 0 ∧ atP0.hasMeadow 0 = true ∧ atP0.sleepState 0 = 0 ∧
    atP0.stepping 0 = none ∧ atP0.getF (Reg.PWR_MDW_STAT_EFF_LEVEL 0) = 0 ∧ 6 ≤ atP0.bale.step ∧ atP0.pwr.holdP3 = false ∧
    atP1Capped.live = true ∧ atP1Capped.hasMeadow 0 = true ∧ atP1Capped.sleepState 0 = 0 ∧ atP1Capped.stepping 0 = none ∧
    atP1Capped.getF (Reg.PWR_MDW_STAT_EFF_LEVEL 0) = 1 ∧ atP1Capped.getF (Reg.PWR_MDW_CTL_REQ_LEVEL 0) = 0 ∧
    atP1Capped.levelInForce 0 = 0 ∧ atP1Capped.getF Reg.PWR_STATUS_SAG_ACTIVE = 0 := by decide +kernel

theorem wit_sag : atP0.getF Reg.PWR_STATUS_SAG_ACTIVE = 0 ∧ (put atP0 [(Reg.PWR_SAG_CFG_SAG_EN, 1)]).getF Reg.PWR_SAG_CFG_SAG_EN = 1 ∧
    atP0.getF (Reg.PWR_MDW_STAT_EFF_LEVEL 0) < 3 ∧ atP0.getF Reg.PWR_STATUS_CAP_ACTIVE ≤ 1 ∧
    atP0.getF (Reg.PWR_MDW_STAT_EFF_LEVEL 0) =
      min 3 (max (atP0.levelInForce 0) 0 + 0) ∧
    atP0.live = true ∧ atP0.hif.perst = false ∧ 95 ≤ 560 % 1024 ∧ (94 % 1024 < 95 ∨ 560 < 561 % 1024) := by decide +kernel

/-- A meadow that steps down. -/
def stepping : State := { atP0 with pwr := { atP0.pwr with stepping := [(0, some false)] } }

theorem wit_levels : atP0.hasMeadow 0 = true ∧ atP0.sleepState 0 = 0 ∧ atP0.getF Reg.PWR_STATUS_CAP_ACTIVE ≤ 1 ∧
    atP0.getF Reg.PWR_STATUS_SAG_ACTIVE ≤ 1 ∧ stepping.stepping 0 = some false ∧ stepping.live = true ∧
    stepping.getF (Reg.PWR_MDW_STAT_EFF_LEVEL 0) < 4 ∧ (atP0.setSleep 0 2).sleepState 0 ≠ 0 ∧ (atP0.setSleep 0 2).hif.perst = false := by decide +kernel

/-- The hold-up store at its threshold. -/
def charged : State := { live with pwr := { live.pwr with storeUj := 5200000 } }

theorem wit_hold_up : charged.live = true ∧ charged.pwr.vin = true ∧ charged.pwr.storeUj < 655360000 ∧ 5200000 ≤ charged.pwr.storeUj ∧
    10000 * 499 ≤ charged.pwr.storeUj ∧ live.pwr.storeUj < 6000000 ∧ live.getF Reg.PWR_STATUS_SAG_ACTIVE = 0 ∧
    { State.reset with pwr := { State.reset.pwr with vin := true } }.live = false := by decide +kernel

/-- An idle meadow 0 with S1 and S2 enabled. -/
def idleMeadow : State := put live [(Reg.PWR_SLEEP_CFG_S1_EN, 1), (Reg.PWR_SLEEP_CFG_S2_IDLE_US, 100), (Reg.DRV_MDW_STAT_STATE 0, 0)]
def fallowMeadow : State := put idleMeadow ((List.range 32).map (fun c => (Reg.SWD_CELL_STAT_STATE c, 3)))

/-- Island 40 stretched by a part. -/
def stretched (x : Nat) : State := { live with pwr := { live.pwr with stretch := [(40, x)] } }

theorem wit_clock_stretch : getC 0 live.pwr.stretch 38 = 0 ∧ (stretched 25).live = true ∧ getC 0 (stretched 25).pwr.stretch 40 = 25 ∧
    getC 0 (stretched 50).pwr.stretch 40 = 50 ∧ idleMeadow.live = true ∧ idleMeadow.hasMeadow (3 / 4) = true ∧
    idleMeadow.sleepState (3 / 4) = 0 ∧ idleMeadow.getF Reg.PWR_SLEEP_CFG_S1_EN = 1 ∧
    (∀ i, i < 8 → idleMeadow.slotsEmpty (8 * 3 + i) = true) ∧ (idleMeadow.port 3).req = [] := by decide +kernel

/-- Meadow 0 idle past its time: its S2 timer is due. -/
def idleDue : State := { idleMeadow with drv := { idleMeadow.drv with tick := 101, timers := [⟨6, 100, .sleep 0⟩] } }

theorem wit_sleep_commands : idleDue.live = true ∧ idleDue.sleepState 0 = 0 ∧ idleDue.getF Reg.PWR_SLEEP_CFG_S2_IDLE_US ≠ 0 ∧
    idleDue.noWork 0 = true ∧ idleDue.isDue (.sleep 0) = true ∧ idleMeadow.drv.slots = [] ∧
    (let l := { live with lc := { live.lc with variant := .l1700 } }; l.hasMeadow 7 = false ∧ l.sleepState 7 = 0 ∧ l.hif.perst = false) ∧
    idleMeadow.hasMeadow 0 = true ∧ idleMeadow.noWork 0 = true ∧ idleMeadow.sleepState 0 = 0 ∧
    idleMeadow.hif.perst = false ∧ idleMeadow.getF Reg.PWR_SLEEP_CFG_S2_IDLE_US ≠ 0 ∧ idleMeadow.allFallow 0 = false ∧
    fallowMeadow.noWork 0 = true ∧ fallowMeadow.allFallow 0 = true ∧ fallowMeadow.sleepState 0 = 0 ∧
    (∀ x ∈ [1, 2, 3, 4, 5, 6], (idleMeadow.setSleep 0 x).sleepState 0 = x ∧ (idleMeadow.setSleep 0 x).noWork 0 = true) := by decide +kernel

/-- Meadow 0 in a transition to or from sleep. -/
def transit (x : Nat) (deep : Bool) : State :=
  (({ idleMeadow with sky := { idleMeadow.sky with seeds := 1 } }).setSleep 0 x).setDeep 0 deep

/-- It wakes from S3 on a bale of one section. -/
def badBale : State :=
  let t := transit 5 true
  { t with bale := { t.bale with adoptedHdr := zeros 18 ++ [1, 0] ++ zeros 492 } }

theorem wit_sleep_ends : (transit 1 false).live = true ∧ (transit 1 false).portsIdle 0 = true ∧ (transit 3 true).portsIdle 0 = true ∧
    getC false (transit 5 false).pwr.saveBad 0 = false ∧ (transit 5 true).badSection none = none ∧
    (badBale.badSection (some 0)).isSome = true ∧ (transit 1 false).noWork 0 = true ∧ (transit 1 false).deep 0 = false ∧ (transit 1 false).sleepState 0 = 1 ∧
    (transit 6 false).sleepState 0 = 6 ∧ (transit 3 true).noWork 0 = true ∧ (transit 3 true).deep 0 = true ∧
    (transit 3 true).sleepState 0 = 3 ∧ (transit 6 true).sleepState 0 = 6 ∧ (transit 5 false).sleepState 0 = 5 ∧
    (transit 5 false).mdwState 0 ≠ 3 ∧ getC false (transit 5 false).pwr.wiped 0 = false ∧ (transit 5 false).noWork 0 = true ∧
    (transit 5 true).sleepState 0 = 5 ∧ (transit 5 true).deep 0 = true ∧ (transit 5 true).mdwState 0 ≠ 3 ∧ (transit 5 true).sky.seeds ≠ 0 := by
  decide +kernel

/-! ### The start, resets and the bale -/

/-- VIN valid at step 1, in Blank. -/
def vinUp : State := { State.reset with pwr := { State.reset.pwr with vin := true }, bale := { State.reset.bale with step := 1 } }
/-- The same in Test, and in End of Life reached from Blank. -/
def vinUpTest : State := { vinUp with lc := { vinUp.lc with t1 := ⟨0xFFFFFFFF, 0x0F0F0F0F, 0xFFFFFFFF⟩ } }
def vinUpEnd : State := { vinUp with lc := { vinUp.lc with t1 := ⟨0xFFFFFFFF, 0xFFFFFFFF, 0xFFFFFFFF⟩ } }

theorem wit_start : State.reset.pwr.vin = false ∧ vinUp.pwr.vin = true ∧ vinUp.pwr.on = false ∧ vinUp.pwr.reset = false ∧
    vinUp.pwr.resetHeld = false ∧ vinUp.bale.step = 1 ∧ vinUp.gorse.outs = [] ∧ vinUp.gorse.peat = [] ∧ vinUp.gorse.latch = [] ∧
    vinUp.gorse.overflow = 0 ∧ vinUp.gorse.full = false ∧ vinUp.lc.decoded = 0 ∧ vinUpEnd.lc.decoded = 3 ∧ vinUpTest.lc.decoded = 1 ∧
    (State.pickSlot { vinUpTest with lc := { vinUpTest.lc with st := 1 } } []).1 = none := by decide +kernel

/-- At step 6 with every instance made and all sources passed; at step 10 with a role map. -/
def step6 : State :=
  { live with
    bale := { live.bale with step := 6 }
    sky := { live.sky with
      katOk := true, service := List.replicate 8 {}
      srcs := (List.range 24).map (fun i => (i, { passed := true }))
      clients := (List.range 16).map (fun i => (i, some {})) } }
def step10 : State :=
  { step6 with bale := { step6.bale with step := 10, content := { step6.bale.content with roleMap := List.replicate 256 1 } } }

theorem wit_hold : step6.bale.step = 6 ∧ step6.step7Done = true ∧ step6.getF Reg.HIF_STATUS_START_HELD = 0 ∧
    { step6 with sky := { step6.sky with katOk := false } }.sky.katOk = false ∧ step10.getF Reg.LCS_STATUS_EOL_PENDING = 0 ∧
    step10.getF Reg.HIF_STATUS_FULL_SERVICE = 0 ∧ step10.getF Reg.HIF_BALE_STATUS_OVERLAP = 0 ∧ step10.hasCell 255 = true ∧
    step10.mapRole 255 = 1 ∧ step10.roleFits 1 = true := by decide +kernel

theorem wit_config_write : ∃ off : Nat, off % 4096 / 4 * 4 ≠ Config.capAt 0x11 := by
  by_cases h : (0 : Nat) = Config.capAt 0x11
  · exact ⟨4, by omega⟩
  · exact ⟨0, by omega⟩

theorem wit_nothing_waits : ∀ m, State.restartWaits step6 m = false := by
  intro m
  have h : step6.drv.mdwGoal = [] := by decide +kernel
  simp [State.restartWaits, h, getC, getM]

theorem wit_host_resets : { step6.hif with endpoint := true }.endpoint = true ∧ { step6.hif with perst := true }.perst = true ∧ step6.live = true ∧ step6.hif.perst = false ∧ step6.hif.endpoint = false ∧
    { step6 with bale := { step6.bale with step := 9 } }.pastStop = true ∧ step6.lc.check = none ∧ step6.bale.job = none ∧
    { step6 with hif := { step6.hif with d3hot := true } }.hif.d3hot = true ∧
    (put step6 [(Reg.HIF_BALE_STATUS_STAGE, 1)]).getF Reg.HIF_BALE_STATUS_STAGE = 1 ∧ step6.blowing = false := by decide +kernel

theorem wit_reset : live.pwr.resetHeld = false ∧ live.pwr.vin = true ∧ live.pwr.reset = false ∧ live.live = true ∧ live.lc.job = none ∧
    live.lc.check = none ∧ live.bale.job = none ∧ live.gorse.swale = none ∧
    { live with lc := { live.lc with job := some (.row 0 0 0x0F0F0F0F none) } }.fuseBusy = true := by decide +kernel

/-- Staging in a stage, with work under way. -/
def staging (stage : Nat) (job : Option StageJob) : State :=
  put { live with bale := { live.bale with job, written := [3] } } [(Reg.HIF_BALE_STATUS_STAGE, stage)]

theorem wit_staging : (staging 0 none).stage = 0 ∧ (staging 0 none).getF Reg.HIF_BALE_STATUS_OVERLAP = 0 ∧
    (staging 0 none).wcnt (staging 0 none).openTarget < 10000 ∧ (staging 2 (some .erase)).stage = 2 ∧
    (put (staging 0 none) [(Reg.HIF_BALE_STATUS_OVERLAP, 1)]).getF Reg.HIF_BALE_STATUS_OVERLAP = 1 ∧
    (let s := { staging 0 none with root := { live.root with wcntA := 10000 } }; 10000 ≤ s.wcnt s.openTarget) ∧
    (staging 1 none).stage = 1 ∧ (staging 1 none).getF Reg.HIF_BALE_CHUNK_INDEX ≤ 767 ∧
    (staging 1 none).getF Reg.HIF_BALE_CHUNK_INDEX ∉ (staging 1 none).bale.written ∧
    767 < (put (staging 1 none) [(Reg.HIF_BALE_CHUNK_INDEX, 768)]).getF Reg.HIF_BALE_CHUNK_INDEX ∧
    (put (staging 1 none) [(Reg.HIF_BALE_CHUNK_INDEX, 3)]).getF Reg.HIF_BALE_CHUNK_INDEX ∈ (staging 1 none).bale.written := by
  decide +kernel

theorem wit_staging_abort : (staging 2 (some .check)).bale.job = some .check ∧ (staging 2 (some .erase)).bale.job = some .erase ∧
    (staging 2 (some .program)).bale.job = some .program ∧ (staging 2 none).hif.perst = false ∧
    (staging 2 (some .abortProgram)).bale.written = 3 :: [] ∧ (staging 2 (some .abortProgram)).live = true ∧
    2 ≤ (([.sections, .sections] : List HubCheck).filter (fun x => x == .sections)).length := by decide +kernel

theorem wit_staging_work : (staging 2 (some .program)).bale.written = 3 :: [] ∧
    (let s := staging 2 (some .check); s.live = true ∧ s.judgeSlot s.bale.target (fun e => decide (s.eAdopt < e)) 6 [] ≠ 0) := by decide +kernel

/-- A VERIFIED bale of epoch 9, power for a fuse write, meadow 0 in service on an older epoch. -/
def verified : State :=
  put { staging 3 none with bale := { (staging 3 none).bale with stagedEpoch := 9, running := some 0, mdwEpoch := [(0, 5)] } }
    [(Reg.PWR_STATUS_LC_POWER_OK, 1), (Reg.DRV_MDW_STAT_STATE 0, 0)]
def overlapping : State :=
  put { verified with bale := { verified.bale with adoptedEpoch := 9 } } [(Reg.HIF_BALE_STATUS_OVERLAP, 1)]

theorem wit_adoption : verified.stage = 3 ∧ verified.lcPower = true ∧ verified.inRows = false ∧ verified.lc.job = none ∧
    verified.getF Reg.HIF_BALE_STATUS_OVERLAP = 0 ∧ verified.eAdopt < verified.bale.stagedEpoch ∧ verified.hif.aborts = [] ∧
    verified.bale.target = verified.selSlot ∧ verified.bale.running = some 0 ∧ verified.hasMeadow 0 = true ∧
    getC 0 verified.bale.mdwEpoch 0 ≠ 9 ∧ { verified with bale := { verified.bale with target := 1 } }.bale.target ≠ verified.selSlot ∧
    verified.lc.selBlown < 16384 ∧ verified.getF Reg.PWR_STATUS_LC_LOW_PATH = 0 ∧
    { verified with lc := { verified.lc with selBlown := 16385 }, bale := { verified.bale with target := 0 } }.selSlot = 1 ∧
    (put verified [(Reg.PWR_STATUS_LC_POWER_OK, 0)]).lcPower = false ∧
    (let s := { verified with bale := { verified.bale with stagedEpoch := 0 } }; s.bale.stagedEpoch ≤ s.eAdopt ∧ s.stage = 3) ∧
    overlapping.stage = 3 ∧ overlapping.lcPower = true ∧ overlapping.getF Reg.HIF_BALE_STATUS_OVERLAP = 1 ∧ overlapping.hif.aborts = [] ∧
    overlapping.cairn.opTime < { overlapping.bale with overlapEnd := 1 }.overlapEnd := by decide +kernel

theorem wit_overlap_timer : overlapping.getF Reg.HIF_BALE_STATUS_OVERLAP = 1 ∧ overlapping.bale.expiryNext = none ∧
    overlapping.bale.overlapEnd ≤ overlapping.cairn.opTime ∧ getC 0 overlapping.bale.mdwEpoch 0 ≠ overlapping.bale.adoptedEpoch ∧
    overlapping.sleepState 0 = 0 ∧ overlapping.mdwState 0 = 0 ∧ overlapping.mustWait 0 = false ∧
    overlapping.lc.check = none := by decide +kernel

theorem wit_no_restart_waits : ∀ k, State.restartWaits overlapping k = false := by
  intro k
  have h : overlapping.drv.mdwGoal = [] := by decide +kernel
  simp [State.restartWaits, h, getC, getM]

/-! ### Life cycle and Stile -/

/-- Power for a fuse write in life-cycle state `st`. -/
def fused (st : Nat) : State := put { live with lc := { live.lc with st } } [(Reg.PWR_STATUS_LC_POWER_OK, 1)]
def withSigner (st : Nat) : State := { fused st with lc := { (fused st).lc with signers := [some (List.replicate 32 1), none, none, none] } }

theorem wit_life_cycle_commands : live.lcPower = false ∧ (fused 0).lcPower = true ∧ (fused 0).lcBusy = false ∧ (fused 0).lc.st = 0 ∧
    (fused 1).lc.st ≠ 0 ∧ { fused 0 with lc := { (fused 0).lc with job := some .selector } }.lcBusy = true ∧
    (∀ d ∈ (fused 0).lc.signers, d = none) ∧ (∃ d ∈ (withSigner 0).lc.signers, d ≠ none) ∧
    (fused 0).getF Reg.PWR_STATUS_LC_LOW_PATH = 0 ∧ (fused 0).gorse.swale = none ∧
    (fused 0).lc.signers[(fused 0).getF Reg.LCS_SIGNER_CTL_SLOT]? = some none ∧
    (withSigner 1).lc.signers[(withSigner 1).getF Reg.LCS_SIGNER_CTL_SLOT]? = some (some (List.replicate 32 1)) ∧
    live.entropyReady = false ∧ (put step6 [(Reg.HIF_STATUS_ENTROPY_READY, 1)]).entropyReady = true ∧
    ((put step6 [(Reg.HIF_STATUS_ENTROPY_READY, 1)]).draw 9 16).isSome = true ∧
    (put live [(Reg.HIF_STATUS_ENTROPY_READY, 1)]).draw 9 16 = none := by decide +kernel

/-- The fuse row `stage` of triple 1 toward Test is being written. -/
def rowJob (stage : Nat) (retried : Bool) : State :=
  { live with lc := { live.lc with job := some (.row 1 stage 1 none), retried,
                                   t1 := ⟨if stage = 0 then 0 else 0xFFFFFFFF, if stage = 2 then 0x0F0F0F0F else 0, 0⟩ } }
def eolPending : State := put (fused 1) [(Reg.LCS_STATUS_EOL_PENDING, 1)]

theorem wit_fuse_rows : (rowJob 2 false).live = true ∧ (rowJob 2 false).lc.resetHeld = false ∧ (rowJob 2 false).pwr.holdP3 = false ∧
    (rowJob 1 true).lc.retried = true ∧ (rowJob 0 false).lc.job = some (.row 1 0 1 none) ∧
    { live with lc := { live.lc with job := some (.signer 7 [1]) } }.lc.job = some (.signer 7 [1]) ∧
    { live with lc := { live.lc with job := some (.revoke 3 none) } }.lc.job = some (.revoke 3 none) ∧ decodeFuses ((rowJob 2 false).lc.triples.take 0) 0 = 0 ∧ permitted 0 1 = true ∧
    ((rowJob 2 false).lc.triple 1).intent = allOnes ∧ ((rowJob 2 false).lc.triple 1).target = targetCode 1 ∧
    ((rowJob 2 false).lc.triple 2).intent = 0 ∧ ((rowJob 2 false).lc.triple 3).intent = 0 ∧
    eolPending.getF Reg.LCS_STATUS_EOL_PENDING = 1 ∧ eolPending.lcPower = true ∧ eolPending.lc.job = none ∧ eolPending.phase = 0 ∧
    eolPending.gorse.swale = none ∧ eolPending.getF Reg.PWR_STATUS_LC_LOW_PATH = 0 ∧ live.getF Reg.LCS_STATUS_EOL_PENDING = 0 := by
  decide +kernel

/-- Production with a token of scope MEMORY BIST, cell 0 FALLOW. -/
def bistOpen : State :=
  put { live with lc := { live.lc with st := 2 } }
    [(Reg.STL_STATUS_AUTHORISED, 1), (Reg.STL_STATUS_SCOPE, 4), (Reg.SWD_CELL_STAT_STATE 0, 3)]

/-- A line of stack 0 that was written. -/
def lineWritten : State :=
  live.setEngine 0 { (live.engine 0) with keys := some (zeros 96), blocks := [(0, some {})], data := [(5, List.replicate 64 1)] }

theorem wit_memory_tests : live.lc.st = 0 ∧ (fused 1).lc.st = 1 ∧ restores (.destructive none) = false ∧ restores (.bist none) = true ∧
    bistOpen.bistReach (.dram 1) = true ∧ bistOpen.bistReach (.sram 0) = true ∧ bistOpen.bistReach .other = false ∧ bistOpen.lc.st = 2 ∧
    ((lineWritten.engine 0).arrayLine 0 5).isSome = true ∧ lineWritten.live = true ∧
    (live.setSleep 0 4).sleepState (meadowOf 31) = 4 ∧ (live.setSleep 0 2).sleepState (meadowOf 31) ≠ 4 ∧
    (fused 1).gorse.swale = none := by decide +kernel

/-- Production with a token of scope HUB. -/
def authorised : State := put { live with lc := { live.lc with st := 2 } } [(Reg.STL_STATUS_AUTHORISED, 1), (Reg.STL_STATUS_SCOPE, 1)]

theorem wit_stile : live.lc.st = 0 ∧ (fused 2).lc.st = 2 ∧ (fused 2).getF Reg.STL_STATUS_AUTHORISED = 0 ∧
    stilePublic (.region 5) true = false ∧ authorised.getF Reg.STL_STATUS_AUTHORISED = 1 ∧ authorised.inScope .hub true = true ∧
    authorised.hif.perst = false ∧
    authorised.getF Reg.STL_EXPIRY_LO_TIME + 2 ^ 32 * authorised.getF Reg.STL_EXPIRY_HI_TIME ≤ authorised.cairn.opTime ∧
    (let s := put authorised [(Reg.STL_EXPIRY_LO_TIME, 1)]
     s.cairn.opTime < s.getF Reg.STL_EXPIRY_LO_TIME + 2 ^ 32 * s.getF Reg.STL_EXPIRY_HI_TIME) := by decide +kernel

/-! ### Graphs at their sink -/

/-- A graph of one node for opcode `op` from queue `qid` with the input `inp`. -/
def oneNode (op qid : Nat) (inp : Bytes) : Graph :=
  { qid, desc := { opcode := op, inLen := inp.length, outLen := 9992 }
    tpl := { id := 0, opcode := op, nodes := [{ role := 1 }], deadline := 0 }, prio := 3, tAcc := 0, deadline := 0, epoch := 7
    nodes := [{ phase := .placed 0, cell := 0, ran := some 0 }], input := some inp }

/-- The graph's only node runs in slot 0 of cell 0. -/
def atSink (s : State) (gr : Graph) : State :=
  (s.setGraph 0 (some gr)).setSlot 0 (some { work := .node 0 0, mode := .running })

/-- The input of LC_TRANSITION: its target, the module identity and the nonce. -/
def transition (target : Nat) : Bytes := le 4 target ++ zeros 16 ++ List.replicate 16 5
def nonced (st : Nat) : State :=
  put { fused st with lc := { (withSigner st).lc with nonce := List.replicate 16 5 } } [(Reg.HIF_STATUS_ENTROPY_READY, 1), (Reg.BAR_STATUS_ROOT_OPEN, 1),
    (Reg.THA_STATUS_E_READY, 1), (Reg.THA_STATUS_W_READY, 1)]
def transEol : Graph := oneNode 0x0180 stewardQ (transition 3)
def transProd : Graph := oneNode 0x0180 stewardQ (transition 2)
def prodChecked : State :=
  { nonced 1 with lc := { (nonced 1).lc with check := some (2, some 0), attPending := some (List.replicate 64 1) } }
def revokeTwo : Graph := oneNode 0x0182 stewardQ [2, 0, 0, 0]
def revokeZero : Graph := oneNode 0x0182 stewardQ [0, 0, 0, 0]
/-- A token of scope HUB for one minute, signed by key 0. -/
def token : Bytes :=
  magic 0x53 0x54 0x49 0x4C ++ le 4 0x10001 ++ zeros 16 ++ List.replicate 16 5 ++ le 8 1 ++ zeros 7856
def tokened : State :=
  { nonced 2 with bale := { (nonced 2).bale with content := { (nonced 2).bale.content with stileKeys := [[1]] } } }

theorem wit_life_cycle_graphs : NoKeys transEol ∧ AtSink (atSink (nonced 1) transEol) 0x0180 0 transEol 0 ∧ isSteward stewardQ = true ∧
    isSteward 0 = false ∧ transEol.inp.length = 36 ∧ byteAt transEol.inp 0 = 3 ∧ allZero (slice transEol.inp 1 3) = true ∧
    (nonced 1).lcPower = true ∧ (nonced 1).lcBusy = false ∧ (nonced 1).entropyReady = true ∧
    slice transEol.inp 20 16 = fit 16 (nonced 1).lc.nonce ∧ slice transEol.inp 4 16 = fit 16 (nonced 1).lc.uid ∧
    (nonced 1).gorse.swale = none ∧ AtSink (atSink prodChecked transProd) 0x0180 0 transProd 0 ∧ byteAt transProd.inp 0 = 2 ∧
    prodChecked.lc.check = some (2, some 0) ∧ 32 ≤ transProd.desc.outLen ∧ prodChecked.getF Reg.PWR_STATUS_LC_LOW_PATH = 0 ∧
    AtSink (atSink (nonced 1) revokeTwo) 0x0182 0 revokeTwo 0 ∧ (nonced 1).liveSigners ≠ [byteAt revokeTwo.inp 0] ∧
    (nonced 1).liveSigners = [byteAt revokeZero.inp 0] := by unfold AtSink NoKeys; decide +kernel

theorem wit_stile_token : token.length = 7904 ∧ tokenForm token = true ∧ tokened.bale.content.stileKeys[byteAt token 7]? = some [1] ∧
    slice token 0x18 16 = fit 16 tokened.lc.nonce ∧ slice token 8 16 = fit 16 tokened.lc.uid ∧
    tokened.getF Reg.STL_STATUS_AUTHORISED = 0 := by decide +kernel

/-! ### Host interface -/

/-- A queue pair of depth 16: head 2, tail 5, completion head 1, completion tail 3. -/
def ring : Queue := { depthLog2 := 4, st := .enabled, sqHead := 2, sqTail := 5, cqHead := 1, cqTail := 3 }
def withQueue (q : Queue) : State := { serving with queues := [(3, q)], allots := [(0, { st := .active })] }

theorem wit_doorbell : (withQueue ring).live = true ∧ (withQueue ring).hif.perst = false ∧ ((withQueue ring).queue 4).open = false ∧
    ({ ring with st := .error } : Queue).st = .error ∧ ring.open = true ∧ (withQueue ring).getF Reg.HIF_QERR_INFO_VALID ≤ 1 ∧
    ring.depth ≤ 16 ∧ (4 + ring.depth - ring.sqHead % ring.depth) % ring.depth < (ring.sqTail + ring.depth - ring.sqHead % ring.depth) % ring.depth ∧
    (ring.sqTail + ring.depth - ring.sqHead % ring.depth) % ring.depth ≤ (15 + ring.depth - ring.sqHead % ring.depth) % ring.depth ∧
    (ring.cqTail + ring.depth - ring.cqHead % ring.depth) % ring.depth < (4 + ring.depth - ring.cqHead % ring.depth) % ring.depth ∧
    (3 + ring.depth - ring.cqHead % ring.depth) % ring.depth ≤ (ring.cqTail + ring.depth - ring.cqHead % ring.depth) % ring.depth := by
  decide +kernel

/-- A template of one node for opcode 0x0A01, which uses no handle, and a descriptor of that opcode. -/
def tpl1 : Template := { id := 1, opcode := 0x0A01, nodes := [{ role := 5 }], deadline := 1000, inMax := 64 }
def descBytes (inLen : Nat) : Bytes := le 2 0x0A01 ++ zeros 8 ++ le 3 inLen ++ zeros 51
def arriving : State :=
  { withQueue { ring with inAir := 1, fetched := 1 } with drv := { serving.drv with banks := [(7, [tpl1])] } }

theorem not_fetchable (q : Queue) (j : Nat) (h : j ≠ 3) : (withQueue q).fetchable j = false := by
  have : (withQueue q).queue j = {} := by
    show getM _ [(3, q)] j = _
    simp [getM, Ne.symm h]
  simp [State.fetchable, this]

theorem wit_fetch : (∀ j, j < 16392 → ((withQueue ring).fetchable j = true ↔ j = 3)) ∧
    (∀ j, j < 16392 → serving.fetchable j = false) := by
  have h3 : (withQueue ring).fetchable 3 = true := by decide +kernel
  refine ⟨fun j _ => ⟨fun h => ?_, fun h => h ▸ h3⟩, fun j _ => ?_⟩
  · by_contra hj
    rw [not_fetchable ring j hj] at h
    exact absurd h (by decide)
  · have : serving.queue j = {} := rfl
    simp [State.fetchable, this]

theorem wit_admission : 0 < (arriving.queue 3).inAir ∧ (arriving.allot (allotOf 3)).st = .active ∧
    arriving.chooseBank (parseDesc (fit 64 (descBytes 16))).opcode (parseDesc (fit 64 (descBytes 16))).template = some (7, tpl1) ∧
    arriving.admission 3 (parseDesc (fit 64 (descBytes 16))) tpl1 = none ∧ tpl1.quorum = none ∧
    arriving.admission 3 (parseDesc (fit 64 (descBytes 65))) tpl1 = some St.badLength ∧
    (withQueue ring).chooseBank (parseDesc (fit 64 (descBytes 16))).opcode (parseDesc (fit 64 (descBytes 16))).template = none ∧
    { arriving with allots := [(0, { st := .quiescing })] }.allot (allotOf 3) = { st := .quiescing } := by decide +kernel

/-- A ring whose three descriptors to fetch cross its end, and one whose do not. -/
theorem wit_fetch_reads : let n (q : Queue) := min 8 (min ((q.sqTail + q.depth - q.sqHead % q.depth) % q.depth) (q.depth - 1 - q.outstanding))
    let over_ : Queue := { ring with sqHead := 14, sqTail := 1 }
    (withQueue ring).hif.atsEn = false ∧ 0 < n ring ∧ ring.sqHead < ring.depth ∧ ring.sqHead + n ring ≤ ring.depth ∧
      0 < n over_ ∧ over_.sqHead < over_.depth ∧ over_.depth < over_.sqHead + n over_ := by decide +kernel

/-- A template of a quorum class and a flagged descriptor of 4 bytes of input for it; with ATS on, the host denies page 0. -/
def tplQ : Template := { tpl1 with quorum := some 0, opcode := 0x0A01 }
def descFlagged : Bytes := le 2 0x0A01 ++ le 2 1 ++ zeros 6 ++ le 3 4 ++ le 3 136 ++ zeros 32 ++ le 8 8192 ++ zeros 8
def denied : State := { arriving with hif := { arriving.hif with atsEn := true, atsDenied := [(arriving.dmaPasid (allotOf 3), 0)] } }

theorem wit_flagged_admission : let s : State := { arriving with drv := { arriving.drv with banks := [(7, [tplQ])] } }
    let d := parseDesc (fit 64 descFlagged)
    s.chooseBank d.opcode d.template = some (7, tplQ) ∧ s.admission 3 d tplQ = none ∧ tplQ.quorum ≠ none ∧ d.inLen = 4 ∧
      arriving.denies (allotOf 3) d.inAddr d.inLen = false ∧ denied.denies (allotOf 3) d.inAddr d.inLen = true ∧
      arriving.denies (allotOf 3) (arriving.queue 3).airAddr 64 = false ∧ denied.denies (allotOf 3) (denied.queue 3).airAddr 64 = true ∧
      (zeros 3).length ≠ d.inLen ∧ (zeros 4).length = d.inLen ∧ s.getF Reg.BAR_STATUS_ROOT_OPEN ≠ 0 ∧ (s.queue 3).parked = false ∧
      (put s [(Reg.BAR_STATUS_ROOT_OPEN, 0)]).getF Reg.BAR_STATUS_ROOT_OPEN = 0 ∧ s.ideDrops = false ∧
      { s with hif := { s.hif with ide := [(0, { insecure := true })] } }.ideDrops = true := by decide +kernel

/-- The responder with its connection negotiated, and with a session and a key set of an IDE stream. -/
def responder : State :=
  { serving with root := { serving.root with attKey := some (zeros 64), root := some (zeros 32) }
                 hif := { serving.hif with endpoint := true, spdm := { serving.hif.spdm with caps := true, algs := true, dhe := true, aead := true } } }
def sessions (l : List Session) : State := { responder with hif := { responder.hif with spdm := { responder.hif.spdm with sessions := l, large := zeros 5000 } } }
def ideKeyed : State :=
  { sessions [{ id := 1, established := true, secret := [] }] with
    hif := { (sessions [{ id := 1, established := true, secret := [] }]).hif with ide := [(0, { sub := [{ k0 := some 5 }, {}, {}], secure := true })] } }

theorem wit_spdm : responder.live = true ∧ responder.pathOpen false = true ∧ responder.pathOpen true = true ∧ serving.spdmReady = false ∧
    responder.spdmReady = true ∧ responder.hif.spdm.caps = true ∧ responder.hif.spdm.algs = true ∧
    serving.hif.spdm.caps = false ∧ serving.hif.spdm.algs = false ∧ 0 ≤ (responder.certChain 0).length ∧ responder.getF Reg.HIF_SPDM_STATUS_EXT_ASYM = 0 ∧ 2 ≠ responder.signSlot := by
  refine ⟨?_, ?_, ?_, ?_, ?_, ?_, ?_, ?_, ?_, Nat.zero_le _, ?_, ?_⟩ <;> decide +kernel

theorem gcmTag_length (key nonce aad c : Bytes) : (gcmTag key nonce aad c).length = 16 := by
  simp [gcmTag, xorB, encB, bsize, fit, be, le]

/-- What a session protects opens: the request of an empty message, its tag alone. -/
theorem wit_sealed_request (x : Session) :
    x.unseal (gcmTag (x.key 0) (le 12 x.seqIn) (le 4 x.id ++ le 8 x.seqIn) []) = some [] ∧ x.unseal [] = none := by
  constructor
  · simp [Session.unseal, gcmOpen, gcmTag_length, gcmCrypt, ctrCrypt, Lane.stream, Lane.count, Lane.load, LaneCtr.refuses, LaneCtr.ofBlock, ctrWidth, bsize, xorB]
  · rfl

theorem wit_sessions : byteAt (zeros 1 ++ [0x81]) 1 = 0x81 ∧ responder.hif.spdm.dhe = true ∧ responder.hif.spdm.aead = true ∧
    serving.hif.spdm.dhe = false ∧ (ideKeyed.ide 0).carriesDma = true ∧ (ideKeyed.ide 1).secure = false ∧
    responder.hif.spdm.sessions.length < 4 ∧ responder.signSlot = 1 ∧ (zeros 96).length = 96 ∧
    4 ≤ (sessions (List.replicate 4 { id := 1, secret := [] })).hif.spdm.sessions.length ∧
    (sessions [{ id := 1, secret := [] }]).session 1 = some { id := 1, secret := [] } ∧
    ideKeyed.session 1 = some { id := 1, established := true, secret := [] } ∧
    responder.hif.spdm.chunkIn.length + 4096 ≤ 65536 ∧ 4096 * 1 < (sessions []).hif.spdm.large.length ∧ (ideKeyed.ide 0).sub.length = 3 ∧
    ((ideKeyed.ide 0).subAt 0).key 0 = some 5 ∧ ((ideKeyed.ide 0).subAt 0).key 1 = none ∧ (ideKeyed.ide 0).secure = true := by
  decide +kernel

/-- A coalesced completion whose time is up, and vector 1 unmasked. -/
def coalesced : State :=
  { withQueue { ring with coalUs := 5, unsig := 1, vector := 1 } with
    drv := { serving.drv with tick := 2000000 }
    hif := { serving.hif with msixEn := true, msix := [(1, { masked := false })], endpoint := true, alertMuted := true }
    pins := { serving.pins with alarmLow := true, smbAlertLow := true } }

theorem wit_side_messages : coalesced.live = true ∧ coalesced.getF Reg.HIF_SMB_ENABLE = 1 ∧
    (put live [(Reg.HIF_SMB_ENABLE, 0)]).getF Reg.HIF_SMB_ENABLE = 0 ∧ coalesced.pins.smbAlertLow = true ∧ coalesced.hif.alertMuted = true ∧
    coalesced.hif.alertAt + 1000000 ≤ coalesced.drv.tick ∧ coalesced.pins.alarmLow = true ∧ coalesced.hif.perst = false ∧
    coalesced.hif.endpoint = true ∧ coalesced.hif.msixEn = true ∧ coalesced.hif.msixMask = false ∧ (coalesced.queue 3).coalUs ≠ 0 ∧
    (coalesced.queue 3).unsig ≠ 0 ∧ (coalesced.queue 3).vector ≠ 0 ∧
    (coalesced.queue 3).unsigAt + (coalesced.queue 3).coalUs ≤ coalesced.drv.tick ∧
    serving.hif.msixEn = false ∧ serving.hif.endpoint = false ∧ (getC {} coalesced.hif.msix 2).masked = true ∧
    (getC {} coalesced.hif.msix (coalesced.queue 3).vector).masked = false := by decide +kernel

/-! ### Allotments -/

/-- Allotment 5 selected, with the record `x`, and queue 3 of it selected, with the queue `q`. -/
def allotted (x : Allot) (q : Queue) : State :=
  put { serving with allots := [(5, x)], queues := [(40, { st := .enabled, depthLog2 := 4 }), (43, q)] }
    [(Reg.ALT_SEL_ALLOT, 5), (Reg.ALT_SEL_QUEUE, 3)]
def inState (st : ASt) : State := allotted { st, pasid := 9 } {}

theorem wit_allotments : (inState .free).altSel = 5 ∧ (inState .free).live = true ∧ (inState .free).hif.perst = false ∧
    (inState .free).fullMap = true ∧ (∀ st ∈ [ASt.free, .active, .quiescing, .pendingEnable, .quiesced, .resetting, .removing],
      ((inState st).allot 5).st = st) ∧ (inState .free).pasidFree 5 9 = true ∧
    { inState .free with allots := [(4, { st := .active, pasid := 9 }), (5, { pasid := 9 })] }.pasidFree 5 9 = false ∧
    (inState .quiescing).inFlight 5 = 0 ∧ (∀ k, k < 8 → ((inState .quiescing).queue (8 * 5 + k)).waiting = []) ∧
    (∀ k, k < 8 → ((inState .quiescing).queue (8 * 5 + k)).inAir = 0) ∧ ((inState .quiescing).allot 5).log.held = [] ∧
    ((inState .quiescing).allot 5).log.cache = [] ∧ (∀ i ∈ (inState .removing).bar.inval, i.removing ≠ some 5) ∧
    (inState .quiesced).pasidFree 5 (7 % 2 ^ 20) = true ∧ 4096 % 8192 ≤ 4096 ∧ 4096 < 4097 % 8192 := by decide +kernel

theorem wit_pasid_clash_in_quiesced :
    let s := { inState .quiesced with allots := [(4, { st := .active, pasid := 9 }), (5, { st := .quiesced, pasid := 3 })] }
    (s.allot 5).st = .quiesced ∧ s.pasidFree 5 (9 % 2 ^ 20) = false ∧ s.altSel = 5 ∧ s.live = true ∧ s.fullMap = true ∧
      s.hif.perst = false := by decide +kernel

def ready3 : Queue := { depthLog2 := 4, sqBase := 4096, cqBase := 8192 }
def logging : Allot := { st := .active, log := { en := true, depthLog2 := 6, tail := 5, head := 3, cache := [{ window := 1, pages := [0], opened := 0 }] } }

theorem wit_queues_and_logs : (allotted { st := .active } {}).altQ = 43 ∧ ((allotted { st := .active } ready3).queue 43).st = .disabled ∧
    (allotted { st := .active } ready3).enableOk 43 = true ∧ (allotted { st := .active } {}).enableOk 43 = false ∧
    (∀ st ∈ [QSt.enabled, .draining, .error], ((allotted { st := .active } { st }).queue 43).st = st) ∧
    ((allotted { st := .active } { st := .draining, heldReset := true }).queue 43).heldReset = true ∧
    ((allotted { st := .active } {}).queue (8 * 5)).open = true ∧
    ((allotted { st := .active, t2sFull := true, s2tFull := true } {}).allot 5).t2sFull = true ∧
    ((allotted logging {}).allot 5).log.en = true ∧
    { (allotted logging {}) with drv := { serving.drv with tick := 100 } }.drv.tick = 100 ∧ 0 + max logging.log.flushUs 1 ≤ 100 ∧
    logging.log.ringFull = false ∧ logging.log.held = [] ∧ (5 : Nat) < 2 ^ logging.log.depthLog2 ∧ bit 0x61 0 = true ∧
    6 ≤ 0x61 / 16 % 32 ∧ 16 < 0x111 / 16 % 32 ∧ bit 0x60 0 = false := by decide +kernel

theorem wit_allotment_sides : (put serving [(Reg.ALT_SEL_STEWARD, 1)]).altSel = 2048 ∧
    (∀ k, k < 8 → ((({ serving with allots := [(5, { st := .active })] } : State)).queue (8 * 5 + k)).st = .disabled) ∧
    ¬ (∀ k, k < 8 → ((inState .active).queue (8 * 5 + k)).st = .disabled) ∧
    (let s : State := { inState .quiescing with drv := { serving.drv with graphs := [(0, some { qid := 40, desc := parseDesc (zeros 64), tpl := { id := 1, opcode := 0x0A01, nodes := [{ role := 5 }], deadline := 100 }, prio := 0, tAcc := 0, deadline := 100, epoch := 7, nodes := [{}] })] } }
     s.inFlight 5 ≠ 0 ∧ (s.allot 5).st = .quiescing) ∧
    (let s : State := { inState .quiescing with hif := { serving.hif with altBusy := some 5 } }; s.hif.altBusy = some 5) := by decide +kernel

/-- The log's ring of 64 records takes a head of 5 and refuses one of 6 or 64; nothing waits for it. -/
theorem wit_log_head : let s := allotted logging {}
    (∀ b, (s.allot b).log.held = []) ∧ s.hif.aborts = [] ∧ (∀ m, s.restartWaits m = false) ∧
      (let n := 2 ^ logging.log.depthLog2
       let d (x : Nat) := (x + n - logging.log.head % n) % n
       ¬ (n ≤ 5 ∨ d logging.log.tail < d 5) ∧ d logging.log.tail < d 6 ∧ n ≤ 64) ∧
      (logging.log.cache.length ≤ logging.log.depth - 1 - ringDist logging.log.depth logging.log.head logging.log.tail) ∧
      0x60 / 16 % 32 = logging.log.depthLog2 ∧ bit 0x71 0 = true ∧ 0x71 / 16 % 32 ≠ logging.log.depthLog2 ∧ 5 ≠ 6 ∧ bit 0x51 0 = true ∧
      0x51 / 16 % 32 < 6 := by
  refine ⟨fun b => ?_, rfl, ?_, ?_⟩
  · show ((getC {} [(5, logging)] b).log).held = []
    by_cases h : b = 5
    · subst h; rfl
    · simp [getC, getM, Ne.symm h]
  · intro m
    have h : (allotted logging {}).drv.mdwGoal = [] := by decide +kernel
    simp [State.restartWaits, h, getC, getM]
  · decide +kernel

/-! ### Custodians -/

/-- Custodian 1 enrolled and a member of class 0, whose pending entry 2 has the digest of 32 sevens. -/
def sevens : Bytes := List.replicate 32 7
def quorate : State :=
  { serving with
    root := { serving.root with slots := [(1, { st := 1, alg := 1, pk := zeros 32 }), (3, { st := 1, alg := 1, pk := zeros 32 })], classes := [(0, ⟨10, 1⟩)] }
    pends := [(2, { st := 1, digest := sevens, expiry := 5 })] }
def entered (p : Pend) : State := { quorate with pends := [(2, p)] }
/-- An approval of custodian 1. -/
def lodgement (verdict : Nat) : Bytes :=
  magic 0x45 0x5A 0x41 0x50 ++ le 1 1 ++ le 1 verdict ++ le 2 1 ++ sevens ++ zeros (approvalLen 1 - 40)

def lodged : Graph := oneNode 0x0F01 stewardQ (lodgement 1)
def rejected : State := entered { st := 2, digest := sevens, rejects := 2 }

theorem wit_lodge_open : NoKeys lodged ∧ AtSink (atSink quorate lodged) 0x0F01 0 lodged 0 ∧
    lodged.inp.take 4 = magic 0x45 0x5A 0x41 0x50 ∧ lodged.inp.length = approvalLen 1 ∧ slice lodged.inp 8 32 = sevens := by
  unfold AtSink NoKeys
  refine ⟨?_, ⟨?_, rfl, ?_, ?_, ?_, ?_, ?_, ?_, ?_⟩, ?_, ?_, ?_⟩ <;> decide +kernel

theorem wit_lodge : byteAt (lodgement 1) 4 = 1 ∧ byteAt (lodgement 1) 6 = 1 ∧ byteAt (lodgement 1) 7 = 0 ∧ byteAt (lodgement 1) 5 = 1 ∧
    byteAt (lodgement 2) 5 = 2 ∧ quorate.pendByDigest sevens = some 2 ∧ (quorate.pendE 2).st = 1 ∧ (quorate.cus 1).st = 1 ∧
    (quorate.cus 1).alg = 1 ∧ bit (quorate.cls (quorate.pendE 2).cls).members 1 = true ∧ (quorate.pendE 2).approvals = [] ∧
    bit (quorate.pendE 2).rejects 1 = false ∧ rejected.pendByDigest sevens = some 2 ∧ bit (rejected.pendE 2).rejects 1 = true := by
  decide +kernel

theorem wit_cancel :
    (let gr := oneNode 0x0F02 stewardQ sevens; NoKeys gr ∧ AtSink (atSink quorate gr) 0x0F02 0 gr 0 ∧ gr.inp.length = 32) ∧
    serving.pendByDigest sevens = none ∧ ((entered { st := 2, digest := sevens }).pendE 2).st = 2 ∧ (quorate.pendE 2).st ≠ 2 := by
  unfold NoKeys AtSink; decide +kernel

/-- The inputs of CUS_ENROL, CUS_REVOKE, CUS_SET_CLASS and CUS_READ_SLOT. -/
def enrolment : Bytes := le 1 2 ++ le 1 1 ++ zeros 2 ++ zeros (cusKeyLen 1)

/-- The same outside Production, and with a class that needs both members. -/
def wide : State := { quorate with lc := { quorate.lc with st := 1 } }
def narrow : State := { quorate with root := { quorate.root with classes := [(0, ⟨10, 2⟩)] } }

def enrolGraph : Graph := oneNode 0x0F03 stewardQ enrolment
def revokeGraph : Graph := oneNode 0x0F04 stewardQ (le 4 1)
def classGraph : Graph := oneNode 0x0F05 stewardQ (le 1 0 ++ le 1 2 ++ le 2 10 ++ zeros 4)
def slotGraph : Graph := oneNode 0x0F06 stewardQ (le 4 1)

theorem wit_slots_open : AtSink (atSink quorate enrolGraph) 0x0F03 0 enrolGraph 0 ∧ AtSink (atSink wide revokeGraph) 0x0F04 0 revokeGraph 0 ∧
    AtSink (atSink quorate classGraph) 0x0F05 0 classGraph 0 ∧ AtSink (atSink quorate slotGraph) 0x0F06 0 slotGraph 0 := by
  unfold AtSink; refine ⟨?_, ?_, ?_, ?_⟩ <;> decide +kernel

theorem wit_slots : enrolGraph.inp.length = 4 + cusKeyLen 1 ∧ byteAt enrolGraph.inp 0 = 2 ∧ byteAt enrolGraph.inp 1 = 1 ∧
    leAt enrolGraph.inp 2 2 = 0 ∧ (quorate.cus 2).st ≠ 1 ∧ (quorate.cus 1).st = 1 ∧ revokeGraph.inp.length = 4 ∧
    byteAt revokeGraph.inp 0 = 1 ∧ leAt revokeGraph.inp 1 3 = 0 ∧
    (∀ c, c < 6 → bit (wide.cls c).members 1 = true → wide.kEff c ≤ wide.nMembers c - 1) ∧
    bit (narrow.cls 0).members 1 = true ∧ narrow.nMembers 0 - 1 < narrow.kEff 0 ∧ 4 + (quorate.cus 1).pk.length ≤ slotGraph.desc.outLen := by
  decide +kernel

theorem wit_classes : classGraph.inp.length = 8 ∧ byteAt classGraph.inp 0 = 0 ∧ byteAt classGraph.inp 1 = 2 ∧
    leAt classGraph.inp 2 2 = 10 ∧ leAt classGraph.inp 4 4 = 0 ∧ 10 &&& quorate.enrolled = 10 ∧ 2 ≤ popCount 16 10 ∧
    4 &&& quorate.enrolled ≠ 4 := by decide +kernel

/-- A reject of an ML-DSA custodian, before and after its node has verified it. -/
def lodgement2 : Bytes := magic 0x45 0x5A 0x41 0x50 ++ le 1 1 ++ le 1 2 ++ le 2 2 ++ sevens ++ zeros (approvalLen 2 - 40)
def dsaGraph : Graph := oneNode 0x0F01 stewardQ lodgement2
def dsaVerified : Graph := { dsaGraph with nodes := [{ phase := .placed 0, cell := 0, ran := some 0 }, { phase := .done }] }
def dsaQuorate : State := { quorate with root := { quorate.root with slots := [(1, { st := 1, alg := 2, pk := zeros 1952 })] } }

theorem wit_lodge_ml_dsa : NoKeys dsaGraph ∧ AtSink (atSink dsaQuorate dsaGraph) 0x0F01 0 dsaGraph 0 ∧ byteAt dsaGraph.inp 6 = 2 ∧
    byteAt dsaGraph.inp 5 = 2 ∧ dsaGraph.inp.length = approvalLen 2 ∧ (dsaQuorate.cus 1).alg = 2 ∧
    bit (dsaQuorate.cls (dsaQuorate.pendE 2).cls).members 1 = true ∧ dsaGraph.verified = false ∧
    dsaGraph.nodes.length = dsaGraph.tpl.nodes.length ∧ AtSink (atSink dsaQuorate dsaVerified) 0x0F01 0 dsaVerified 0 ∧
    dsaVerified.verified = true := by
  unfold AtSink NoKeys
  refine ⟨?_, ⟨?_, rfl, ?_, ?_, ?_, ?_, ?_, ?_, ?_⟩, ?_, ?_, ?_, ?_, ?_, ?_, ?_, ⟨?_, rfl, ?_, ?_, ?_, ?_, ?_, ?_, ?_⟩, ?_⟩ <;> decide +kernel

/-- Custodian 1's revocation leaves every class enough members, or leaves class 0 short. -/
theorem wit_revocation : let left (s : State) (c : Nat) : Nat := if bit (s.cls c).members 1 then s.nMembers c - 1 else s.nMembers c
    (∀ c, c < 6 → wide.kEff c ≤ left wide c) ∧ left narrow 0 < narrow.kEff 0 := by decide +kernel

/-- An approval of custodian 1 is being verified for graph 0; entry 2 has expired. -/
def pendGraph : Graph := { oneNode 0x0103 0 [] with pend := some 2 }
def underWay (p : Pend) : State := (entered p).setGraph 0 (some pendGraph)
def checking : Pend := { st := 2, digest := sevens, approvals := [⟨1, 1, [], []⟩, ⟨3, 1, [], []⟩], graph := some 0, sig := some ⟨1, 1, [], []⟩ }
def expired : State := { quorate with cairn := { quorate.cairn with opTime := 6 } }

/-- The approval fails (`mis` 2) or its entry has been verified far enough: met, rejecting, exhausted or with another approval to take. -/
theorem wit_pending : (underWay checking).live = true ∧ (underWay checking).hif.aborts = [] ∧ ((underWay checking).pendE 2).st = 2 ∧
    ((underWay checking).pendE 2).sig = some ⟨1, 1, [], []⟩ ∧ (∃ x ∈ checking.approvals, x.slot = 1) ∧
    ((underWay checking).pendE 2).graph = some 0 ∧ (underWay checking).graph 0 = some pendGraph ∧ pendGraph.pend = some 2 ∧
    (let failed : Pend := { checking with sig := none, approvals := [⟨3, 1, [], []⟩] }
     let last : Pend := { failed with approvals := [] }
     let passed : Pend := { checking with sig := none, verified := 2 }
     (underWay checking).quorumMet failed = false ∧ failed.rejecting = false ∧ failed.exhausted = false ∧
       failed.nextApproval = some ⟨3, 1, [], []⟩ ∧ last.exhausted = true ∧ (underWay checking).quorumMet last = false ∧
       (underWay checking).cairn.opTime ≤ last.expiry ∧ { underWay checking with lc := { serving.lc with st := 1 } }.quorumMet passed = true) ∧
    (expired.pendE 2).st = 1 ∧ (expired.pendE 2).expiry < expired.cairn.opTime ∧ quorate.cairn.opTime ≤ (quorate.pendE 2).expiry ∧
    ((underWay checking).pendE 2).st = 2 := by
  decide +kernel

theorem wit_no_restart_pending (p : Pend) (m : Nat) : (underWay p).restartWaits m = false := by
  have h : (underWay p).drv.mdwGoal = [] := rfl
  simp [State.restartWaits, h, getC, getM]

/-! ### Cells, meadows and ports -/

/-- Meadow 1 with the state `st`, its sleep state and the goal of its drain. -/
def meadow (st sleep : Nat) (goal : Goal) : State :=
  put { serving with drv := { serving.drv with mdwGoal := [(1, goal)] } }
    [(Reg.DRV_MDW_STAT_STATE 1, st), (Reg.PWR_MDW_STAT_STATE 1, sleep)]
/-- Cell 32, of meadow 1, with the state `cst` and role PAY. -/
def inCell (cst : Nat) (goal : Goal) : State :=
  put { meadow 0 0 .none with drv := { (meadow 0 0 .none).drv with cellGoal := [(32, goal)] } }
    [(Reg.SWD_CELL_STAT_STATE 32, cst), (Reg.SWD_CELL_STAT_ROLE 32, 1)]

theorem wit_meadows : (meadow 0 0 .none).live = true ∧ (meadow 0 0 .none).hif.perst = false ∧ (meadow 0 0 .none).hasMeadow 1 = true ∧
    { meadow 0 0 .none with lc := { serving.lc with variant := .l1700 } }.hasMeadow 1 = false ∧ (meadow 0 4 .none).sleepState 1 = 4 ∧
    (meadow 0 0 .none).sleepState 1 = 0 ∧ (∀ st, st < 6 → (meadow st 0 .restart).mdwState 1 = st) ∧
    (meadow 0 0 .none).getF Reg.HIF_BALE_STATUS_OVERLAP = 0 ∧ (meadow 1 0 .fallow).mdwGoal 1 = .fallow ∧
    (meadow 1 0 .restart).mdwGoal 1 = .restart ∧ meadowOf 32 = 1 ∧ (inCell 0 .none).hasCell 32 = true ∧
    (∀ st, st < 5 → (inCell st .none).cellState 32 = st) ∧ (2 : Nat) ≠ (inCell 3 .none).nextRole 32 := by decide +kernel

/-- Meadow 1 is reloading with a seed left; it is in self-test. -/
def reloading : State := { meadow 3 0 .restart with sky := { serving.sky with seeds := 2 } }
def selftesting : State := { meadow 4 0 .restart with drv := { (meadow 4 0 .restart).drv with prior := [(32, 3)] } }
/-- Every cell of meadow 1 has drained. -/
def cellsOf (m st : Nat) : List (Fld × Nat) := (List.range 32).map (fun c => (Reg.SWD_CELL_STAT_STATE (32 * m + c), st))
def drainedMeadow (st : Nat) (goal : Goal) : State := put (meadow st 0 goal) (cellsOf 1 1)

theorem wit_drains : (drainedMeadow 1 .fallow).mdwState 1 = 1 ∧ (drainedMeadow 2 .fallow).mdwState 1 = 2 ∧
    (∀ c, c < 32 → (drainedMeadow 1 .fallow).slotsEmpty (32 + c) = true ∧ (drainedMeadow 1 .fallow).cellState (32 + c) ≠ 4) ∧
    reloading.mdwState 1 = 3 ∧ reloading.sky.seeds ≠ 0 ∧ reloading.drv.mdwAuto = none ∧ reloading.bale.expiryNext = none ∧
    selftesting.mdwState 1 = 4 ∧ selftesting.service = true ∧ selftesting.mdwGoal 1 = .restart ∧ selftesting.drv.mdwAuto = none ∧
    selftesting.bale.expiryNext = none ∧ getC 0 selftesting.drv.prior 32 = 2 + 1 ∧ selftesting.roleFits 2 = true ∧
    (inCell 1 .fallow).slotsEmpty 32 = true ∧ (inCell 1 .fallow).cellState 32 = 1 ∧ getC .none (inCell 1 .fallow).drv.cellGoal 32 = .fallow ∧
    getC .none (inCell 1 .retest).drv.cellGoal 32 = .retest := by decide +kernel

/-- The periodic test of cell 32 is due. -/
def testDue (s : State) : State := { s with drv := { s.drv with tick := 101, timers := [⟨6, 100, .selftest 32⟩] } }

theorem wit_selftests : (put (inCell 4 .none) [(Reg.SWD_CELL_CTL_NEXT_ROLE 32, 2)]).cellState 32 = 4 ∧
    (put (inCell 4 .none) [(Reg.SWD_CELL_CTL_NEXT_ROLE 32, 2)]).mdwState 1 = 0 ∧ (inCell 4 .none).cellRole 32 ≠ 6 ∧
    (put (inCell 4 .none) [(Reg.SWD_CELL_CTL_NEXT_ROLE 32, 2)]).nextRole 32 = 2 ∧
    (let s := put (inCell 0 .none) [(Reg.SWD_CELL_STAT_STATE 33, 0), (Reg.SWD_CELL_STAT_ROLE 33, 1), (Reg.DRV_CFG_ST_INTERVAL_MIN, 5)]
     s.hasCell 33 = true ∧ dieOf 33 = dieOf 32 ∧ s.cellState 33 = 0 ∧ s.cellRole 33 = s.cellRole 32 ∧ s.cellState 32 = 0 ∧ s.mdwState 1 = 0 ∧
      60000000 * s.getF Reg.DRV_CFG_ST_INTERVAL_MIN ≠ 0 ∧ (testDue s).isDue (.selftest 32) = true ∧ s.isDue (.selftest 32) = false ∧
      (testDue s).drv.timers.length ≤ sharedTimers ∧ ∀ x, x < 32 → s.cellRole (32 + x) ≠ 6 ∧ getC .none s.drv.cellGoal (32 + x) ≠ .retest) := by decide +kernel

/-- A node of role PAY runs in slot 64, of cell 32, which drains past its limit. -/
def late : State :=
  let s := inCell 1 .fallow
  let s : State := { s with drv := { s.drv with tick := 10 } }
  (s.setGraph 0 (some { oneNode 0x0103 0 [] with nodes := [{ phase := .placed 64, cell := 32, ran := some 0 }] })).setSlot 64
    (some { work := .node 0 0, mode := .running })

theorem wit_drain_limit : late.cellState 32 = 1 ∧ getC 0 late.drv.cellDrain 32 < late.drv.tick ∧
    (late.slot 64).map (fun e => e.work) = some (.node 0 0) ∧ late.slot 65 = none ∧ (late.graph 0).map (fun gr => gr.committed) = some false ∧
    (late.graph 0).map (fun gr => late.roleFits (gr.tnode 0).role) = some true ∧
    (put serving [(Reg.DRV_CFG_AGE_US, 5)]).getF Reg.DRV_CFG_AGE_US ≠ 0 := by decide +kernel

/-- The memory port of clump 4 with its requesters and owner. -/
def port4 (p : Port) (owner : Nat) : State :=
  put { serving with drv := { serving.drv with ports := [(4, p)] } } [(Reg.SWD_ARB_STAT_OWNER 4, owner)]

theorem wit_ports : (port4 {} 15).hasMeadow (4 / 4) = true ∧ ((port4 {} 15).port 4).req = [] ∧ (port4 {} 15).getF (Reg.SWD_ARB_STAT_OWNER 4) = 15 ∧
    ((port4 { req := [0, 8, 3] } 0).port 4).req.Nodup ∧ (∀ r ∈ ((port4 { req := [0, 8, 3] } 0).port 4).req, r < 10) ∧
    (port4 { req := [0, 8, 3] } 0).getF (Reg.SWD_ARB_STAT_OWNER 4) = 0 ∧ clumpOf 32 = 4 ∧
    (port4 { req := [0, 3] } 0).slotsEmpty 32 = true ∧ 0x20 / 16 % 1024 ≠ 0 ∧ 0x05 / 16 % 1024 = 0 ∧ (port4 {} 15).hif.perst = false ∧
    (port4 {} 15).fullMap = true ∧ (port4 {} 15).sleepState (meadowOf 32) = 0 := by decide +kernel

/-- A graph of the running epoch that needs a PAY cell, of which meadow 1 holds the last in overlap. -/
def lastCells : State :=
  put { inCell 0 .none with drv := { (inCell 0 .none).drv with cellEpoch := [(32, 7)], graphs := [(0, some (oneNode 0x0103 0 []))] } }
    [(Reg.HIF_BALE_STATUS_OVERLAP, 1)]

theorem wit_restart_waits : lastCells.getF Reg.HIF_BALE_STATUS_OVERLAP ≠ 0 ∧ lastCells.mustWait 1 = true ∧ lastCells.mdwState 1 = 0 ∧
    (meadow 0 0 .none).mustWait 1 = false ∧ (meadow 0 2 .none).sleepState 1 = 2 ∧ (meadow 2 0 .fallow).mdwGoal 1 ≠ .restart := by decide +kernel

/-- A reload of a bale of one section, misread or not, of the command's own. -/
def reloadingBale : State :=
  { reloading with bale := { reloading.bale with adoptedHdr := zeros 18 ++ [1, 0] ++ zeros 492 }
                   drv := { reloading.drv with cmdOf := some (.meadow 1) } }

theorem wit_reload_and_selftest : reloading.badSection none = none ∧ (reloadingBale.badSection (some 0)).isSome = true ∧
    reloadingBale.drv.cmdOf = some (.meadow 1) ∧ { reloading with sky := { serving.sky with seeds := 0 } }.sky.seeds = 0 ∧
    { selftesting with drv := { selftesting.drv with mdwAuto := some 1 } }.drv.mdwAuto = some 1 ∧
    4 < ((List.range 32).filter (fun i => [32, 33, 34, 35, 36].contains (32 * 1 + i))).length ∧ getC 0 selftesting.drv.prior 33 ≤ 1 ∧
    (meadow 4 0 .fallow).mdwGoal 1 ≠ .restart ∧ (meadow 4 0 .fallow).bale.expiryNext ≠ some (1 + 1) ∧
    (put (meadow 4 0 .fallow) [(Reg.SWD_CELL_CTL_NEXT_ROLE 32, 2)]).nextRole 32 = 2 ∧
    (let s := put { inCell 4 .none with drv := { (inCell 4 .none).drv with prior := [(32, 2)] } } [(Reg.SWD_CELL_STAT_ROLE 32, 6)]
     s.cellRole 32 = 6 ∧ getC 0 s.drv.prior 32 - 1 = 1 ∧ s.roleFits 1 = true) := by decide +kernel

/-- Cell 32 serves its role alone on its die; its mismatch window is open and over. -/
theorem wit_alone_and_window : (∀ d, (inCell 0 .none).hasCell d = true → d ≠ 32 → dieOf d = dieOf 32 → (inCell 0 .none).cellState d ≠ 0) ∧
    (let s : State := { inCell 0 .none with drv := { serving.drv with winOpen := [(32, 1)], tick := 1000000 } }
     getC 0 s.drv.winOpen 32 ≠ 0 ∧ getC 0 s.drv.winOpen 32 + 1000000 ≤ s.drv.tick + 1) ∧
    getC 0 (inCell 0 .none).drv.winOpen 32 = 0 := by
  refine ⟨fun d h => ?_, by decide +kernel, by decide +kernel⟩
  have hd : d < 256 := by
    by_contra hn
    have h8 : d / 32 < 8 := of_decide_eq_true (Bool.and_eq_true _ _ ▸ h : _ ∧ _).1
    omega
  have h' : ∀ d, d < 256 → d ≠ 32 → (inCell 0 .none).cellState d ≠ 0 := by decide +kernel
  exact fun hne _ => h' d hd hne

/-- The node of cell 32 goes back past the limit of the cell's drain or of its meadow's. -/
theorem wit_drain_room : (∀ d, (late.readyList (readyKey d 1)).length < 2048) ∧ (inCell 1 .fallow).drv.tick ≤ getC 0 (inCell 1 .fallow).drv.cellDrain 32 ∧
    (let s : State := put late [(Reg.DRV_MDW_STAT_STATE 1, 1)]
     s.mdwState 1 = 1 ∧ getC 0 s.drv.mdwDrain 1 < s.drv.tick ∧ ∀ k ∈ s.drv.slots.map Prod.fst, k = 64) := by
  refine ⟨fun d => ?_, by decide +kernel, by decide +kernel⟩
  have h : late.drv.ready = [] := by decide +kernel
  simp [State.readyList, h, getC, getM]

/-- A port whose pre-empted owner, or whose requester at its limit, waits; one with Stile and refresh waiting; a new request and a stale one. -/
theorem wit_port_choices : 5 ∉ ((port4 { req := [0, 8, 3] } 0).port 4).req ∧ 3 ∈ ((port4 { req := [0, 8, 3] } 0).port 4).req ∧
    (port4 { req := [0, 8, 3] } 0).getF (Reg.SWD_ARB_STAT_OWNER 4) ≠ 3 ∧
    ((port4 { req := [0, 3, 4], preempted := some 3 } 0).port 4).preempted = some 3 ∧
    ((port4 { req := [0, 3, 4], limited := [4] } 0).port 4).limited = [4] ∧ (port4 { req := [0] } 0).getF (Reg.SWD_ARB_STAT_OWNER 4) < 8 ∧
    (port4 { req := [9, 0] } 9).getF (Reg.SWD_ARB_STAT_OWNER 4) = 9 ∧ (port4 {} 15).getF (Reg.SWD_ARB_STAT_OWNER 4) ≠ 32 % 8 ∧
    (port4 {} 15).hif.aborts = [] := by decide +kernel

theorem wit_port_waits_for_nothing (p : Port) (o n : Nat) : (port4 p o).restartWaits n = false := by
  have h : (port4 p o).drv.mdwGoal = [] := rfl
  simp [State.restartWaits, h, getC, getM]

/-! ### Acceptance, dispatch and completion -/

def tplOf (op : Nat) (nodes : List TNode) : Template := { id := 0, opcode := op, nodes, deadline := 100 }
def twoNodes : Template := tplOf 0x0103 [{ role := 1 }, { role := 1, preds := 1 }]
/-- Queue 43 is enabled and holds one descriptor for opcode `op`. -/
def holding (op : Nat) : State :=
  let w : Waiting := { desc := { opcode := op, tag := 9, prio := 3 }, tpl := tplOf op [{ role := 1 }] }
  { serving with queues := [(43, { st := .enabled, depthLog2 := 4, fetched := 1, waiting := [w] })], allots := [(5, { st := .active })]
                 drv := { serving.drv with banks := [(7, [twoNodes])] } }
def held (op : Nat) : State := put (holding op) [(Reg.HIF_STATUS_HOLD, 1)]

theorem wit_accept : (holding 0x0103).live = true ∧ ((holding 0x0103).queue 43).waiting.length = 1 ∧ (serving.queue 43).waiting = [] ∧
    (holding 0x0103).accepts 43 { opcode := 0x0103, tag := 9, prio := 3 } = true ∧ (holding 0x0103).chooseBank 0x0103 0 = some (7, twoNodes) ∧
    (∀ m, m < 8 → (holding 0x0103).restartWaits m = false) ∧ (holding 0x0103).hif.aborts = [] ∧
    (held 0x0103).accepts 43 { opcode := 0x0103, tag := 9, prio := 3 } = false ∧
    ((holding 0x01F0).queue 43).writable = true ∧ ((holding 0x01F0).allot (allotOf 43)).log.en = false ∧ (holding 0x01F0).ideDrops = false ∧
    (holding 0x01F0).hif.atsDenied = [] ∧ (holding 0x01F0).accepts 43 { opcode := 0x01F0, tag := 9, prio := 3 } = true ∧
    (∀ k, k < 16 → ((holding 0x0103).readyList k).length + 2 ≤ 2048) := by decide +kernel

/-- The queue holds a flagged descriptor and the root store is lost. -/
def flagged : State :=
  let w : Waiting := { desc := { opcode := 0x0F03 }, tpl := { tplOf 0x0F03 [] with quorum := some 0 } }
  put { holding 0x0F03 with queues := [(43, { st := .enabled, depthLog2 := 4, fetched := 1, waiting := [w] })] } [(Reg.BAR_STATUS_ROOT_OPEN, 0)]

theorem wit_flagged_waits : ((flagged.queue 43).waiting.head?).map (fun w => (w.tpl.quorum, w.pend)) = some (some 0, none) ∧
    flagged.getF Reg.BAR_STATUS_ROOT_OPEN = 0 ∧ flagged.hif.aborts = [] ∧ ∀ m, m < 8 → flagged.restartWaits m = false := by decide +kernel

theorem wit_abort : (holding 0x01F1).accepts 43 { opcode := 0x01F1, tag := 9, prio := 3 } = true ∧ isSteward 43 = false ∧ isSteward 16384 = true ∧
    (let b : Bytes := le 8 9 ++ [7, 0, 0, 0] ++ zeros 4
     b.length = 16 ∧ byteAt b 8 < 8 ∧ byteAt b 9 = 0 ∧ leAt b 10 2 = 0 ∧ leAt b 12 4 = 0) ∧
    (let b : Bytes := le 8 9 ++ [7, 1, 0xFF, 7] ++ zeros 4
     b.length = 16 ∧ byteAt b 8 < 8 ∧ byteAt b 9 = 1 ∧ leAt b 10 2 = 2047 ∧ leAt b 12 4 = 0) ∧
    byteAt (le 8 9 ++ [8, 2, 0, 8] ++ zeros 4) 8 = 8 ∧ byteAt (le 8 9 ++ [8, 2, 0, 8] ++ zeros 4) 9 = 2 ∧
    leAt (le 8 9 ++ [8, 2, 0, 8] ++ zeros 4) 10 2 = 2048 ∧ leAt (zeros 12 ++ [1, 0, 0, 0]) 12 4 = 1 ∧
    wfM (fun _ => none) (holding 0x01F1).drv.graphs = true ∧ (holding 0x01F1).pends = [] ∧ (holding 0x01F1).graph 0 = none ∧
    ((holding 0x01F1).allot (allotOf 47)).log.en = false ∧ ((holding 0x01F1).allot (allotOf 47)).log.held = [] := by decide +kernel

/-- Cell 0 serves role PAY; a graph of two nodes has its first node on the ready list. -/
def pair (phase : NodePhase) (input : Option Bytes) : Graph :=
  { qid := 43, desc := { opcode := 0x0103, inLen := 2, outLen := 8, tag := 9 }, tpl := twoNodes, prio := 3, tAcc := 0, deadline := 100, epoch := 7
    nodes := [{ phase }, {}], input }
def readied : State :=
  put ({ holding 0x0103 with
         drv := { (holding 0x0103).drv with cellEpoch := [(0, 7)], ready := [(readyKey 0 1, [{ prio := 3, work := .node 0 0, epoch := 7, since := 0 }])] } }.setGraph 0
       (some (pair (.ready 0) none)))
    [(Reg.DRV_MDW_STAT_STATE 0, 0), (Reg.SWD_CELL_STAT_STATE 0, 0), (Reg.SWD_CELL_STAT_ROLE 0, 1)]
/-- The first node runs in slot 0. -/
def running (verdict : Option Nat) : State :=
  ({ readied with drv := { readied.drv with ready := [] } }.setGraph 0 (some { pair (.placed 0) (some [1, 2]) with
    nodes := [{ phase := .placed 0, ran := some 0, verdict }, {}] })).setSlot 0 (some { work := .node 0 0, mode := .running, prio := 3, baleEpoch := 7 })
/-- The second node, the sink, runs in slot 0. -/
def sinking (committed : Bool) : State :=
  (readied.setGraph 0 (some { pair (.placed 0) (some [1, 2]) with
    nodes := [{ phase := .done, status := some 0 }, { phase := .placed 0, ran := some 0, verdict := some 0 }], committed })).setSlot 0
    (some { work := .node 0 1, mode := .running, prio := 3, baleEpoch := 7 })

theorem wit_dispatch : (∀ m, m < 8 → readied.restartWaits m = false) ∧
    readied.nextEntry 0 1 = some ({ prio := 3, work := .node 0 0, epoch := 7, since := 0 }, 0) ∧ (holding 0x0103).nextEntry 0 1 = none ∧
    readied.graph 0 = some (pair (.ready 0) none) ∧ (pair (.ready 0) none).nodes.length = 2 ∧ readied.overflow (readyKey 0 1) = [] := by
  decide +kernel

/-- Meadow 0 sleeps in S2: the dispatch wakes it. -/
theorem wit_dispatch_wakes : let s := put readied [(Reg.PWR_MDW_STAT_STATE 0, 2)]
    s.nextEntry 0 1 = some ({ prio := 3, work := .node 0 0, epoch := 7, since := 0 }, 0) ∧ s.sleepState (meadowOf 0) = 2 := by decide +kernel

theorem wit_input_and_operands : (let s := (running none).setGraph 0 (some (pair (.placed 0) none))
      s.hasRunning 0 = true ∧ (s.graph 0).map (fun gr => (gr.input, gr.committed)) = some (none, false)) ∧
    (running none).openNode 0 = some 0 ∧
    ((running none).graph 0).map (fun gr => (gr.unresolved 0, (running none).keyWait gr)) = some (false, false) ∧
    ({ pair (.placed 0) (some []) with desc := { opcode := 0x0103, key0 := 2 ^ 63 + 5 } } : Graph).unresolved 0 = true ∧
    (sinking false).denies (allotOf 43) 0 2 = false ∧
    (let s := { sinking false with hif := { (sinking false).hif with atsEn := true, atsDenied := [(some 0, 0)] } }
     s.denies (allotOf 43) 0 2 = true) ∧ (sinking false).hif.aborts = [] ∧ (∀ m, m < 8 → (sinking false).restartWaits m = false) := by
  decide +kernel

/-- An operand of node 0 is on its way to node 1, with the epochs of cell 0 or with a role epoch that has passed. -/
def sending (epoch : Nat) : State :=
  { sinking false with drv := { (sinking false).drv with msgs := [⟨0, 0, 1, 0, epoch, 7⟩] } }

theorem wit_operands : (sending 0).drv.msgs.find? (fun x => x.g == 0 && x.src == 0 && x.dst == 1) = some ⟨0, 0, 1, 0, 0, 7⟩ ∧
    (sending 0).roleEpoch 0 = 0 ∧ (sending 0).cellEpoch 0 = 7 ∧ (sending 0).drv.copies = [] ∧ (sinking false).drv.msgs = [] ∧
    (let s := (sending 255).setSlot 0 (some { work := .node 0 1, mode := .running, prio := 3, roleEpoch := 255, baleEpoch := 7 })
     (255 : Nat) ≠ s.roleEpoch 0 ∧ s.nodeSlot 0 1 = some 0 ∧ s.roleFits 1 = true ∧ (s.slot 0).map (fun e => (e.roleEpoch, e.baleEpoch)) = some (255, 7) ∧
     (∀ x ∈ s.drv.slots, x.1 = 0) ∧ ∀ l, l < 16 → (s.readyList l).length < 2048) := by decide +kernel

theorem wit_completion : (running (some 0)).nodeSlot 0 0 = some 0 ∧ (running (some 0)).withheld 0 = false ∧
    ((running (some 0)).graph 0).map (fun gr => ((gr.node 0).verdict, gr.sink)) = some (some 0, 1) ∧
    ((running (some 0x0104)).graph 0).map (fun gr => (gr.node 0).verdict) = some (some 0x0104) ∧
    (∀ k, k < 4 → k ≠ 0 → (running (some 0)).slot k = none) ∧
    (sinking false).nodeSlot 0 1 = some 0 ∧ ((sinking false).graph 0).map (fun gr => ((gr.node 1).verdict, gr.sink, (gr.node 0).status)) =
      some (some 0, 1, some 0) ∧ (running none).runningSlot 0 = some 0 ∧ ((running none).slot 0).map (fun e => e.work) = some (.node 0 0) ∧
    (running none).getF (Reg.SWD_CELL_FAULT_MISMATCH_1S 0) < 15 ∧ getC 0 (running none).drv.stopped 0 ≠ (running none).drv.tick + 1 ∧
    ((running none).graph 0).map (fun gr => decide ((running none).drv.tick ≤ gr.deadline)) = some true ∧
    (put (running none) [(Reg.SWD_CELL_FAULT_MISMATCH_1S 0, 15)]).getF (Reg.SWD_CELL_FAULT_MISMATCH_1S 0) = 15 ∧
    ((sinking true).graph 0).map (fun gr => gr.committed) = some true ∧ (sinking true).runningSlot 0 = some 0 ∧
    (running none).nodeSlot 0 1 = none := by decide +kernel

/-- An ML-DSA-65 verification of a flagged command: the node after its template's. -/
def verifying : State :=
  ((running none).setGraph 0 (some { pair (.placed 0) (some []) with
    nodes := [{ phase := .waiting }, { phase := .waiting }, { phase := .placed 0, ran := some 0 }] })).setSlot 0
      (some { work := .node 0 2, mode := .running, baleEpoch := 7 })

theorem wit_verification_ends : verifying.nodeSlot 0 2 = some 0 ∧ ¬ 2 < twoNodes.nodes.length ∧ verifying.withheld 0 = false ∧
    ∀ x ∈ verifying.drv.slots, x.1 = 0 := by decide +kernel

/-- The deadline of graph 0 has passed. A better node waits in slot 1 of cell 0. -/
def overdue : State := { running none with drv := { (running none).drv with tick := 101 } }
def bettered : State := (running none).setSlot 1 (some { work := .node 1 0, mode := .prefetched, prio := 5 })

theorem wit_deadline_and_yield : (overdue.graph 0).map (fun gr => (decide (gr.deadline < overdue.drv.tick), gr.committed, gr.qid)) =
      some (true, false, 43) ∧ (overdue.allot (allotOf 43)).st = .active ∧ bettered.runningSlot 0 = some 0 ∧
    (bettered.slot 0).map (fun e => (e.mode, e.prio)) = some (.running, 3) ∧
    (bettered.slot (otherSlot 0)).map (fun o => (o.mode, o.prio)) = some (.prefetched, 5) ∧
    bettered.yields (.node 0 0) = true ∧ bettered.runningSlot 1 = none := by decide +kernel

/-- The running cell is of ADMIN role; its firmware timer falls due. -/
def adminCell : State := put (running none) [(Reg.SWD_CELL_STAT_ROLE 0, 5)]

theorem wit_firmware_timer : adminCell.adminRuns 0 = true ∧ (running none).adminRuns 0 = false ∧ adminCell.drv.timers.length < sharedTimers ∧
    { serving with drv := { serving.drv with tick := 2, timers := [{ list := 7, due := 1, owner := .firmware 0 4 }] } }.isDue (.firmware 0 4) = true ∧
    serving.isDue (.firmware 0 4) = false := by decide +kernel

/-! ### Payment commands -/

/-- A graph whose key positions 0 and 1 hold resolved keys. -/
def keyed (op : Nat) (inp : Bytes) (k0 k1 : KeySnap) : Graph :=
  { oneNode op 43 inp with desc := { opcode := op, inLen := inp.length, outLen := 9992, key0 := 5, key1 := 6 }
                           keys := [some (.key k0), some (.key k1), none] }
def keyOf (use : Bytes) (mode : Char) (ktype : Nat) : KeySnap :=
  { slot := 0, tier := 1, ktype, key := zeros (16 + 8 * (ktype % 3)),
    attr := serving.mkAttr false use (letter 'A') (letter mode) (letter 'E') kvnNone ktype 128 0 }
/-- A PAN of 16 digits, an ISO 9564 block and a decimalisation table. -/
def panBytes : Bytes := le 1 16 ++ List.replicate 16 0x31 ++ zeros 3
def panDigits : List Nat := List.replicate 16 1
def block8 : Bytes := List.replicate 8 7 ++ zeros 8
def table16 : Bytes := asciiDigits [0, 1, 2, 3, 4, 5, 6, 7, 8, 9, 0, 1, 2, 3, 4, 5]
def pinIn (f v : Nat) (rest : Bytes) : Bytes := le 1 f ++ le 1 v ++ zeros 2 ++ panBytes ++ block8 ++ rest
/-- A KSN of the AES variant with counter 1. -/
def ksn : Bytes := zeros 11 ++ [1]
def dukptIn (u x : Nat) (rest : Bytes) : Bytes := le 1 1 ++ le 1 2 ++ le 1 u ++ le 1 x ++ ksn ++ rest
def emvIn (m : Nat) : Bytes := le 1 1 ++ le 1 0 ++ le 1 1 ++ le 1 0 ++ panBytes ++ zeros 4 ++ zeros 8 ++ le 1 m ++ zeros 15 ++ zeros 8

def pinD : KeySnap := keyOf (usage2 'P' '0') 'D' 1
def pinE : KeySnap := keyOf (usage2 'P' '0') 'E' 1
def bdk : KeySnap := keyOf (usage2 'B' '0') 'X' 5
def kbpk : KeySnap := keyOf (usage2 'K' '1') 'B' 5
def macKey (m : Char) : KeySnap := keyOf (usage2 'M' '6') m 3
def ibm (m : Char) : KeySnap := keyOf (usage2 'V' '1') m 1
def visa (m : Char) : KeySnap := keyOf (usage2 'V' '2') m 1
def cardKey (m : Char) : KeySnap := keyOf (usage2 'C' '0') m 1
def emvMaster : KeySnap := keyOf (usage2 'E' '0') 'X' 1
/-- A P-256 signing key: exportable, with no check value. -/
def plain5 : KeySnap := { keyOf (usage2 'S' '0') 'S' 0x23 with key := zeros 32 }

def paymentGraphs : List (Nat × Graph) :=
  [(0x0201, keyed 0x0201 (pinIn 0 3 []) pinD pinE), (0x0202, keyed 0x0202 (pinIn 0 4 (table16 ++ zeros 8 ++ asciiDigits [1, 2, 3, 4] ++ zeros 8)) pinD (ibm 'V')),
    (0x0203, keyed 0x0203 (pinIn 0 4 (table16 ++ zeros 8)) pinD (ibm 'G')), (0x0204, keyed 0x0204 (pinIn 0 1 (asciiDigits [1, 2, 3, 4])) pinD (visa 'V')),
    (0x0205, keyed 0x0205 (pinIn 0 1 []) pinD (visa 'G')), (0x0501, keyed 0x0501 (dukptIn 4 0 (panBytes ++ List.replicate 16 7)) bdk pinE),
    (0x0301, keyed 0x0301 (le 1 5 ++ le 1 8 ++ zeros 20) (macKey 'G') pinE), (0x0302, keyed 0x0302 (le 1 5 ++ le 1 8 ++ zeros 20) (macKey 'V') pinE),
    (0x0303, keyed 0x0303 (le 1 5 ++ le 1 8 ++ le 1 5 ++ le 1 4 ++ zeros 20) (macKey 'V') (macKey 'G')),
    (0x0401, keyed 0x0401 (panBytes ++ asciiDigits [1, 2, 3, 4, 5, 6, 7] ++ zeros 1) (cardKey 'G') pinE),
    (0x0402, keyed 0x0402 (panBytes ++ asciiDigits [1, 2, 3, 4, 5, 6, 7] ++ zeros 1 ++ asciiDigits [1, 2, 3] ++ zeros 1) (cardKey 'V') pinE)]
def moreGraphs : List (Nat × Graph) :=
  [(0x0410, keyed 0x0410 (emvIn 0) emvMaster pinE), (0x0411, keyed 0x0411 (emvIn 1) emvMaster pinE),
    (0x0502, keyed 0x0502 (dukptIn 5 8 (zeros 20)) bdk pinE), (0x0503, keyed 0x0503 (dukptIn 1 0 (zeros 32)) bdk pinE),
    (0x0504, keyed 0x0504 (le 1 1 ++ le 1 1 ++ le 1 0x44 ++ le 1 0 ++ zeros 12) bdk kbpk), (0x0602, keyed 0x0602 (le 1 1 ++ le 1 0x44 ++ zeros 2 ++ asciiDigits [0, 0] ++ zeros 2) { kbpk with ktype := 5 } plain5)]

/-- A graph whose positions hold no unresolved handle resolves to itself. -/
theorem resolveAll_resolved (s : State) (gr : Graph) (n : Nat) (h0 : gr.unresolved 0 = false) (h1 : gr.unresolved 1 = false)
    (h2 : gr.unresolved 2 = false) : s.resolveAll gr n = (gr, s) := by
  simp [State.resolveAll, State.resolvePos, h0, h1, h2]

/-- The graph placed at the sink stands in the table. -/
theorem atSink_graph (s : State) (gr : Graph) (h : s.drv.graphs = []) : (atSink s gr).graph 0 = some gr := by
  simp [atSink, State.setGraph, State.setSlot, State.graph, h, setC, setM, getC, getM_putM]

/-- What is left to check for a graph at its sink. -/
def opens (s : State) (op : Nat) (gr : Graph) : Bool :=
  (atSink s gr).live && gr.order == 0 && (atSink s gr).openNode 0 == some 0 && gr.sink == 0 && gr.desc.opcode == op && !gr.committed &&
    gr.input.isSome && decide ((atSink s gr).drv.tick ≤ gr.deadline) && !(atSink s gr).keyWait gr

theorem atSink_of_opens (s : State) (op : Nat) (gr : Graph) (hg : s.drv.graphs = []) (h : opens s op gr = true) :
    AtSink (atSink s gr) op 0 gr 0 := by
  simp only [opens, Bool.and_eq_true, beq_iff_eq, Bool.not_eq_true', decide_eq_true_eq] at h
  obtain ⟨⟨⟨⟨⟨⟨⟨⟨h1, h2⟩, h3⟩, h4⟩, h5⟩, h6⟩, h7⟩, h9⟩, h8⟩ := h
  exact ⟨h1, atSink_graph s gr hg, h2, h3, h4.symm, h5, h6, h7, h9, h8⟩

/-- The graph is at its sink, its handles resolved and distinct. -/
def ready (s : State) (p : Nat × Graph) : Bool :=
  opens s p.1 p.2 && !p.2.unresolved 0 && !p.2.unresolved 1 && !p.2.unresolved 2 && !p.2.repeats

theorem ready_sound (s : State) (p : Nat × Graph) (hg : s.drv.graphs = []) (h : ready s p = true) :
    AtSink (atSink s p.2) p.1 0 p.2 0 ∧ (atSink s p.2).resolveAll p.2 0 = (p.2, atSink s p.2) ∧ p.2.repeats = false := by
  simp only [ready, Bool.and_eq_true, Bool.not_eq_true'] at h
  obtain ⟨⟨⟨⟨h1, h2⟩, h3⟩, h4⟩, h5⟩ := h
  exact ⟨atSink_of_opens _ _ _ hg h1, resolveAll_resolved _ _ _ h2 h3 h4, h5⟩

theorem wit_payment_open : ∀ p ∈ paymentGraphs ++ moreGraphs, AtSink (atSink serving p.2) p.1 0 p.2 0 ∧
    (atSink serving p.2).resolveAll p.2 0 = (p.2, atSink serving p.2) ∧ p.2.repeats = false := by
  have h : (paymentGraphs ++ moreGraphs).all (ready serving) = true := by decide +kernel
  exact fun p hp => ready_sound serving p rfl (List.all_eq_true.mp h p hp)

theorem wit_pins : (pinIn 0 3 []).length = 40 ∧ panOf (slice (pinIn 0 3 []) 4 20) = some panDigits ∧ pinFormat 0 = true ∧ pinFormat 3 = true ∧
    pinBlockOk 0 (slice (pinIn 0 3 []) 24 16) = true ∧ panFor 0 3 (some panDigits) = some panDigits ∧
    panOne 0 true (some panDigits) = some panDigits ∧ attrUsage pinD.attr = usage2 'P' '0' ∧ attrMode pinD.attr = 'D'.toNat ∧ pinD.ktype ∈ [1, 2] ∧
    attrMode pinE.attr = 'E'.toNat ∧ serving.pairBarred 5 0 3 = false ∧ (slice table16 0 16).all isDigit = true ∧
    (serving.dectabs 5).contains table16 = true ∧ attrUsage (ibm 'V').attr = usage2 'V' '1' ∧ attrUsage (visa 'V').attr = usage2 'V' '2' ∧
    (slice (asciiDigits [1, 2, 3, 4]) 0 4).all isDigit = true ∧ (dukptIn 4 0 (panBytes ++ block8)).length = 52 ∧
    dukptHead (dukptIn 4 0 []) = true ∧ attrUsage bdk.attr = usage2 'B' '0' ∧ 2 + 1 ≤ bdk.ktype := by decide +kernel

theorem wit_macs_and_cards : serving.macBarred 5 8 = false ∧ attrUsage (macKey 'G').attr = usage2 'M' '6' ∧ attrMode (macKey 'G').attr = 'G'.toNat ∧
    (macKey 'G').ktype = 3 ∧ 'G'.toNat ≠ attrMode (macKey 'V').attr ∧ 'C'.toNat ≠ attrMode (macKey 'V').attr ∧ attrUsage (macKey 'V').attr ≠ macUse 1 ∧
    panOf (panBytes.take 20) = some panDigits ∧ panDigits ≠ [] ∧ (asciiDigits [1, 2, 3, 4, 5, 6, 7]).all isDigit = true ∧
    attrUsage (cardKey 'G').attr = usage2 'C' '0' ∧ emvHead (emvIn 0) false = true ∧ emvHead (emvIn 1) true = true ∧ (emvIn 0).length = 60 ∧
    attrUsage emvMaster.attr = usage2 'E' '0' ∧ (dukptIn 5 8 (zeros 20)).length = 36 ∧ allZero (slice (dukptIn 5 8 (zeros 20)) 24 8) = true ∧
    dukptHead (dukptIn 5 8 []) = true ∧ (zeros 16).length % 16 = 0 := by decide +kernel

/-- A key block of version D: its header says 0112 bytes, usage D0, algorithm A, mode B, version 00, exportable E. -/
def blockHead : Bytes := [0x44] ++ asciiDigits [0, 1, 4, 4] ++ usage2 'D' '0' ++ le 1 0x41 ++ le 1 0x42 ++ asciiDigits [0, 0] ++ le 1 0x45 ++
  asciiDigits [0, 0, 0, 0]
def blockIn : Bytes := le 4 1 ++ blockHead ++ List.replicate 128 0x30

theorem wit_key_blocks : blockIn.length = 148 ∧ leAt blockIn 1 3 = 0 ∧ ((parseBlock 1 (blockIn.drop 4)).elim (fun _ => 0) (fun p => p.form)) = 2 ∧
    attrUsage kbpk.attr = usage2 'K' '1' ∧ attrMode kbpk.attr = 'B'.toNat ∧ kbpk.ktype ∈ kbTypes 2 ∧ kbForm 1 0x44 = some 2 ∧
    givenOpts [] = some ([], 0) ∧ attrExport plain5.attr = letter 'E' ∧ 5 < plain5.ktype ∧ keyBlockLen 2 [] plain5 ≤ 9992 ∧
    typeSuits (usage2 'D' '0') 3 = true ∧ typeSuits (usage2 'C' '0') 2 = false ∧ modeForm 0 = true ∧ modeForm 0x42 = true ∧ modeForm 0x41 = false ∧
    (kbOpts 2 [] 0 plain5 (zeros 32)).2 ≤ 99 ∧ narrowsMode (attrMode plain5.attr) (attrMode plain5.attr) = true ∧ narrowsExport (attrExport plain5.attr) (attrExport plain5.attr) = true ∧
    serving.narrowed 5 (.noExport (attrUsage plain5.attr)) = false ∧ bdk.ktype ≤ kbpk.ktype ∧ serving.narrowed 5 (.noExport (usage2 'B' '1')) = false := by
  decide +kernel

/-! ### Public keys -/

/-- Serving, with the service pool instantiated, so that random numbers can be drawn. -/
def drawing : State := { serving with sky := { serving.sky with service := [{}, {}], seeds := 4 } }
/-- A graph that presents no handle. -/
def bare (op : Nat) (inp : Bytes) : Nat × Graph := (op, oneNode op 43 inp)
def signKey (ktype bits : Nat) (mode : Char) (use : Bytes) (len : Nat) : KeySnap :=
  { slot := 0, tier := 1, ktype, key := zeros len, attr := serving.mkAttr false use (letter 'E') (letter mode) (letter 'E') kvnNone ktype bits 0 }
def s0 : Bytes := usage2 'S' '0'
def k3 : Bytes := usage2 'K' '3'
/-- The derived-key block of an AES-256 key-encryption key. -/
def aesBlock : Bytes := usage2 'K' '0' ++ le 1 (letter 'A') ++ le 1 (letter 'E') ++ le 1 (letter 'E') ++ le 1 32 ++ zeros 2
/-- The base point of P-256, compressed, and the identity of Ed25519, which has small order. -/
def p256G : Bytes := [0x03] ++ be 32 0x6b17d1f2e12c4247f8bce6e563a440f277037d812deb33a0f4a13945d898c296

def pkGraphs : List (Nat × Graph) :=
  [bare 0x0701 (le 2 0x28 ++ s0 ++ le 1 (letter 'S') ++ le 1 (letter 'E') ++ zeros 2),
    bare 0x0801 (le 2 0x48 ++ s0 ++ le 1 (letter 'S') ++ le 1 (letter 'E') ++ zeros 2),
    (0x0702, keyed 0x0702 (le 1 1 ++ le 1 1 ++ le 1 1 ++ le 1 0 ++ zeros 32) (signKey 0x20 2048 'S' s0 640) bdk),
    (0x0711, keyed 0x0711 (le 1 0x20 ++ le 1 1 ++ le 2 0 ++ zeros 32) (signKey 0x21 256 'S' s0 32) bdk),
    bare 0x0712 (le 1 0x20 ++ le 1 1 ++ le 2 0 ++ zeros 32 ++ p256G ++ be 32 1 ++ be 32 1),
    (0x0713, keyed 0x0713 (le 1 0x20 ++ le 1 1 ++ le 1 0 ++ le 1 0 ++ aesBlock ++ p256G) (signKey 0x21 256 'X' k3 32) bdk),
    bare 0x0714 (le 4 0x20 ++ be 32 5 ++ p256G),
    (0x0721, keyed 0x0721 (le 4 0x28) (signKey 0x23 256 'S' s0 32) bdk),
    (0x0803, keyed 0x0803 (le 1 0x40 ++ le 1 1 ++ le 1 0 ++ le 1 0 ++ aesBlock ++ zeros 1088) (signKey 0x30 19200 'X' k3 2400) bdk),
    (0x0811, keyed 0x0811 (le 4 0x48 ++ zeros 8) (signKey 0x32 32256 'S' s0 4032) bdk)]
def longGraphs : List (Nat × Graph) :=
  [bare 0x0703 (le 1 1 ++ le 1 1 ++ le 1 1 ++ le 1 0 ++ zeros 32 ++ List.replicate 256 0xFF ++ zeros 256), bare 0x0722 (le 4 0x28 ++ zeros 96),
    bare 0x0802 (le 1 0x40 ++ le 1 1 ++ le 1 0 ++ le 1 0 ++ aesBlock ++ zeros 1184), bare 0x0812 (le 4 0x48 ++ zeros 5261),
    bare 0x0821 (le 4 0x50 ++ zeros 7888)]

theorem wit_public_key_open : ∀ p ∈ pkGraphs ++ longGraphs, AtSink (atSink drawing p.2) p.1 0 p.2 0 ∧
    (atSink drawing p.2).resolveAll p.2 0 = (p.2, atSink drawing p.2) ∧ p.2.repeats = false := by
  have h : (pkGraphs ++ longGraphs).all (ready drawing) = true := by decide +kernel
  exact fun p hp => ready_sound drawing p rfl (List.all_eq_true.mp h p hp)

theorem wit_draw : ∃ b u, drawing.draw (drawing.clientOf (oneNode 0x0701 43 [])) 64 = some (b, u) := by
  have h : (drawing.draw (drawing.clientOf (oneNode 0x0701 43 [])) 64).isSome = true := by decide +kernel
  exact ⟨_, _, (Option.eq_some_of_isSome h)⟩

theorem wit_key_pair : pairUse 0x28 s0 (letter 'S') = true ∧ drawing.setNarrowed 5 0x28 = false ∧ 0x20 ∉ [0x40, 0x41, 0x48] ∧
    drawing.narrowed 5 (.noNewExport (letter 'E')) = false ∧ 8 + publicLen 0x28 ≤ 9992 ∧ 8 + publicLen 0x48 ≤ 9992 ∧
    (0 < 5 ∧ 5 < ecN 0x20) ∧ beNat (slice (be 32 5 ++ zeros 96) 0 32) = 5 := by decide +kernel

theorem wit_classical : attrUsage (signKey 0x20 2048 'S' s0 640).attr = usage2 'S' '0' ∧
    attrMode (signKey 0x20 2048 'S' s0 640).attr = letter 'S' ∧ setOfType 0x20 (leAt (signKey 0x20 2048 'S' s0 640).attr 8 2) = some 1 ∧
    setOfType 0x21 256 = some 0x20 ∧ drawing.hashNarrowed 5 1 = false ∧ drawing.narrowed 5 .noPkcs = false ∧
    2 ^ (8 * 256 - 1) ≤ beNat (List.replicate 256 0xFF) ∧ beNat (List.replicate 256 0xFF) % 2 = 1 ∧ rsaBits 1 / 8 = 256 ∧ hashLen 1 = 32 ∧
    derivedBlock aesBlock = some (5, 32) ∧ ecLen 0x20 = 32 ∧ 0 < beNat (be 32 1) ∧ beNat (be 32 1) < ecN 0x20 ∧ p256G.length = 33 := by
  decide +kernel

theorem wit_points : ecPoint 0x20 p256G 0x0104 0x0302 = none ∧ ecPoint 0x20 (p256G.drop 1) 0x0104 0x0302 = some 0x0302 ∧
    xCoord (zeros 32) = true ∧ edPoint (le 32 1) 0x0104 0x0302 = some 0x0302 ∧
    edPoint (le 32 0x6666666666666666666666666666666666666666666666666666666666666658) 0x0104 0x0302 = none ∧ leAt (zeros 32) 0 32 < edL := by
  decide +kernel

theorem wit_post_quantum : 8 + 1088 ≤ 9992 ∧ setOfType 0x30 19200 = some 0x40 ∧ setOfType 0x32 32256 = some 0x48 ∧
    drawing.setNarrowed 5 0x48 = false ∧ drawing.setNarrowed 5 0x40 = false ∧
    (∀ i, i < (1184 - 32) / 3 → leAt (zeros 1184) (3 * i) 3 % 4096 < 3329 ∧ leAt (zeros 1184) (3 * i) 3 / 4096 < 3329) ∧
    ¬ (leAt ([0xFF, 0xFF, 0xFF] : Bytes) 0 3 % 4096 < 3329) := by decide +kernel

/-- Allotment 5 narrowed: Ed25519 and RSA below 3,072 bits barred, SHA-384 the least hash, PKCS #1 v1.5 and new exportable keys barred. -/
def narrowed12 : State :=
  let l : List Narrow := [.noSet 0x28, .rsaMin 3072, .hashMin 2, .noPkcs, .noNewExport (letter 'E')]
  { drawing with bale := { drawing.bale with content := { policy := l.map (fun x => { what := x }) } } }

theorem wit_narrowed_sets : narrowed12.setNarrowed 5 0x28 = true ∧ narrowed12.setNarrowed 5 1 = true ∧ narrowed12.setNarrowed 5 5 = false ∧
    narrowed12.hashNarrowed 5 1 = true ∧ narrowed12.hashNarrowed 5 2 = false ∧ narrowed12.narrowed 5 .noPkcs = true ∧
    narrowed12.narrowed 5 (.noNewExport (letter 'E')) = true ∧ (39 : Nat) < 8 + publicLen 0x28 ∧
    ¬ (0 < beNat (slice (zeros 128) 0 32)) ∧ attrMode (signKey 0x20 2048 'X' s0 640).attr ≠ letter 'S' := by decide +kernel

/-! ### Digests -/

def hmacKey (mode : Char) : KeySnap := { keyOf (usage2 'M' '7') mode 8 with key := zeros 32 }
def digestGraphs : List (Nat × Graph) :=
  [bare 0x0A01 (le 4 1 ++ zeros 8), (0x0A02, keyed 0x0A02 (le 1 1 ++ le 1 16 ++ zeros 2 ++ zeros 8) (hmacKey 'G') bdk),
    (0x0A03, keyed 0x0A03 (le 1 1 ++ le 1 16 ++ zeros 2 ++ zeros 72) (hmacKey 'V') bdk), bare 0x0A04 (le 4 1 ++ zeros 72),
    (0x0A05, keyed 0x0A05 (le 1 1 ++ le 1 0 ++ le 1 0 ++ le 1 0 ++ aesBlock) (hmacKey 'X') bdk)]

theorem wit_digest_open : ∀ p ∈ digestGraphs, AtSink (atSink drawing p.2) p.1 0 p.2 0 ∧
    (atSink drawing p.2).resolveAll p.2 0 = (p.2, atSink drawing p.2) ∧ p.2.repeats = false := by
  have h : digestGraphs.all (ready drawing) = true := by decide +kernel
  exact fun p hp => ready_sound drawing p rfl (List.all_eq_true.mp h p hp)

theorem wit_digest : attrUsage (hmacKey 'G').attr = usage2 'M' '7' ∧ attrMode (hmacKey 'X').attr = 'X'.toNat ∧ (hmacKey 'V').ktype = 8 ∧
    allZero (slice (le 1 1 ++ le 1 16 ++ zeros 2 ++ zeros 72) 20 48) = true ∧ (12 : Nat) ≤ 12 + 0 + 0 ∧ okStatus 0x0201 = false ∧
    ({ keyed 0x0A02 [] bdk bdk with keys := [some (.fail 0x0201), none, none] } : Graph).key 0 = .fail 0x0201 := by decide +kernel


/-- A stream of another length than the descriptor declares; codes, lengths and digests that are not admitted. -/
def shortStream : Graph := { oneNode 0x0A01 43 (le 4 1 ++ zeros 8) with desc := { opcode := 0x0A01, inLen := 20, outLen := 9992 } }

theorem wit_digest_lengths : AtSink (atSink drawing shortStream) 0x0A01 0 shortStream 0 ∧ NoKeys shortStream ∧ 4 ≤ shortStream.desc.inLen ∧
    shortStream.inp.length ≠ shortStream.desc.inLen ∧ byteAt (le 4 9) 0 = 9 ∧ leAt (le 1 0x18 ++ le 1 0 ++ le 2 512) 2 2 = 512 ∧
    (∀ p ∈ digestGraphs, p.2.inp.length = p.2.desc.inLen) ∧ 'G'.toNat ≠ attrMode (hmacKey 'V').attr ∧ 'C'.toNat ≠ attrMode (hmacKey 'V').attr ∧
    (32 : Nat) < 48 ∧ (12 : Nat) + 1 + 0 ≠ (le 1 1 ++ le 1 1 ++ le 1 0 ++ le 1 0 ++ aesBlock).length := by
  refine ⟨atSink_of_opens _ _ _ rfl ?_, ?_, ?_, ?_, ?_, ?_, ?_, ?_, ?_, ?_, ?_⟩ <;> (try unfold NoKeys) <;> decide +kernel

/-! ### Keys, handles and masters -/

/-- The handle of a key of allotment 5, type 5, in slot 7. -/
def handle7 (tier use : Nat) : Nat := 2 ^ 53 * 5 + 2 ^ 29 * 7 + 2 ^ 13 * use + 256 * tier + 5
def slotKey (st : SlotSt) (tier : Nat) (use : Bytes) : KSlot :=
  { st, use := 1, allot := 5, tier, ktype := 5, key := zeros 32, parent := .master 5 1,
    attr := serving.mkAttr false use (letter 'A') (letter 'B') (letter 'E') kvnNone 5 256 0 }
/-- Slot 7 holds a key of allotment 5, whose master exists. -/
def keyState (x : KSlot) : State :=
  { drawing with bar := { drawing.bar with slots := [(7, x)] }
                 root := { drawing.root with masters := [(5, { present := true, gen := 1, id := zeros 8, key := zeros 32 })] } }
def withKey (op : Nat) (inp : Bytes) (h : Nat) : Graph :=
  { oneNode op 43 inp with desc := { opcode := op, inLen := inp.length, outLen := 9992, key0 := h } }
def liveKey : State := keyState (slotKey .live 1 (usage2 'D' '0'))
def snap7 : KeySnap := ⟨7, 1, 5, zeros 32, (slotKey .live 1 (usage2 'D' '0')).attr, []⟩

theorem wit_handles : liveKey.live = true ∧ (atSink liveKey (withKey 0x0102 [] (handle7 1 1))).openNode 0 = some 0 ∧
    (atSink liveKey (withKey 0x0102 [] (handle7 1 1))).keyWait (withKey 0x0102 [] (handle7 1 1)) = false ∧
    (withKey 0x0102 [] (handle7 1 1)).unresolved 0 = true ∧ liveKey.handlePresent 43 (handle7 1 1) = true ∧
    liveKey.handlePresent 43 (handle7 1 2) = false ∧ handle7 1 1 < 2 ^ 64 ∧ handle7 1 1 / 2 ^ 29 % 2 ^ 24 = 7 ∧ handle7 1 1 / 2 ^ 53 = 5 ∧
    handle7 1 1 / 2 ^ 13 % 256 = (liveKey.kslot 7).use ∧ handle7 1 1 / 256 % 32 = (liveKey.kslot 7).tier ∧ knownType (handle7 1 1 % 256) = true ∧
    handle7 1 1 / 2 ^ 21 % 256 = liveKey.root.era ∧ (byteAt (liveKey.kslot 7).attr 10).testBit (43 % 8) = true ∧
    (byteAt (liveKey.kslot 7).attr 11).testBit 1 = true ∧ byteAt (liveKey.kslot 7).attr 13 = 0 ∧
    byteAt (liveKey.kslot 7).attr 14 &&& liveKey.lcBit ≠ 0 ∧ (liveKey.master 5).gen = 1 := by decide +kernel

theorem wit_handle_outcomes : liveKey.judgeHandle 43 1 0x0102 (handle7 1 1) = .key snap7 ∧
    liveKey.judgeHandle 43 1 0x0102 (handle7 1 2) = .fail 0x0201 ∧
    (keyState (slotKey .orphaned 1 [])).judgeHandle 43 1 0x0102 (handle7 1 1) = .fail 0x0202 ∧
    (keyState (slotKey .poisoned 1 [])).judgeHandle 43 1 0x0102 (handle7 1 1) = .fail 0x0802 ∧
    liveKey.judgeHandle stewardQ 1 0x0102 (handle7 1 1) = .fail 0x0203 ∧
    (keyState (slotKey .expired 1 (usage2 'D' '0'))).judgeHandle 43 1 0x0102 (handle7 1 1) = .fail 0x0203 := by decide +kernel

def resolved (op : Nat) (inp : Bytes) : Nat × Graph :=
  (op, { withKey op inp (handle7 1 1) with keys := [some (.key snap7), none, none] })
/-- The derived-key block of a data key of type 5, and a stored key block. -/
def generateIn : Bytes := le 1 5 ++ le 1 1 ++ zeros 2 ++ usage2 'B' '0' ++ le 1 (letter 'A') ++ le 1 (letter 'X') ++ le 1 (letter 'E') ++ le 1 32 ++ zeros 6
def storedBlock (parent : Nat) : Bytes :=
  [0x45, 0x5A, 0x4B, 0x42, 1, 0] ++ le 2 (0x60 + 32) ++ zeros 8 ++ le 2 1 ++ le 1 1 ++ le 1 parent ++ zeros 12 ++ zeros 32 ++ zeros 12 ++ le 2 0 ++ le 2 32 ++
    zeros 48
def kekPair : Nat × Graph := (0x0103, keyed 0x0103 [] snap7 { kbpk with attr := serving.mkAttr false (usage2 'K' '0') 65 (letter 'B') (letter 'E') kvnNone 5 256 0 })
def keyGraphs : List (Nat × Graph) :=
  [resolved 0x0102 [], kekPair, resolved 0x0106 [], resolved 0x0107 (zeros 4 ++ [0xFF, 0, 0, 0] ++ zeros 4), resolved 0x0108 [], resolved 0x0109 [],
    resolved 0x010A (le 1 0 ++ le 1 3 ++ zeros 2), resolved 0x010B (le 4 16 ++ zeros 16), bare 0x0101 generateIn, bare 0x0104 (storedBlock 0),
    resolved 0x0105 (storedBlock 1)]

theorem wit_keys_open : ∀ p ∈ keyGraphs, AtSink (atSink liveKey p.2) p.1 0 p.2 0 ∧
    (atSink liveKey p.2).resolveAll p.2 0 = (p.2, atSink liveKey p.2) ∧ p.2.repeats = false := by
  have h : keyGraphs.all (ready liveKey) = true := by decide +kernel
  exact fun p hp => ready_sound liveKey p rfl (List.all_eq_true.mp h p hp)

theorem wit_keys : generateIn.length = 16 ∧ derivedBlock (slice generateIn 4 8) = some (5, 32) ∧ byteAt generateIn 0 = 5 ∧
    byteAt generateIn 1 = tierFor false false ∧ (storedBlock 0).length = 0x80 ∧ leAt (storedBlock 0) 6 2 = 0x80 ∧ byteAt (storedBlock 1) 0x13 = 1 ∧
    byteAt (storedBlock 0) 0x12 = 1 ∧ leAt (storedBlock 0) 0x4E 2 = 32 ∧ (liveKey.master 5).present = true ∧
    (liveKey.master 5).id = slice (storedBlock 0) 8 8 ∧ (liveKey.master 5).gen = leAt (storedBlock 0) 0x10 2 ∧
    (liveKey.kslot 7).st ≠ .orphaned ∧ liveKey.chainBroken (liveKey.kslot 7).parent = false ∧ snap7.attr.length = 32 ∧
    attrMode snap7.attr = letter 'B' ∧ 5 ≤ snap7.ktype ∧ liveKey.narrowed 5 .kcvMax3 = false ∧ 42 + 0 ≤ 9992 := by decide +kernel

def masterGraph (op a : Nat) : Graph := oneNode op stewardQ (le 2 a ++ zeros 2)

theorem wit_masters : AtSink (atSink drawing (masterGraph 0x0120 5)) 0x0120 0 (masterGraph 0x0120 5) 0 ∧ NoKeys (masterGraph 0x0120 5) ∧
    AtSink (atSink liveKey (masterGraph 0x0121 5)) 0x0121 0 (masterGraph 0x0121 5) 0 ∧
    AtSink (atSink liveKey (masterGraph 0x0122 5)) 0x0122 0 (masterGraph 0x0122 5) 0 ∧ (drawing.master 0).present = false ∧
    ({ drawing with allots := [(5, { st := .active })] }.allot 5).st = .active ∧ (liveKey.master 5).present = true ∧
    (liveKey.master 5).gen < 0xFFFF := by
  refine ⟨atSink_of_opens _ _ _ rfl ?_, ?_, atSink_of_opens _ _ _ rfl ?_, atSink_of_opens _ _ _ rfl ?_, ?_, ?_, ?_, ?_⟩ <;>
    (try unfold NoKeys) <;> decide +kernel

/-- An invalidation of master 5 at pass `p`; the expiry of slot 7 is due; the root is being recovered. -/
def invalidating (p : Nat) : State := { liveKey with bar := { liveKey.bar with inval := [{ root := .master 5, pass := p }] } }
def expiring : State := { liveKey with drv := { liveKey.drv with tick := 2, timers := [{ list := 1, due := 1, owner := .keyExpiry 7 }] } }
def recoveringRoot : State := { drawing with bar := { drawing.bar with recovering := true } }

theorem wit_invalidation_and_recovery : liveKey.bar.inval = [] ∧ (invalidating 0).bar.inval ≠ [] ∧ (0 : Nat) < 2 ∧
    (∃ gen, (liveKey.kslot 7).parent = .master 5 gen) ∧ expiring.isDue (.keyExpiry 7) = true ∧ liveKey.isDue (.keyExpiry 7) = false ∧
    (expiring.kslot 7).st = .live ∧ liveKey.bar.recovering = false ∧ recoveringRoot.bar.recovering = true ∧
    (recoveringRoot.draw 10 48).isSome = true ∧ serving.draw 10 48 = none := by
  refine ⟨?_, ?_, ?_, ⟨1, ?_⟩, ?_, ?_, ?_, ?_, ?_, ?_, ?_⟩ <;> first | rfl | decide +kernel

/-- Under a nonce of zeros and any key, 32 zero bytes with their tag open, and with some other tag do not. -/
theorem wit_stored_block_opens (key aad : Bytes) :
    (∃ k, gcmOpen key (zeros 12) aad (zeros 32 ++ gcmTag key (zeros 12) aad (zeros 32)) = some k) ∧
    ∃ t, t.length = 16 ∧ gcmOpen key (zeros 12) aad (zeros 32 ++ t) = none := by
  have hz : (zeros 32).length = 32 := rfl
  have cut (t : Bytes) (ht : t.length = 16) : gcmOpen key (zeros 12) aad (zeros 32 ++ t) =
      if gcmTag key (zeros 12) aad (zeros 32) != t then none else gcmCrypt key (zeros 12) (zeros 32) := by
    simp [gcmOpen, ht, hz]
  refine ⟨?_, ?_⟩
  · rw [cut _ (gcmTag_length ..)]
    have hj : gcmJ0 key (zeros 12) = zeros 12 ++ be 4 1 := rfl
    have hr : (LaneCtr.ofBlock 32 (be 16 (beNat (zeros 12 ++ be 4 1) / 2 ^ 32 * 2 ^ 32 + (beNat (zeros 12 ++ be 4 1) + 1) % 2 ^ 32))).refuses 2 = false := by
      decide +kernel
    have hs : (((Lane.load 1 key).count 32 (be 16 (beNat (zeros 12 ++ be 4 1) / 2 ^ 32 * 2 ^ 32 +
        (beNat (zeros 12 ++ be 4 1) + 1) % 2 ^ 32))).stream 2).isSome = true := by
      simp only [Lane.stream, Lane.count, Lane.load]
      rw [hr]
      rfl
    simp only [bne_self_eq_false, Bool.false_eq_true, if_false, gcmCrypt, hj, ctrCrypt]
    obtain ⟨x, hx⟩ := Option.isSome_iff_exists.mp hs
    exact ⟨_, by rw [show ((zeros 32).length + bsize 1 - 1) / bsize 1 = 2 from rfl, hx]; rfl⟩
  · by_cases h : gcmTag key (zeros 12) aad (zeros 32) = zeros 16
    · refine ⟨List.replicate 16 1, rfl, ?_⟩
      rw [cut _ rfl, h]
      rfl
    · refine ⟨zeros 16, rfl, ?_⟩
      rw [cut _ rfl, if_pos]
      simpa using h

/-- Handles absent, masters missing, keys of the wrong world; a second key generation form; a check value too long for its buffer. -/
theorem wit_key_sides : ({ liveKey with bar := { liveKey.bar with slots := [] } }).handlePresent 43 (handle7 1 1) = false ∧
    (drawing.master 5).present = false ∧ tierFor false false ≠ tierFor true false ∧ (2 : Nat) < 3 ∧
    (storedBlock 0 ++ [0]).length ≠ leAt (storedBlock 0 ++ [0]) 6 2 ∧
    { liveKey with root := { liveKey.root with masters := [(5, { present := true, gen := 0xFFFF })] } }.master 5 = { present := true, gen := 0xFFFF } ∧
    (invalidating 2).bar.inval = [{ root := .master 5, pass := 2 }] ∧
    ({ liveKey with bale := { liveKey.bale with content := { policy := [{ what := .kcvMax3 }] } } }).narrowed 5 .kcvMax3 = true ∧
    ({ keyState { slotKey .live 1 (usage2 'D' '0') with parent := .kek 9 4 } with drv := drawing.drv }).chainBroken (.kek 9 4) = true := by decide +kernel

/-! ### Random numbers -/

/-- Source 3 has passed 300 blocks; step 7 is reached. -/
def sourced (excl : Bool) (fails : List Nat) : State :=
  { drawing with sky := { drawing.sky with step7 := true, srcs := [(3, { blocks := 300, up := 300, passed := true, excl, fails })] } }
def alternating : List Bool := (List.range 1024).map (fun i => i % 2 == 0)
def stuck : List Bool := List.replicate 1024 true
def stalledNode : State :=
  { atSink drawing (oneNode 0x0901 43 (le 2 16 ++ zeros 2)) with
    drv := { (atSink drawing (oneNode 0x0901 43 (le 2 16 ++ zeros 2))).drv with tick := 50000 }
    sky := { drawing.sky with stalls := [(.node 0, 0)] } }
def reseeding (seeds : Nat) (r : Bool) : State := { drawing with sky := { drawing.sky with service := [{ count := 65536, reseeding := r }], seeds } }

theorem wit_noise : alternating.length = 1024 ∧ stuck.length = 1024 ∧ 3 ≤ (sourced false []).bale.step ∧ (sourced false []).sky.step7 = true ∧
    ((sourced true [300]).src 3).excl = true ∧ stuck.count true = 1024 ∧ alternating.count true = 512 ∧ alternating.head? = some true ∧
    (sourced false []).getF Reg.SKY_STATUS_SUPPLY = 0 ∧ drawing.sky.service[0]? = some ⟨0, false⟩ ∧ (reseeding 1 false).sky.service[0]? = some ⟨65536, false⟩ ∧
    0 < (reseeding 1 false).sky.seeds ∧ drawing.sky.serving = [] ∧ drawing.sky.next < drawing.sky.service.length ∧
    (drawing.draw 5 16).isSome = true ∧ serving.draw 5 16 = none ∧ stalledNode.stalledOut (.node 0) = true ∧
    drawing.stalledOut (.node 0) = false ∧ (∀ m, m < 8 → stalledNode.restartWaits m = false) := by decide +kernel

theorem wit_random : AtSink (atSink drawing (bare 0x0901 (le 2 16 ++ zeros 2)).2) 0x0901 0 (bare 0x0901 (le 2 16 ++ zeros 2)).2 0 ∧
    AtSink (atSink drawing (bare 0x0902 (le 2 16 ++ zeros 2)).2) 0x0902 0 (bare 0x0902 (le 2 16 ++ zeros 2)).2 0 ∧
    drawing.sky.freshIdx = some 0 ∧ serving.sky.freshIdx = none ∧ drawing.shown ∧ drawing.sky.buffer = 0 ∧
    0 < { drawing.sky with buffer := 3 }.buffer ∧ drawing.sky.request.isSome = true ∧ serving.sky.request = none ∧
    (put drawing [(Reg.HIF_STATUS_ENTROPY_READY, 1)]).getF Reg.HIF_STATUS_ENTROPY_READY = 1 := by
  refine ⟨atSink_of_opens _ _ _ rfl ?_, atSink_of_opens _ _ _ rfl ?_, ?_, ?_, ⟨⟨?_, ?_⟩, ?_⟩, ?_, ?_, ?_, ?_, ?_⟩ <;> decide +kernel

/-- An expander instance, of the service pool or of a client, that is due to reseed; it and one that is not. -/
def clientDue (x : Drbg) : State := { drawing with lc := { drawing.lc with nonce := [1] }, sky := { drawing.sky with clients := [(2, some x)] } }

theorem wit_reseeds : drawing.lc.nonce = [] ∧ (clientDue {}).lc.nonce ≠ [] ∧ getC none (clientDue { count := 65536 }).sky.clients 2 = some ⟨65536, false⟩ ∧
    0 < (clientDue {}).sky.seeds ∧ getC none (clientDue { reseeding := true }).sky.clients 2 = some ⟨0, true⟩ ∧
    getC none (clientDue {}).sky.clients 2 = some ⟨0, false⟩ ∧ (reseeding 0 true).sky.service[0]? = some ⟨65536, true⟩ ∧
    (put (sourced false []) [(Reg.SKY_STATUS_SUPPLY, 1)]).getF Reg.SKY_STATUS_SUPPLY ≠ 0 ∧ (3 : Nat) % 32 ≤ 16 ∧ 16 < (17 : Nat) % 32 ∧
    (put drawing [(Reg.HIF_STATUS_ENTROPY_READY, 0)]).getF Reg.HIF_STATUS_ENTROPY_READY = 0 ∧
    (stalledNode.graph 0).map (fun gr => gr.committed) = some false ∧ (stalledNode.sky.stalls.any (fun y => y.1 == .node 0)) = true := by decide +kernel

/-- A flagged command of queue 43 stalls for its nonce; the data buffer has a request under way. -/
def stalledQueue : State :=
  let w : Waiting := { desc := { opcode := 0x0F03, flags := 1 }, tpl := { tplOf 0x0F03 [] with quorum := some 0 } }
  { drawing with queues := [(43, { st := .enabled, depthLog2 := 4, fetched := 1, waiting := [w] })], allots := [(5, { st := .active })]
                 sky := { drawing.sky with stalls := [(.queue 43, 0)] }, drv := { drawing.drv with tick := 50000 } }

theorem wit_stalled_queue : stalledQueue.stalledOut (.queue 43) = true ∧
    ((stalledQueue.queue 43).waiting.map (fun w => (w.pend, w.tpl.quorum.isSome))) = [(none, true)] ∧ (stalledQueue.queue 43).writable = true ∧
    (stalledQueue.allot (allotOf 43)).log.en = false ∧ stalledQueue.ideDrops = false ∧ stalledQueue.hif.atsDenied = [] ∧
    (drawing.sky.request.map (fun k => k.service.any (fun x => decide (x.count < 1048576)))) = some true ∧ drawing.sky.buffer < 256 := by decide +kernel

/-! ### Furrow frames and port groups -/

/-- A frame of 64 bytes with the EtherType `et`. -/
def frame (et : Nat) : Bytes := zeros 12 ++ be 2 et ++ zeros 50
/-- Group 0 in state `st`, port 0 up on both sides. -/
def ported (st : Nat) : State :=
  put serving [(Reg.FUR_PG_STAT_STATE 0, st), (Reg.FUR_PORT_STAT_LINK_UP 0, 1), (Reg.FUR_PORT_STAT_LINK_UP 16, 1)]
/-- Rule 0 of group 0 bypasses egress frames, rule 1 ingress frames, where both match all frames of port 0. -/
def ruled (action : Nat) : State :=
  put (ported 0) [(Reg.FUR_RULE_DW0_VALID 0, 1), (Reg.FUR_RULE_DW0_ACTION 0, action), (Reg.FUR_RULE_DW0_PORT_MASK 0, 1), (Reg.FUR_RULE_DW0_TAGS 0, 3),
    (Reg.FUR_RULE_DW5_CHANNEL 0, 2), (Reg.FUR_RULE_DW0_VALID 1, 1), (Reg.FUR_RULE_DW0_ACTION 1, 1), (Reg.FUR_RULE_DW0_DIR 1, 1),
    (Reg.FUR_RULE_DW0_PORT_MASK 1, 1), (Reg.FUR_RULE_DW0_TAGS 1, 3), (Reg.FUR_PORT_CFG_MKA_EN 16, 1)]
/-- A MACsec frame with PN 1 and AN 0, without SCI. -/
def secured : Bytes := zeros 12 ++ [0x88, 0xE5, 0x0C, 0] ++ be 4 1 ++ zeros 64
/-- Channel 3 is the default receive channel of port 0, channel 2 a transmit channel; each has association 0 installed. -/
def channelled : State :=
  let s := put (ruled 2) [(Reg.FUR_CH_DW0_VALID 3, 1), (Reg.FUR_CH_DW0_DIR 3, 1), (Reg.FUR_CH_DW0_DEFAULT 3, 1), (Reg.FUR_SA_DW0_ENABLE 12, 1),
    (Reg.FUR_SA_DW0_STATE 12, 1), (Reg.FUR_CH_DW0_VALID 2, 1), (Reg.FUR_CH_DW8_ENC_VALID 2, 1), (Reg.FUR_SA_DW0_STATE 8, 1)]
  { s with fur := { s.fur with sas := [(8, { key := zeros 16, salt := zeros 12, pn := 5, next := 5 }), (12, { key := zeros 16, salt := zeros 12, pn := 1, next := 1 })] } }

theorem wit_frames : (ported 0).live = true ∧ (ported 0).portExists 0 = true ∧ (∀ st, st < 6 → (ported st).pgState 0 = st) ∧
    (frame 0x0800).length = 64 ∧ (ported 0).getF (Reg.FUR_PORT_STAT_LINK_UP 0) = 1 ∧ (ported 0).getF (Reg.FUR_PORT_STAT_LINK_UP 1) = 0 ∧
    etherType (frame 0x8808) = 0x8808 ∧ etherType (frame 0x0800) ≠ 0x8808 ∧ 64 + 4 ≤ (ported 0).getF (Reg.FUR_PORT_CFG_MAX_FRAME 0) ∧
    (ported 0).flightsAt 0 = [] ∧ (ported 0).classify 0 0 (frame 0x0800) = .drop ∧ (ruled 1).classify 0 0 (frame 0x0800) = .bypass ∧
    (ruled 2).classify 0 0 (frame 0x0800) = .protect 2 0 ∧ (ruled 2).getF (Reg.FUR_CH_DW0_VALID 2) = 0 ∧
    64 + 24 ≤ (ruled 1).bufSize 0 ∧ (ruled 1).getF (Reg.FUR_PORT_CFG_FC_MODE 0) = 0 ∧ (ruled 1).classify 1 0 (frame 0x0800) = .bypass ∧
    etherType (frame 0x888E) = 0x888E ∧ (ruled 1).getF (Reg.FUR_PORT_CFG_MKA_EN 16) = 1 ∧ 0 < (ruled 1).getF (Reg.FUR_PORT_CFG_DIVERT_RATE 16) ∧
    ((ruled 1).readyList (readyKey 0 4)).length < 2048 := by decide +kernel

theorem wit_secured : etherType secured = 0x88E5 ∧ (readTag secured 12).map (fun x => (x.pn, x.an, x.sc, x.len)) = some (1, 0, false, 8) ∧
    readTag (frame 0x88E5) 12 = none ∧ (readTag secured 12).bind (fun x => (ruled 2).findRx 0 x (slice secured 6 6)) = none ∧
    (readTag secured 12).bind (fun x => channelled.findRx 0 x (slice secured 6 6)) = some 3 ∧ channelled.getF (Reg.FUR_SA_DW0_ENABLE 12) = 1 ∧
    channelled.saState 12 ≠ 0 ∧ channelled.recoverPn 12 1 ≠ 0 ∧ channelled.getF (Reg.FUR_CH_DW0_REPLAY 3) = 1 ∧
    (channelled.sa 12).pn ≤ 1 ∧ (channelled.sa 12).seen = [] ∧
    (put channelled [(Reg.FUR_CH_DW0_REPLAY 3, 0)]).getF (Reg.FUR_CH_DW0_REPLAY 3) = 0 := by decide +kernel

/-- A far-side frame of port 0 waits for its verdict. -/
def verdictDue (valid check : Bool) (window : Nat) : State :=
  let s := put channelled [(Reg.FUR_PG_MISMATCH_WINDOW 0, window)]
  let r : RxFrame := { pn := 1, valid, conf := false, check, replay := false, win := 0, commons := false, octets := 40 }
  { s with fur := { s.fur with flights := [(16, [{ data := zeros 64, assoc := some 12, rx := some r }])] } }
def departing : State :=
  { ruled 1 with fur := { (ruled 1).fur with flights := [(0, [{ data := zeros 64, held := 88 }])], winAt := [(0, some 0)] } }

theorem wit_verdicts : ((verdictDue true false 0).flightsAt 16).map (fun f => (f.assoc, f.rx.map (fun r => (r.valid, r.commons)))) =
      [(some 12, some (true, false))] ∧ (verdictDue true false 15).getF (Reg.FUR_PG_MISMATCH_WINDOW 0) = 15 ∧
    (departing.flightsAt 0).length = 1 ∧ (ruled 1).flightsAt 0 = [] ∧ getC none departing.fur.winAt 0 = some 0 ∧
    { departing with drv := { departing.drv with tick := 1000 } }.drv.tick = 0 + 1000 ∧ departing.drv.tick < 0 + 1000 := by decide +kernel

/-- Shadows of rule 0 and of the channel at 0x800000. -/
def shadowed (dw0 : Nat) : State := { ported 3 with fur := { serving.fur with shadow := [(0x640000, dw0)].map (fun x => (x.1, some x.2)) } }
def accumulating : State := { channelled with fur := { channelled.fur with acc := [(0, [{ assoc := 12, updates := 3, sa := [1], ch := [1] }])] } }

theorem wit_port_groups : (ported 3).shown ∧ (ported 3).lc.variant.hasFurrow = true ∧ (ported 3).getF Reg.PWR_CLK_STATUS_REF156_OK = 0 ∧
    (put (ported 3) [(Reg.PWR_CLK_STATUS_REF156_OK, 1)]).getF Reg.PWR_CLK_STATUS_REF156_OK = 1 ∧
    (∀ p, p < 8 → (ported 1).flightsAt p = [] ∧ (ported 1).flightsAt (16 + p) = []) ∧ getC false (ported 4).fur.kat 0 = false ∧
    0x3D0 / 16 % 64 = 61 ∧ 0x3C0 / 16 % 64 = 60 ∧ (ported 3).getF (Reg.FUR_PORT_CFG_MAX_FRAME 0) ≠ 1500 ∧ 64 ≤ 1500 ∧
    (shadowed 1).shadowF (Reg.FUR_RULE_DW0_VALID 0) = 1 ∧ (shadowed 1).shadowF (Reg.FUR_RULE_DW0_ACTION 0) = 0 ∧
    (getC [] accumulating.fur.acc (accumulating.chGroup 3)).map (fun x => x.assoc) = [12] := by
  refine ⟨⟨⟨?_, ?_⟩, ?_⟩, ?_, ?_, ?_, ?_, ?_, ?_, ?_, ?_, ?_, ?_, ?_, ?_⟩ <;> decide +kernel

/-- The verdict of a frame of the Commons, of one whose PN was seen, and in a mismatch window that is open, full or over. -/
def verdictOf (r : RxFrame) : State :=
  let s := verdictDue true false 0
  { s with fur := { s.fur with flights := [(16, [{ data := zeros 64, assoc := some 12, rx := some r }])]
                               sas := [(12, { key := zeros 16, salt := zeros 12, pn := 1, next := 3, seen := [2] })] } }

theorem wit_verdict_sides : let r : RxFrame := { pn := 2, valid := true, conf := false, check := true, replay := true, win := 2, commons := false, octets := 40 }
    (verdictOf r).flightsAt 16 = [{ data := zeros 64, assoc := some 12, rx := some r }] ∧ 2 ∈ ((verdictOf r).sa 12).seen ∧
    { r with commons := true }.commons = true ∧ { r with valid := false, conf := true }.conf = true ∧
    { r with valid := false, check := true, conf := false }.check = true ∧ (verdictDue true false 15).winOver 0 = false ∧
    (let s : State := { verdictDue true false 3 with fur := { (verdictDue true false 3).fur with winAt := [(0, some 0)] }, drv := { serving.drv with tick := 1000 } }
     s.winOver (0 / 8) = true) ∧ (verdictDue true false 3).winOver (0 / 8) = false ∧
    (verdictDue true false 3).getF (Reg.FUR_PG_MISMATCH_WINDOW 0) < 15 ∧ (departing.flightsAt 16).all (fun f => f.rx.isNone) = true := by decide +kernel

/-- Port 0 has diverted as many frames as its rate lets it. -/
def rateReached : State := { ruled 1 with fur := { (ruled 1).fur with diverts := [(0, List.replicate ((ruled 1).getF (Reg.FUR_PORT_CFG_DIVERT_RATE 16)) 0)] } }

/-- An EAPOL frame beyond the diversion rate; a frame larger than the elastic buffer; rules and settings that are refused. -/
theorem wit_port_group_sides :
    ((getC [] (rateReached.fur.diverts) 0).filter (fun x => decide (rateReached.drv.tick < x + 10000))).length =
      rateReached.getF (Reg.FUR_PORT_CFG_DIVERT_RATE 16) ∧ ¬ ((ruled 1).bufSize 0 < (frame 0x0800).length + 24) ∧
    (let s := put (ruled 1) [(Reg.FUR_PG_STAT_MODE 0, 3)]
     s.bufSize 0 < 9100 + 24 ∧ 9100 + 4 ≤ s.getF (Reg.FUR_PORT_CFG_MAX_FRAME 0)) ∧ getC false { (ported 4).fur with kat := [(0, true)] }.kat 0 = true ∧
    (shadowed 7).shadowF (Reg.FUR_RULE_DW0_ACTION 0) ≠ (shadowed 1).shadowF (Reg.FUR_RULE_DW0_ACTION 0) ∧
    (9217 : Nat) ≠ (ported 3).getF (Reg.FUR_PORT_CFG_MAX_FRAME 0) ∧ (ported 3).getF (Reg.FUR_PORT_STAT_LINK_UP 0) = 1 ∧
    (ported 0).portExists 8 = true ∧ (∀ d, ((ruled 1).readyList (readyKey d 4)).length < 2048) := by
  refine ⟨?_, ?_, ?_, ?_, ?_, ?_, ?_, ?_, fun d => ?_⟩
  all_goals first
    | decide +kernel
    | (have h : (ruled 1).drv.ready = [] := by decide +kernel
       simp [State.readyList, h, getC, getM])

/-! ### Channels, associations and MKA -/

/-- The shadow of channel 3 with its first dword `dw0`; of association 12 with its first dword. -/
def chShadow (s : State) (dw0 : Nat) : State := { s with fur := { s.fur with shadow := [(0x8000C0, some dw0)] } }

theorem wit_channels : (3 : Nat) < 16384 ∧ channelled.shown ∧ channelled.lc.variant.hasFurrow = true ∧
    (chShadow channelled (channelled.getF (Reg.FUR_CH_DW0_VALID 3))).shadowF (Reg.FUR_CH_DW0_VALID 3) = 1 ∧
    channelled.shadowF (Reg.FUR_CH_DW0_PORT 3) / 8 = channelled.shadowF (Reg.FUR_CH_DW0_PG 3) ∧
    channelled.shadowF (Reg.FUR_CH_DW0_CONF_OFF 3) ≠ 3 ∧ channelled.shadowF (Reg.FUR_CH_DW3_REPLAY_WIN 3) ≤ 2 ^ 30 ∧
    channelled.validChannels = [2, 3] ∧ channelled.saState 12 = 1 ∧ (∀ n, n < 4 → serving.saState (4 * 3 + n) = 0) ∧
    (∃ f ∈ chFixed 3, (chShadow channelled 0).shadowF f ≠ channelled.getF f) := by
  refine ⟨?_, ⟨⟨?_, ?_⟩, ?_⟩, ?_, ?_, ?_, ?_, ?_, ?_, ?_, ?_, ⟨Reg.FUR_CH_DW0_DIR 3, ?_, ?_⟩⟩ <;> decide +kernel

theorem wit_associations : channelled.getF (Reg.FUR_CH_DW0_DIR (12 / 4)) = 1 ∧ channelled.getF (Reg.FUR_CH_DW0_DIR (8 / 4)) = 0 ∧
    channelled.shadowPn 12 = (channelled.sa 12).pn ∧ channelled.shadowF (Reg.FUR_SA_DW0_ENABLE 12) = 1 ∧
    channelled.shadowF (Reg.FUR_SA_DW0_ENABLE 8) = 0 ∧ 0x80 / 64 % 4 = 2 ∧ 0x80 / 16 % 4 = 0 ∧ 0xC0 / 64 % 4 = 3 ∧
    channelled.getF (Reg.FUR_CH_DW8_ENC_VALID 2) = 1 ∧ channelled.getF (Reg.FUR_CH_DW8_ENC_AN 2) = 0 ∧
    (put channelled [(Reg.FUR_SA_DW0_STATE 9, 1)]).saState (4 * 2 + 1) = 1 := by decide +kernel

/-- Channel 2 has a switch armed to AN 1. -/
def armed : State :=
  let s := put channelled [(Reg.FUR_SA_DW0_STATE 9, 1)]
  { s with fur := { s.fur with arms := [(2, some (1, 2, 0))] } }

theorem wit_protection : channelled.classify 0 0 (frame 0x0800) = .protect 2 0 ∧ channelled.getF (Reg.FUR_CH_DW0_VALID 2) = 1 ∧
    channelled.getF (Reg.FUR_CH_DW0_KIND 2) ≠ 1 ∧ channelled.arm 2 = none ∧ armed.arm 2 = some (1, 2, 0) ∧
    channelled.saState 8 = 1 ∧ (put channelled [(Reg.FUR_SA_DW0_STATE 8, 3)]).saState 8 = 3 ∧ (channelled.sa 8).pn = 5 ∧
    channelled.lastPn 2 ≠ 5 ∧ channelled.exhThresh 2 ≠ 5 := by decide +kernel

/-- A SAK for association 13, which is not in use; the CAK of an instance on port 0. -/
def sak : KeySnap :=
  { slot := 0, tier := 1, ktype := 0x43, key := zeros 32, attr := (serving.mkAttr false (usage2 '9' '0') 0 (letter 'X') (letter 'N') kvnNone 0x43 256 0).set 12 2 }
def cak : KeySnap := keyOf (usage2 '9' '0') 'X' 0x40
def mkaIn (persist : Nat) : Bytes :=
  zeros 2 ++ le 2 2 ++ le 2 3 ++ le 1 16 ++ le 1 persist ++ le 2 0 ++ le 1 4 ++ zeros 5 ++ asciiDigits [1, 2, 3, 4] ++ zeros 28
def linkGraphs : List (Nat × Graph) :=
  [(0x0B11, keyed 0x0B11 (le 2 13 ++ le 1 1 ++ zeros 1 ++ zeros 24) sak bdk), bare 0x0B12 (le 2 13 ++ le 1 1 ++ zeros 53),
    bare 0x0B13 (le 2 13 ++ zeros 2), bare 0x0B14 (le 2 2 ++ le 1 1 ++ le 1 2 ++ zeros 8), (0x0B01, keyed 0x0B01 (mkaIn 0) cak bdk),
    (0x0B04, keyed 0x0B04 (mkaIn 1) cak bdk), bare 0x0B02 (zeros 4), bare 0x0B05 (zeros 4), bare 0x0B03 (zeros 4),
    bare 0x0B20 (zeros 4 ++ le 4 12 ++ le 4 1), (0x0B31, keyed 0x0B31 blockIn kbpk bdk)]

theorem wit_link_open : ∀ p ∈ linkGraphs, AtSink (atSink channelled p.2) p.1 0 p.2 0 ∧
    (atSink channelled p.2).resolveAll p.2 0 = (p.2, atSink channelled p.2) ∧ p.2.repeats = false := by
  have h : linkGraphs.all (ready channelled) = true := by decide +kernel
  exact fun p hp => ready_sound channelled p rfl (List.all_eq_true.mp h p hp)

theorem wit_link : (attrPaths sak.attr).testBit 1 = true ∧ attrMode sak.attr = letter 'X' ∧ attrUsage sak.attr = usage2 '9' '0' ∧
    channelled.getF (Reg.FUR_CH_DW0_SUITE 3) % 2 = 1 ∧ sak.key.length = 32 ∧ (channelled.getF (Reg.FUR_SA_DW0_ENABLE 13) = 0) ∧
    serving.root.linkMaster = none ∧ (put channelled [(Reg.FUR_SA_DW0_STATE 9, 1)]).armBad 2 1 2 = none ∧
    channelled.armBad 2 1 2 = some 0x0B02 ∧ (mkaIn 0).length = 48 ∧ byteAt (mkaIn 1) 7 = 1 ∧ byteAt (mkaIn 0) 10 = 4 ∧
    allZero ((mkaIn 0).drop 20) = true ∧ attrUsage cak.attr = usage2 '9' '0' ∧ channelled.mkaFree = some 0 ∧
    channelled.getF (Reg.FUR_CH_DW0_PORT 2) = 0 ∧ channelled.root.persist.length < 128 ∧ channelled.drv.timers.length < 61440 := by decide +kernel

/-- Instance 0 on port 0; a frame waits in cell 0; the timer of kind 1 is due. -/
def instanced (persist : Bool) : State :=
  { channelled with fur := { channelled.fur with mka := [(0, some { port := 0, txc := 2, rxc := 3, prio := 16, hello := 2000, ckn := [0x31], cak := zeros 16, persist })] } }
def received (w : Work) : State := (instanced false).setSlot 0 (some { work := w, mode := .running })
def timed (kind : Nat) : State :=
  let s := put (instanced false) [(Reg.DRV_MDW_STAT_STATE 0, 0), (Reg.SWD_CELL_STAT_STATE 0, 0), (Reg.SWD_CELL_STAT_ROLE 0, 4)]
  { s with drv := { s.drv with tick := 2, timers := [{ list := 0, due := 1, owner := .mka 0 kind }] } }

theorem wit_mka : ((instanced true).mka 0).map (fun y => (y.persist, y.port)) = some (true, 0) ∧ channelled.mka 0 = none ∧
    (received (.frame 0 [])).runningSlot 0 = some 0 ∧ (received (.node 0 0)).runningSlot 0 = some 0 ∧ (timed 1).isDue (.mka 0 1) = true ∧
    (timed 1).isDue (.mka 0 0) = false ∧ (timed 1).mkaCell ≠ none ∧ channelled.mkaCell = none ∧
    channelled.statBad 0 12 = false ∧ ((parseBlock 1 (blockIn.drop 4)).elim (fun _ => 0) (fun p => p.form)) ≠ 1 := by decide +kernel

/-- A port group that runs and one that is stopped; no free timer; instance 0's peer is known or not; its other slots hold nothing. -/
theorem wit_link_sides (p : Bool) : (instanced p).pgState 0 = 0 ∧ (put (instanced p) [(Reg.FUR_PG_STAT_STATE 0, 3)]).pgState 0 = 3 ∧
    (∀ y, (instanced p).mka 0 = some y → y.peer = none) ∧
    ({ instanced p with drv := { serving.drv with timers := List.replicate 61440 ⟨0, 1, .keyExpiry 0⟩ } }.drv.timers.length = 61440) ∧
    (∀ j x, (received (.frame 0 [])).slot j = some x → x.mode ≠ .prefetched) ∧
    (∀ i, i < 4096 → { instanced p with fur := { channelled.fur with mka := [] } }.mka i = none) := by
  refine ⟨?_, ?_, ?_, ?_, ?_, ?_⟩
  · cases p <;> decide +kernel
  · cases p <;> decide +kernel
  · intro y h
    have : (instanced p).mka 0 = some { port := 0, txc := 2, rxc := 3, prio := 16, hello := 2000, ckn := [0x31], cak := zeros 16, persist := p } := rfl
    rw [this] at h
    cases h
    rfl
  · exact List.length_replicate
  · intro j x h
    by_cases hj : j = 0
    · subst hj
      have : (received (.frame 0 [])).slot 0 = some { work := .frame 0 [], mode := .running } := rfl
      rw [this] at h
      cases h
      decide
    · have : (received (.frame 0 [])).slot j = none := by
        show getC none [(0, some ({ work := .frame 0 [], mode := .running } : SlotEnt))] j = none
        simp [getC, getM, Ne.symm hj]
      rw [this] at h
      cases h
  · intro i _
    rfl

/-- Association 12 is in use or not, statistics are zeroed, and a record is poisoned. -/
theorem wit_link_more : (∃ x ∈ (verdictDue true false 0).fur.flights, ∃ f ∈ x.2, f.assoc = some 12) ∧ channelled.fur.flights = [] ∧
    (channelled.arm (13 / 4) = none) ∧ (put channelled [(Reg.FUR_CH_DW8_ENC_VALID 2, 0)]).getF (Reg.FUR_CH_DW8_ENC_VALID 2) = 0 ∧
    armed.drv.tick = 0 ∧ ((armed.arm 2).map (fun x => x.2.1)) = some 2 ∧ (∀ x ∈ [1, 2, 3, 4], (x : Nat) ≤ 4096) ∧
    (∃ w, { channelled with root := { channelled.root with linkMaster := some (zeros 32) } }.root.linkMaster = some w) ∧
    (timed 2).isDue (.mka 0 2) = true ∧ (channelled.sa 12).last + 10000 > channelled.drv.tick := by
  refine ⟨⟨(16, (verdictDue true false 0).flightsAt 16), ?_, ?_⟩, ?_, ?_, ?_, ?_, ?_, ?_, ⟨zeros 32, rfl⟩, ?_, ?_⟩
  · exact List.mem_singleton.mpr rfl
  · exact ⟨_, List.mem_singleton.mpr rfl, rfl⟩
  all_goals decide +kernel

/-! ### Thatch and Hedgerow -/

/-- Engine 0 holds counter block 0, whose line 3 has the minor counter `m` in a block of major `major`. -/
def storedLines (m major : Nat) (x : Engine) : State :=
  let b : CtrBlock := { major, minors := (List.replicate 128 0).set 3 m }
  let y : Engine := { x with keys := some [], blocks := [(0, some b)], data := [(3, List.replicate 64 7)] }
  { serving with tha := { engines := [(0, y)] } }
/-- The address of line 3, and one in neither stack. -/
def line3 : Nat := 192

theorem wit_thatch : thaLine line3 = some (0, 3) ∧ 0x380000000 ≤ 0x390000000 ∧ 0x390000000 < 0x400000000 ∧ serving.live = true ∧
    (storedLines 0 0 {}).thaReady 0 = true ∧ (put (storedLines 0 0 {}) [(Reg.THA_STATUS_E_READY, 0)]).thaReady 0 = false ∧
    3 / 128 ∈ ((storedLines 0 0 { rewriting := [0] }).engine 0).rewriting ∧ ((storedLines 0 0 {}).engine 0).rewriting = [] ∧
    (serving.engine 0).block (3 / 128) = none ∧ ((storedLines 0 0 {}).engine 0).block (3 / 128) ≠ none ∧
    ((storedLines 0 0 { poison := [(3, true)] }).engine 0).isPoison 3 = true ∧ ((storedLines 0 0 {}).engine 0).isPoison 3 = false ∧
    ((storedLines 0 0 { frozen := [(3, true)] }).engine 0).isFrozen 3 = true ∧ ((storedLines 0 0 {}).engine 0).isFrozen 3 = false ∧
    ((((storedLines 7 5 {}).engine 0).block 0).getD {}).minors[3]? = some 7 ∧ ((((storedLines 7 5 {}).engine 0).block 0).getD {}).minors.length = 128 ∧
    ((((storedLines 7 (2 ^ 53 - 1) {}).engine 0).block 0).getD {}).major = 2 ^ 53 - 1 := by decide +kernel

theorem wit_thatch_graphs : (let s := atSink (storedLines 0 0 {}) (oneNode 0x0103 43 [])
      (s.graph 0).map (fun gr => gr.committed) = some false ∧ s.openNode 0 = some 0) ∧
    (put serving [(Reg.THA_SCRUB_CFG_PERIOD_H, 0)]).getF Reg.THA_SCRUB_CFG_PERIOD_H = 0 ∧ serving.getF Reg.THA_SCRUB_CFG_PERIOD_H ≠ 0 ∧
    serving.thaBusy 0 (scrubData 3) = false ∧ (put serving [(Reg.THA_STATUS_E_READY, 0)]).thaReady 0 = false ∧ serving.gorse.swale = none ∧
    8 ≤ serving.bale.step ∧ (serving.engine 0).keys = none ∧ (drawing.draw 10 96).isSome = true ∧
    ((storedLines 0 0 {}).engine 0).keys ≠ none ∧ ((storedLines 0 0 {}).engine 0).held = [] := by decide +kernel

/-- A region that lets any master read and write the first 64 KiB, in both worlds. -/
def region : Region := { base := 0, limit := 0xFFFF, perm := 7, masters := 0xF, world := 3, attr := 0 }
/-- Hub unit 256 with its set enabled or not; cell 0 runs work of the tenant world in role PAY. -/
def hedged (enabled : Nat) (l : List Region) : State :=
  put { serving with hdg := { serving.hdg with sets := [(512, l)] } } [(Reg.HDG_U_STAT_ENABLED 256, enabled)]
def cellHedged (active : Nat) (l : List Region) : State :=
  let gr := oneNode 0x0103 43 []
  let s := put (atSink serving gr) [(Reg.HDG_U_STAT_ENABLED 0, 1), (Reg.HDG_U_STAT_ACTIVE_SET 0, active), (Reg.SWD_CELL_STAT_ROLE 0, 1)]
  { s with bale := { s.bale with content := { s.bale.content with hedge := [(2, l)] } }, hdg := { s.hdg with sets := [(1, l)], tags := [(1, 3)] } }

theorem wit_hedgerow : serving.hasUnit 256 = true ∧ (hedged 0 []).getF (Reg.HDG_U_STAT_ENABLED 256) ≠ 1 ∧
    (hedged 1 [region]).getF (Reg.HDG_U_STAT_ENABLED 256) = 1 ∧ (hedged 1 [region]).neededTag 256 = none ∧ setOk [region] = true ∧
    (hedged 1 [region]).ruleSet 256 ((hedged 1 [region]).activeSet 256) = [region] ∧ region.perm.testBit 1 = true ∧
    region.masters.testBit 2 = true ∧ region.world.testBit 1 = true ∧ (hedged 1 []).ruleSet 256 0 = [] ∧
    (cellHedged 0 [region]).neededTag 0 = some 3 ∧ (cellHedged 0 [region]).setTag 0 0 ≠ 3 ∧ (cellHedged 0 [region]).setTag 0 (1 - 0) = 3 ∧
    (cellHedged 1 [region]).setTag 0 1 = 3 ∧ (cellHedged 0 [region]).loadWork 0 = some (.node 0 0) ∧ serving.loadWork 0 = none ∧
    (cellHedged 0 [region]).cellRole 0 = 1 ∧ setOk ((cellHedged 0 [region]).taggedSet 3) = true ∧
    setOk [region, region] = false ∧ serving.hasUnit 258 = true ∧ serving.hasUnit 259 = false ∧
    (put serving [(Reg.HDG_U_STAT_UPDATING 256, 1)]).getF (Reg.HDG_U_STAT_UPDATING 256) = 1 ∧ getC [] serving.hdg.held 256 = [] := by decide +kernel

/-- The scrubber over a MAC line, over a node and the root of a stack's tree; the block below written or not; a block being rewritten. -/
def scrubbing (p : Nat) (s : State) : State := put s [(Reg.THA_SCRUB_POS_LINE 0, p)]

theorem wit_scrub : (scrubbing 0xE000000 serving).getF (Reg.THA_SCRUB_POS_LINE 0) = 0xE000000 ∧
    (scrubbing 0xFC00000 serving).getF (Reg.THA_SCRUB_POS_LINE 0) = 0xFC00000 ∧ (serving.engine 0).block 0 = none ∧
    ((storedLines 0 0 {}).engine 0).block 0 ≠ none ∧ nodeAt 0xFC00000 = some (0, 0) ∧ nodeAt 0xFDC0000 = some (1, 0) ∧
    nodeAt 0xFFFFFFF = some (7, 0) ∧ (storedLines 0 0 {}).thaBusy 0 (scrubData 0xFC00000) = false ∧
    (storedLines 0 0 { rewriting := [0] }).thaBusy 0 (scrubData 0xE000000) = true ∧ 0 ∈ ({ rewriting := [0] } : Engine).rewriting ∧
    (64 : Nat) ≤ (zeros 64).length ∧ ¬ ((1 : Nat) = 0) := by decide +kernel

/-- A burst of two granules, the second beyond the region; rules not loaded for the work of a cell that is in or out of service. -/
theorem wit_hedgerow_sides : (0xFFC0 % 64 + 128 + 63) / 64 = 2 ∧ region.limit / 64 < (0xFFC0 / 64 + 1) * 64 / 64 ∧ region.base / 64 ≤ 0xFFC0 / 64 ∧
    (0 : Nat).testBit 0 = false ∧ (let s := put serving [(Reg.SWD_CELL_STAT_STATE 0, 3)]; s.cellState 0 = 3 ∧ s.hasUnit 0 = true) ∧
    (put serving [(Reg.SWD_CELL_STAT_STATE 0, 0)]).cellState 0 = 0 ∧ (hedged 1 []).activeSet 256 < 2 ∧
    (cellHedged 0 [region, region]).setTag 0 0 ≠ 3 ∧ setOk ((cellHedged 0 [region, region]).taggedSet 3) = false := by decide +kernel

/-! ### Gorse -/

/-- Monitors 6 and 7 are sampled with the responses `r6` and `r7`. -/
def watched (r6 r7 : Nat) : State :=
  put serving [(Reg.GOR_MON_CFG_ENABLED 6, 1), (Reg.GOR_MON_CFG_RESP 6, r6), (Reg.GOR_MON_CFG_ENABLED 7, 1), (Reg.GOR_MON_CFG_RESP 7, r7)]
def alarmed6 : State := put (watched 1 1) [(Reg.GOR_ALARM_ALARM, 64)]
/-- A swale of kind `kind` is under way; a Halt waits for it. -/
def swaling (kind mon : Nat) (halt : Option Nat) : State :=
  { watched 3 3 with gorse := { serving.gorse with swale := some ⟨kind, mon, 3⟩, haltMon := halt } }
def halted : State := { watched 3 3 with pwr := { serving.pwr with halted := true } }

theorem wit_trips : serving.pwr.on = true ∧ serving.pwr.reset = false ∧ serving.pwr.halted = false ∧ (watched 1 1).sampled 6 = true ∧
    (watched 1 1).alarmed 6 = false ∧ alarmed6.alarmed 6 = true ∧ (∀ r, r < 7 → (watched r 0).resp 6 = r) ∧ serving.lc.st ≠ 3 ∧
    serving.lc.st ≠ 4 ∧ serving.gorse.ledger.length < 4095 ∧ serving.gorse.peat.length + 2 ≤ 64 ∧ (watched 2 1).resp 6 = 2 ∧
    (watched 2 1).resp 7 ≠ 3 ∧ serving.gorse.swale = none ∧ serving.gorse.haltMon = none ∧ serving.lc.check = none ∧ serving.lc.memTest = none ∧
    (swaling 2 6 (some 7)).gorse.haltMon = some 7 ∧ (swaling 1 0xFF none).gorse.swale = some ⟨1, 0xFF, 3⟩ ∧ 9 ≤ serving.bale.step ∧
    serving.getF Reg.BAR_STATUS_ROOT_OPEN = 1 ∧ serving.lc.job = none ∧ halted.pwr.halted = true ∧ State.reset.pwr.on = false ∧
    State.reset.pwr.vin = false ∧ serving.up := by
  refine ⟨?_, ?_, ?_, ?_, ?_, ?_, ?_, ?_, ?_, ?_, ?_, ?_, ?_, ?_, ?_, ?_, ?_, ?_, ?_, ?_, ?_, ?_, ?_, ?_, ?_, ?_, ?_⟩ <;> decide +kernel

/-- A test of channel 0 of monitor 3 runs; the interval has passed; the main supply is away; a record waits. -/
def testing : State := { watched 1 1 with gorse := { serving.gorse with bist := some (3, 0) } }
def overdueTest : State :=
  { serving with cairn := { serving.cairn with opTime := 3600000 * serving.getF Reg.GOR_BIST_CFG_INTERVAL_H } }
def away (trips : List Nat) (peat : List Bytes) : State :=
  { State.reset with pwr := { State.reset.pwr with peatLost := false }, lc := { State.reset.lc with st := 2 }
                     gorse := { State.reset.gorse with backupTrips := trips, peat } }
def recording : State := { serving with gorse := { serving.gorse with peat := [zeros 12] } }

theorem wit_built_in_tests : testing.gorse.bist = some (3, 0) ∧ (3 : Nat) < 18 ∧ serving.gorse.bist = none ∧ (watched 1 1).sampled 6 = true ∧ (0 : Nat) < 2 ∧
    (∃ x ∈ testing.bistAll, x ∉ (3, 0) :: testing.gorse.passed) ∧ overdueTest.gorse.overdue = false ∧
    overdueTest.gorse.fullAt + 3600000 * overdueTest.getF Reg.GOR_BIST_CFG_INTERVAL_H ≤ overdueTest.cairn.opTime ∧
    (put serving [(Reg.GOR_MON_CFG_ENABLED 17, 1)]).sampled 17 = true ∧ recording.gorse.peat ≠ [] ∧ recording.gorse.ledger.length ≠ 4094 := by
  refine ⟨?_, ?_, ?_, ?_, ?_, ⟨(0, 0), ?_, ?_⟩, ?_, ?_, ?_, ?_, ?_⟩ <;> decide +kernel

theorem wit_backup : (away [] []).pwr.vin = false ∧ (away [] []).pwr.on = false ∧ (away [] []).pwr.peatLost = false ∧ (away [] []).lc.st = 2 ∧
    6 ∉ [0, 1, 2, 3, 4, 5, 8, 9] ∧ (away [] []).gorse.backupTrips = [] ∧ (away [0] []).gorse.backupTrips = [0] ∧ 8 ∉ [0] ∧
    serving.pwr.vin = true := by decide +kernel

/-- A trip of Hold that joins a swale in one sample; a swale is taken further, or a Halt pending takes a swale; the ledger is all but full. -/
theorem wit_trip_sides : (watched 1 2).resp 6 = 1 ∧ (watched 1 2).resp 7 = 2 ∧ (watched 3 1).resp 6 = 3 ∧ (watched 2 3).resp 7 = 3 ∧
    (swaling 1 6 none).gorse.haltMon = none ∧ (6 : Nat) < 26 ∧ (1 : Nat) < (swaling 1 6 none).resp 7 - 1 ∧ (swaling 2 6 none).resp 7 - 1 ≤ 2 ∧
    { serving with lc := { serving.lc with st := 3 } }.lc.st = 3 ∧ (3 : Nat) < 13 ∧ ¬ (13 : Nat) < 13 ∧ serving.pwr.vin = true ∧
    (put { swaling 1 6 none with bale := { serving.bale with step := 7 } } [(Reg.BAR_STATUS_ROOT_OPEN, 1)]).getF Reg.BAR_STATUS_ROOT_OPEN = 1 ∧
    { swaling 2 6 none with bale := { serving.bale with running := some 0 } }.bale.running ≠ none ∧
    (let s : State := { recording with gorse := { recording.gorse with ledger := List.replicate 4094 [] } }
     s.gorse.ledger.length = 4094) := by
  refine ⟨?_, ?_, ?_, ?_, ?_, ?_, ?_, ?_, ?_, ?_, ?_, ?_, ?_, ?_, ?_⟩
  all_goals first
    | exact List.length_replicate
    | decide +kernel

/-- Every channel but one has passed; the Peat buffer is full, or holds up to 62 records. -/
theorem wit_test_sides : let s : State := { testing with gorse := { testing.gorse with passed := testing.bistAll.filter (fun x => x != (3, 0)), failedCh := [(3, 1)] } }
    (∀ x ∈ s.bistAll, x ∈ (3, 0) :: s.gorse.passed) ∧ s.gorse.failedCh.any (fun x => x != (3, 0) && x.1 == 3) = true ∧
    (away [] (List.replicate 64 [])).gorse.peat.length = 64 ∧ (away [] (List.replicate 62 [])).gorse.peat.length ≤ 62 ∧ (0 : Nat) < 8 ∧
    (let t : State := { serving with gorse := { serving.gorse with overdue := true } }; t.gorse.overdue = true) := by decide +kernel

/-! ### Cairn -/

/-- The open block has a record, nothing waits; `c` changes the rest. -/
def logged (c : Cairn) : State := { serving with cairn := { c with fresh := false } }
def frozenLog (c : Cairn) : State := put (logged c) [(Reg.CRN_STATUS_FROZEN, 1)]
def fullBlock : CairnBlock := { seq := 1, recs := List.replicate 34 ⟨0, 0x1010, 0, 0, 0, zeros 112⟩ }
def roomless (unspilled : List Nat) : State := logged { ring := [(0, fullBlock)], unspilled, nextSeq := 2 }
def windowed (count suppressed : Nat) : State :=
  let s := logged { windows := [⟨0x2010, 5, count, suppressed, 0⟩] }
  { s with drv := { s.drv with tick := 2, timers := [{ list := 3, due := 1, owner := .cairn 0x2010 5 }] } }

theorem wit_events : serving.live = true ∧ (logged {}).cairn.queue = [] ∧ (logged {}).cairn.dropped = 0 ∧ (logged {}).getF Reg.CRN_STATUS_FROZEN = 0 ∧
    unlimited 0x1010 = true ∧ unlimited 0x4003 = false ∧ ((logged {}).cairn.block 0).used + 16 + pad8 8 ≤ 4080 ∧
    4080 < (fullBlock.used + 8 + pad8 8) ∧ (roomless [1]).cairn.head = 0 ∧ 1 ∈ (roomless [1]).cairn.unspilled ∧
    (roomless []).cairn.unspilled = [] ∧ serving.drv.timers.length < 61440 ∧ (windowed 1 0).cairn.windows = [⟨0x2010, 5, 1, 0, 0⟩] ∧
    1 < ((logged {}).cairn.rate 0x2010).2 ∧ ((logged {}).cairn.rate 0x2010).2 ≤ 100000 ∧ (windowed 1 0).isDue (.cairn 0x2010 5) = true ∧
    (windowed 1 7).isDue (.cairn 0x2010 6) = false ∧ (logged {}).cairn.rates = [] := by decide +kernel

theorem wit_freeze : (frozenLog {}).getF Reg.CRN_STATUS_FROZEN = 1 ∧ (frozenLog {}).cairn.tally = [] ∧
    (frozenLog { tally := [⟨0x2010, 5, 1, 0, 0⟩] }).cairn.tally.length < 64 ∧
    (frozenLog { queue := List.replicate 256 ⟨0x1001, 0, [], 0⟩ }).cairn.queue.length = 256 ∧ (frozenLog { opTime := 100 }).cairn.frozenAt + 100 ≤ 100 ∧
    (frozenLog {}).hif.perst = false ∧ (logged { load := some (.ring 3) }).cairn.load = some (.ring 3) ∧
    (logged { load := some (.flash 3) }).cairn.load = some (.flash 3) ∧ (logged {}).cairn.load = none := by decide +kernel

def spilling (target : Nat) : State :=
  put { logged { unspilled := [2], spillPos := 5 } with bale := { serving.bale with target } } [(Reg.CRN_STATUS_SPILLING, 1), (Reg.HIF_BALE_STATUS_STAGE, 1)]

theorem wit_spill : (spilling 1).getF Reg.CRN_STATUS_SPILLING = 1 ∧ (spilling 1).cairn.spillPos / 4080 = 0 ∧
    getC false (spilling 1).bale.deviceBad 0 = false ∧ (spilling 1).bale.target = 1 ∧ (spilling 0).getF Reg.HIF_BALE_STATUS_STAGE = 1 ∧
    (spilling 1).cairn.unspilled = [2] ∧ (logged {}).getF Reg.CRN_STATUS_SPILLING = 0 ∧ (logged {}).up ∧
    (put (logged {}) [(Reg.CRN_RD_SEL_SECTOR, 255)]).getF Reg.CRN_RD_SEL_SECTOR = 255 ∧ (logged {}).getF Reg.CRN_RD_SEL_SECTOR ≠ 255 ∧
    (logged {}).cairn.windows = [] := by
  refine ⟨?_, ?_, ?_, ?_, ?_, ?_, ?_, ⟨?_, ?_⟩, ?_, ?_, ?_⟩ <;> decide +kernel

/-- No timer is free for a window; 224 entries of no reserved code wait for room, and a window that closes has a summary. -/
def untimed : State := { logged {} with drv := { serving.drv with timers := List.replicate 61440 ⟨0, 1, .keyExpiry 0⟩ } }
def waitingLog : State :=
  logged { ring := [(0, fullBlock)], unspilled := [1], nextSeq := 2, queue := List.replicate 224 ⟨0x1010, 0, zeros 112, 0⟩ }

theorem wit_event_limits : untimed.drv.timers.length = 61440 ∧ untimed.cairn.windows = [] ∧ (0x4002 : Nat) ≠ 0x2011 ∧
    (untimed.cairn.block untimed.cairn.head).used + 32 + pad8 8 ≤ 4080 ∧ untimed.cairn.queue = [] ∧ unlimited 0x4002 = false ∧
    unlimited 0x2011 = false := by
  refine ⟨List.length_replicate, ?_, ?_, ?_, ?_, ?_, ?_⟩
  · rfl
  all_goals decide +kernel

theorem wit_held_events : waitingLog.getF Reg.CRN_STATUS_FROZEN = 0 ∧ (waitingLog.cairn.queue.head?).map (fun e => e.code) = some 0x1010 ∧
    4080 < (waitingLog.cairn.block waitingLog.cairn.head).used + 8 + pad8 112 ∧ (waitingLog.cairn.head + 1) % 256 ∈ waitingLog.cairn.unspilled ∧
    224 ≤ (waitingLog.cairn.queue.filter (fun x => !reservedCode x.code)).length ∧ reservedCode 0x1010 = false ∧ reservedCode 0xB001 = true ∧
    (frozenLog { tally := List.replicate 64 ⟨0x2010, 5, 1, 0, 0⟩ }).cairn.tally.length = 64 ∧
    (frozenLog { tally := [⟨0x2011, 5, 1, 0, 0⟩], opTime := 100 }).cairn.sums = [] ∧
    (windowed ((logged {}).cairn.rate 0x2010).2 7).cairn.windows = [⟨0x2010, 5, ((logged {}).cairn.rate 0x2010).2, 7, 0⟩] ∧
    (spilling 0).bale.target = 0 ∧ { (spilling 0).bale with deviceBad := [(1, true)] }.deviceBad = [(1, true)] ∧
    (logged {}).cairn.rate 0x4004 = (1000, 32) := by decide +kernel

/-! ### The Commons -/

/-- Member 0 of a Commons of two members whose roster is loaded; member 1 has the entry of 32 sevens. -/
def memberOf : State :=
  put { drawing with root := { drawing.root with cmn := { member := true, self := 0, gen := 3, id := zeros 16, rosterKey := zeros 32,
                                                          replicas := [⟨1, 5, 2, zeros 8, zeros 32⟩] } }
                     cmn := { drawing.cmn with roster := [(1, sevens)] } }
    [(Reg.CMN_STATUS_ROSTER_LOADED, 1)]
/-- A session with member 1, open or opening. -/
def sessionState (opening : Bool) : State :=
  { memberOf with cmn := { memberOf.cmn with sess := [{ peer := 1, num := 4, opening, rx := 9 }] } }
def stewardGraph (op : Nat) (inp : Bytes) : Nat × Graph := (op, oneNode op stewardQ inp)
def header : Bytes := [0x45, 0x5A, 0x43, 0x4D, 1, 3] ++ zeros 26
def commonsGraphs : List (Nat × Graph) :=
  [stewardGraph 0x0C01 [], stewardGraph 0x0C02 (zeros 32), stewardGraph 0x0C06 [], stewardGraph 0x0C07 (le 4 1), stewardGraph 0x0C08 [],
    stewardGraph 0x0C10 (le 4 1), stewardGraph 0x0C11 (zeros 49), stewardGraph 0x0C12 (le 4 1), stewardGraph 0x0C20 (le 2 5 ++ le 2 1 ++ zeros 4),
    stewardGraph 0x0C21 (zeros 8 ++ le 4 5), stewardGraph 0x0C22 (zeros 8), stewardGraph 0x0C23 (zeros 8 ++ le 4 1 ++ le 2 1), bare 0x0C01 []]

theorem wit_commons_open : ∀ p ∈ commonsGraphs, AtSink (atSink memberOf p.2) p.1 0 p.2 0 ∧
    (atSink memberOf p.2).resolveAll p.2 0 = (p.2, atSink memberOf p.2) ∧ p.2.repeats = false := by
  have h : commonsGraphs.all (ready memberOf) = true := by decide +kernel
  exact fun p hp => ready_sound memberOf p rfl (List.all_eq_true.mp h p hp)

/-- The three long inputs. -/
theorem wit_commons_long : AtSink (atSink memberOf (stewardGraph 0x0C03 (le 4 2 ++ zeros 17280)).2) 0x0C03 0 (stewardGraph 0x0C03 (le 4 2 ++ zeros 17280)).2 0 ∧
    AtSink (atSink drawing (stewardGraph 0x0C04 (zeros 34560)).2) 0x0C04 0 (stewardGraph 0x0C04 (zeros 34560)).2 0 ∧
    AtSink (atSink memberOf (stewardGraph 0x0C09 (zeros 524336)).2) 0x0C09 0 (stewardGraph 0x0C09 (zeros 524336)).2 0 ∧
    (zeros 524336).length = 524336 := by
  refine ⟨atSink_of_opens _ _ _ rfl ?_, atSink_of_opens _ _ _ rfl ?_, atSink_of_opens _ _ _ rfl ?_, List.length_replicate⟩ <;> rfl

theorem wit_commons : memberOf.cmn.join = none ∧ isSteward stewardQ = true ∧ isSteward 43 = false ∧ memberOf.root.cmn.member = true ∧
    drawing.root.cmn.member = false ∧ memberOf.getF Reg.CMN_STATUS_ROSTER_LOADED = 1 ∧ (drawing.draw 10 48).isSome = true ∧
    memberOf.entry 1 ≠ zeros 32 ∧ memberOf.entry 2 = zeros 32 ∧ memberOf.keeper = 0 ∧ memberOf.changeGoes = true ∧
    memberOf.peerEntry 1 = some sevens ∧ memberOf.peerEntry 2 = none ∧ memberOf.cmnSess 1 = none ∧ (sessionState false).cmnSess 1 ≠ none ∧
    memberOf.cmn.failed = [] ∧ memberOf.cmn.waiting = [] ∧ cmnRead (zeros 49) = none ∧ memberOf.heldGen (zeros 8) = some 2 ∧
    memberOf.heldGen sevens = none ∧ (memberOf.master 5).present = false ∧ (liveKey.master 5).present = true ∧
    memberOf.lc.variant.hasPqc = true ∧ { memberOf.lc with variant := .h1700 }.variant.hasPqc = false := by decide +kernel

/-- A message from member 1 is at the front of the inbox. -/
def inboxed (m : CmnMsg) : State :=
  { memberOf with cmn := { memberOf.cmn with inbox := [⟨1, 4, m⟩], last := some ⟨3, 0, 2, zeros 32, zeros 32⟩, moves := [(1, zeros 8)],
                                             invites := [⟨1, sevens, 10⟩] } }
def handshaking : State := { memberOf with cmn := { memberOf.cmn with hs := [⟨1, 4, 2, 0, 0, [1]⟩] } }
def timedCmn (kind : Nat) (opening lost : Bool) : State :=
  { sessionState opening with cmn := { memberOf.cmn with sess := [{ peer := 1, num := 4, opening, lost }] }
                              drv := { drawing.drv with tick := 10 ^ 9, timers := [{ list := 0, due := 1, owner := .cmn kind 1 }] } }

theorem wit_messages : (inboxed .heartbeat).live = true ∧ (inboxed .heartbeat).cmn.join = none ∧ (inboxed .heartbeat).fur.toCmn = [] ∧
    (inboxed .heartbeat).cmn.waiting = [] ∧ memberOf.cmn.inbox = [] ∧ (inboxed .join).cmn.inbox = [⟨1, 4, .join⟩] ∧
    (inboxed .join).peerEntry 1 = some sevens ∧
    { inboxed .join with cmn := { (inboxed .join).cmn with roster := [], invites := [] } }.peerEntry 1 = none ∧
    (inboxed .join).cmn.invites.find? (fun v => v.index == 1 && decide ((inboxed .join).cairn.opTime ≤ v.until_)) = some ⟨1, sevens, 10⟩ ∧
    (inboxed .join).keeper = 0 ∧ (inboxed (.bound (zeros 8))).cmn.moves = [(1, zeros 8)] ∧ (inboxed .request).root.cmn.replicas.length < 192 ∧
    (inboxed (.change 2 sevens)).entry 2 = zeros 32 ∧ wfM (fun _ => ({} : Master)) memberOf.root.masters = true ∧
    handshaking.wholeHs = some (1, 4, 2, [1]) ∧ handshaking.roleUp 3 = false ∧ memberOf.wholeHs = none ∧
    (timedCmn 0 false false).isDue (.cmn 0 1) = true ∧ (timedCmn 1 false false).isDue (.cmn 1 1) = true ∧
    (timedCmn 1 false false).isDue (.cmn 0 1) = false ∧ 0 + 5000 * (timedCmn 1 false false).getF Reg.CMN_CFG_HB_MS ≤ 10 ^ 9 ∧
    ((timedCmn 1 true false).cmnSess 1).map (fun x => x.opening) = some true ∧ ((timedCmn 1 false true).cmnSess 1).map (fun x => x.lost) = some true := by
  decide +kernel

/-- The relay queue is full: changes that go by the relay wait. The keeper is another member, or the module itself. -/
def relaying (n self : Nat) : State :=
  { memberOf with root := { memberOf.root with cmn := { memberOf.root.cmn with self } }
                  cmn := { memberOf.cmn with routes := [(1, true)], sess := [{ peer := 1, num := 4, opening := false }], outQ := List.replicate n [] } }

theorem wit_relay_room : (relaying 256 0).relayRoom (relaying 256 0).changePeers = false ∧ (relaying 256 0).changeGoes = false ∧
    (relaying 0 0).relayRoom (relaying 0 0).changePeers = true ∧ (relaying 0 0).keeper = 0 ∧ (relaying 0 2).keeper ≠ 2 ∧
    ([1].filter (relaying 256 0).byRelay = [1]) ∧ ¬ ((relaying 256 0).cmn.outQ.length + 1 ≤ 256) ∧ (relaying 0 0).cmn.outQ.length + 1 ≤ 256 ∧
    (relaying 0 0).cmn.waiting = [] := by decide +kernel

theorem wit_commons_sides : ((0, 1) ∈ { memberOf with cmn := { memberOf.cmn with failed := [(0, 1)] } }.cmn.failed) ∧
    (sessionState true).cmnSess 1 ≠ none ∧ (List.replicate 4096 ({ peer := 2, num := 4 } : CmnSess)).length = 4096 ∧
    ((inboxed .request).root.cmn.replicas.any (fun r => r.id == zeros 8)) = true ∧ (memberOf.allot 5).st ≠ .active ∧
    ({ memberOf with allots := [(5, { st := .quiesced })] }.allot 5).st = .quiesced ∧ (zeros 8) ≠ sevens ∧
    (32768 : Nat).testBit 15 = true ∧ (49152 : Nat).testBit 14 = true ∧ (inboxed (.update 4 0 2 sevens [])).root.cmn.gen + 1 = 4 ∧
    ((inboxed (.update 3 1 2 sevens [])).cmn.last.map (fun l => (l.gen, l.keeper, l.index))) = some (3, 0, 2) ∧
    (inboxed (.roster 4 [])).root.cmn.self < 16384 := by
  refine ⟨?_, ?_, List.length_replicate, ?_, ?_, ?_, ?_, ?_, ?_, ?_, ?_, ?_⟩
  all_goals decide +kernel

/-! ### Ill-formed commands: each check refuses a term -/

theorem test_ill_formed_1 : ([.registerWrite 1 0 0,
    .registerWrite 0x4000000 0 0,
    .registerWrite 0 256 0,
    .registerWrite 0 0 (2 ^ 64),
    .rcRead false 0x4000000 4,
    .rcRead false 4 0,
    .rcRead false 2 3,
    .latchedRead true 2 8,
    .romStart true [2] [],
    .romStart true [] [(2, .signer)],
    .channelRefused 0 8,
    .fullService [256],
    .operatingTimeTick 65536 0 0 false false,
    .operatingTimeTick 0 65536 0 false false,
    .operatingTimeTick 0 0 4096 false false,
    .holdupDischarged 65536,
    .s3Access 1 false,
    .levelStepComplete 8,
    .pwrReqLevelWrite 0 4,
    .droopStretchBegin 41 0,
    .s1Entry 32,
    .sqTailWrite 16392 0,
    .sqTailWrite 0 4096,
    .cqHeadWrite 0 4096,
    .bar2StrayWrite 0 1,
    .bar2StrayWrite 0 4096,
    .nodeDispatch 2 0] : List Instr).all (fun c => !c.wellFormed) = true := by decide +kernel

theorem test_ill_formed_2 : ([.nodeDispatch 0 8,
    .keyResolve 0 3,
    .msixUnmask 8193,
    .linkChange 7 0 false,
    .linkChange 0 3 false,
    .spdmGetCertificate false [] 8 0 0,
    .spdmGetCertificate false [] 0 65536 0,
    .spdmGetCertificate false [] 0 0 65536,
    .ideKmKeyProg [] 0 9 0 0,
    .ideKmKeyProg [] 0 0 3 0,
    .ideKmKeyProg [] 0 0 0 2,
    .mctpSetEndpointId 256,
    .quiesceFence 2048,
    .logHeadWrite 0x100000000,
    .approvalVerifyComplete 64 0,
    .nextRoleWrite 0 0 16,
    .memoryPortRequest 0 10,
    .keyValidityExpire 1048576,
    .noiseBlockComplete 24 (List.replicate 1024 true)] : List Instr).all (fun c => !c.wellFormed) = true := by decide +kernel

theorem test_ill_formed_3 : ([.noiseBlockComplete 0 [],
    .expanderReseed 19,
    .randomRead .hub 11 0,
    .egressFrame 16 [] false (0, 0) false false,
    .furrowMismatchWindowClose 2,
    .ruleCommit 0 8192,
    .portConfigWrite 2 0 0,
    .statsWriteback 65536,
    .channelCommit 16384,
    .mkaTimerExpire 4096 0,
    .dramRead (2 ^ 48) .clean none,
    .counterBlockRewriteComplete 2 0 [],
    .hedgerowAccessCheck 259 0 0 0 0 0,
    .hedgerowAccessCheck 0 4 0 0 0 0,
    .hedgerowAccessCheck 0 0 3 0 0 0,
    .hedgerowAccessCheck 0 0 0 8 0 0,
    .monitorTrip [26],
    .gorAlarmClear 0x100000000,
    .gorBistStart 32 0,
    .gorBistStart 0 8] : List Instr).all (fun c => !c.wellFormed) = true := by decide +kernel

theorem test_ill_formed_4 : ([.cairnEventPost 65536 0 [],
    .cairnEventPost 0 65536 [],
    .heartbeatTimer 16384,
    .monitorReturnToWindow 26] : List Instr).all (fun c => !c.wellFormed) = true := by decide +kernel

/-- Every template of the reference library keeps the limits of R208, R211 and R222. -/
theorem test_reference_library : libraryOk refLibrary = true ∧ (refLibrary.map Template.opcode).Nodup := by
  constructor <;> decide +kernel

/-- GHASH of test case 2 of the GCM specification: one block of ciphertext and the lengths. -/
theorem test_ghash : ghash 0x66e94bd4ef8a2c3b884cfa59ca342b2e (be 16 0x0388dace60b6a392f328c2b971b2fe78 ++ be 8 0 ++ be 8 128) =
    0xf38cbb1ad69223dcc3457ae5b6b0f885 := by decide +kernel

theorem test_reset_queue : State.reset.pending = [] := rfl

end Sys2Proof.Tests
end

/-!
PROOFS. The rules of register access (spec/00): how a write or a read of BAR0 reaches the dword it names, what a write by access types
stores, and which windows are always there; from them the first obligation.
-/

namespace Sys2Proof.Machine

/-! ### How an access reaches its dword (R12, R28, R109) -/

/-- While BAR0 answers, an access inside the BAR acts (R28, R109). -/
theorem State.barAccess_of_up {s : State} (h : s.up) {off : Nat} (hoff : off < barSize) (f : State → State) :
    s.barAccess off f = .next (f s) := by
  obtain ⟨hlive, hperst⟩ := h
  simp [State.barAccess, hoff, State.whenHif, State.whenLive, hlive, hperst]

theorem exec_registerWrite_of_up {s : State} (h : s.up) {off be : Nat} (hoff : lastByte off be < barSize) (val : Nat) :
    exec (.registerWrite off be val) s = .next (s.barWrite off be val) :=
  State.barAccess_of_up h hoff _

theorem exec_rcRead_of_up {s : State} (h : s.up) {off n : Nat} (hoff : off + n - 1 < barSize) (bar2 : Bool) :
    exec (.rcRead bar2 off n) s = .next (s.barRead bar2 off n) :=
  State.barAccess_of_up h hoff _

theorem exec_latchedRead_of_up {s : State} (h : s.up) {off n : Nat} (hoff : off + n - 1 < barSize) (bar2 : Bool) :
    exec (.latchedRead bar2 off n) s = .next (s.barRead bar2 off n) :=
  State.barAccess_of_up h hoff _

/-- The dword that holds the byte at an offset inside the BAR ends inside the BAR. -/
theorem lastByte_lt_barSize {off be : Nat} (hbe : be < 16) (hoff : off < 0x4000000) : lastByte off be < barSize := by
  simp only [lastByte, hbe, if_true, barSize]; omega

theorem State.barWrite_dword (s : State) {off : Nat} (h : off % 4 = 0) (val : Nat) :
    s.barWrite off 15 val = s.dwordWrite off 15 val := by
  simp [State.barWrite, Nat.div_mul_cancel (Nat.dvd_of_mod_eq_zero h)]

/-- A 64-bit write is two writes of a dword, the lower address first (R12). -/
theorem State.barWrite_qword (s : State) {off : Nat} (h : off % 4 = 0) (val : Nat) :
    s.barWrite off 255 val = (s.dwordWrite off 15 val).dwordWrite (off + 4) 15 (val / 2 ^ 32) := by
  simp [State.barWrite, Nat.div_mul_cancel (Nat.dvd_of_mod_eq_zero h), State.dwordWrite]

/-- A write that leaves out a byte of its dword is discarded (R12). -/
theorem State.barWrite_partial (s : State) {be : Nat} (hbe : be < 16) (hne : be ≠ 15) (off val : Nat) :
    s.barWrite off be val = s := by
  have hmod : be % 16 ≠ 15 := by omega
  simp [State.barWrite, hbe, State.dwordWrite, hmod]

/-- While BAR0 answers, a write of a whole dword is that dword's write. -/
theorem exec_registerWrite_dword {s : State} (h : s.up) {off : Nat} (hal : off % 4 = 0) (hoff : off < 0x4000000) (val : Nat) :
    exec (.registerWrite off 15 val) s = .next (s.dwordWrite off 15 val) := by
  rw [exec_registerWrite_of_up h (lastByte_lt_barSize (by decide) hoff), s.barWrite_dword hal]

/-! ### Windows that are always there (R3, R66, R77) -/

/-- The stretches of BAR0 that hold a window of a cell or of a unit some variant leaves out (R3, R66). -/
def unitWindow (off : Nat) : Prop :=
  (0x300000 ≤ off ∧ off < 0x400000) ∨ (0x600000 ≤ off ∧ off < 0xD00000) ∨ (0x1100000 ≤ off ∧ off < 0x1200000)

section
variable {s : State} {off : Nat}

theorem inHedge_eq_false (h : ¬ unitWindow off) : inHedge off = false := by
  simp only [unitWindow] at h
  simp only [inHedge, Bool.and_eq_false_iff, decide_eq_false_iff_not]
  omega

theorem State.absent_eq_false (h : ¬ unitWindow off) : s.absent off = false := by
  have hh := inHedge_eq_false h
  simp only [unitWindow] at h
  have hfur : ¬ (0x600000 ≤ off ∧ off < 0xC00000) := by omega
  have hcell : ¬ (0x300000 ≤ off ∧ off < 0x400000) := by omega
  have hcmn : ¬ (0x1100000 ≤ off ∧ off < 0x1200000) := by omega
  simp [State.absent, hh, ← Bool.decide_and, hfur, hcell, hcmn]

theorem State.inS3_eq_none (h : ¬ unitWindow off) : s.inS3 off = none := by
  have hh := inHedge_eq_false h
  simp only [unitWindow] at h
  have hcell : ¬ (0x300000 ≤ off ∧ off < 0x400000) := by omega
  simp [State.inS3, cellAt, hh, hcell]

theorem State.wakeFor_eq_self (h : ¬ unitWindow off) : s.wakeFor off = s := by
  simp only [unitWindow] at h
  have hcell : ¬ (0x300000 ≤ off ∧ off < 0x400000) := by omega
  simp [State.wakeFor, hcell]

theorem State.hidden_eq_false_of_fullMap (h : s.fullMap = true) : s.hidden off = false := by
  simp [State.hidden, h]

/-- The HIF global block and the power block are never hidden (R77, R78, R89). -/
theorem State.hidden_eq_false_of_block (h : off / 0x100000 = 0 ∨ off / 0x100000 = 0xF) : s.hidden off = false := by
  rcases h with h | h <;> simp [State.hidden, h]

/-- A write of a dword that is shown, there and awake reaches its register. -/
theorem State.dwordWrite_of_present (hhid : s.hidden off = false) (habs : s.absent off = false) (hs3 : s.inS3 off = none) (val : Nat) :
    s.dwordWrite off 15 val = (s.wakeFor off).writeAt off (val % 2 ^ 32) := by
  simp [State.dwordWrite, hhid, habs, hs3]

/-- A write of a shown dword outside the windows of units reaches its register. -/
theorem State.dwordWrite_outside_units (hhid : s.hidden off = false) (hu : ¬ unitWindow off) (val : Nat) :
    s.dwordWrite off 15 val = s.writeAt off (val % 2 ^ 32) := by
  rw [State.dwordWrite_of_present hhid (State.absent_eq_false hu) (State.inS3_eq_none hu), State.wakeFor_eq_self hu]

end

/-! ### Writes by access type (R10, R11) -/

/-- The field a row of a register table describes, in the register at `off`. -/
def FldRow.fld (off : Nat) (r : FldRow) : Fld := ⟨off, r.lo, r.w⟩

/-- What a field holds after `val` is written to its register, by its access type (R10). -/
def State.written (s : State) (off val : Nat) (r : FldRow) : Nat :=
  if r.acc = .rw then val / 2 ^ r.lo % 2 ^ r.w
  else if r.acc = .w1c ∧ val.testBit r.lo then 0
  else s.getF (r.fld off)

/-- The fields of a register start at different bits, and each W1C field is one bit. -/
def Separate (l : List FldRow) : Prop := (l.map FldRow.lo).Nodup ∧ ∀ r ∈ l, r.acc = .w1c → r.w = 1

theorem OnlyFields.refl (s : State) : OnlyFields s s [] := ⟨rfl, fun _ _ => rfl⟩

theorem OnlyFields.trans {s t u : State} {fs gs : List Fld} (h : OnlyFields s t fs) (k : OnlyFields t u gs) :
    OnlyFields s u (fs ++ gs) := by
  obtain ⟨hst, hf⟩ := h
  obtain ⟨htu, hg⟩ := k
  refine ⟨by rw [htu, hst], fun g hnot => ?_⟩
  rw [List.map_append, List.mem_append, not_or] at hnot
  rw [hg g hnot.2, hf g hnot.1]

/-- A store into one field changes that field alone. -/
theorem onlyFields_setF (s : State) (f : Fld) (v : Nat) : OnlyFields s (s.setF f v) [f] :=
  ⟨rfl, fun g hg => State.getF_setF_ne s f g v (fun hk => hg (by simp [hk]))⟩

theorem OnlyFields.getF_eq {s t : State} {f g : Fld} (h : OnlyFields s t [f]) (hk : f.key ≠ g.key) : t.getF g = s.getF g :=
  h.2 g (by simpa using hk.symm)

/-- Writing one field by its access type changes that field alone. -/
theorem onlyFields_storeField (s : State) (val off : Nat) (r : FldRow) :
    OnlyFields s (s.storeField val off r) [r.fld off] := by
  have hself : OnlyFields s s [r.fld off] := ⟨rfl, fun _ _ => rfl⟩
  unfold State.storeField
  cases r.acc with
  | rw => exact onlyFields_setF s (r.fld off) _
  | w1c =>
    dsimp only
    split
    · exact hself
    · exact onlyFields_setF s (r.fld off) _
  | ro => exact hself
  | wo => exact hself
  | rc => exact hself

/-- Clearing the one bit of a field leaves 0 in it. -/
theorem clrBits_one_mod_two (v : Nat) : State.storeField.clrBits v 1 % 2 = 0 := by
  simp only [State.storeField.clrBits, Nat.and_one_is_mod]; omega

/-- One field after a write by its access type. -/
theorem State.getF_storeField (s : State) (val off : Nat) (r : FldRow) (hw : r.acc = .w1c → r.w = 1) :
    (s.storeField val off r).getF (r.fld off) = s.written off val r := by
  unfold State.storeField State.written
  cases hacc : r.acc with
  | rw => simp [FldRow.of, FldRow.fld]
  | w1c =>
    have hbit : r.of val = if val.testBit r.lo then 1 else 0 := by
      simp only [FldRow.of, hw hacc, Nat.testBit_eq_decide_div_mod_eq, decide_eq_true_eq]
      split <;> omega
    cases hv : val.testBit r.lo with
    | false => simp [hbit, hv]
    | true => simp [hbit, hv, FldRow.fld, hw hacc, clrBits_one_mod_two]
  | ro => simp
  | wo => simp
  | rc => simp

/-- Fields that start at different bits of a register are different fields. -/
theorem FldRow.fld_key_ne {off : Nat} {a r : FldRow} (h : a.lo ≠ r.lo) : (a.fld off).key ≠ (r.fld off).key := by
  simp only [FldRow.fld, Fld.key]; omega

/-- Writing the fields of a list changes those fields alone. -/
theorem onlyFields_storeFields (val off : Nat) (l : List FldRow) (s : State) :
    OnlyFields s (l.foldl (State.storeField val off) s) (l.map (FldRow.fld off)) := by
  induction l generalizing s with
  | nil => exact OnlyFields.refl s
  | cons a l ih => exact (onlyFields_storeField s val off a).trans (ih _)

/-- Each field of a list holds what its access type makes of the value written. -/
theorem State.getF_storeFields (val off : Nat) (l : List FldRow) (hl : Separate l) (s : State) :
    ∀ r ∈ l, (l.foldl (State.storeField val off) s).getF (r.fld off) = s.written off val r := by
  induction l generalizing s with
  | nil => simp
  | cons a l ih =>
    obtain ⟨hlo, hw⟩ := hl
    rw [List.map_cons, List.nodup_cons] at hlo
    have hne : ∀ r ∈ l, a.lo ≠ r.lo := fun r hr h => hlo.1 (h ▸ List.mem_map_of_mem hr)
    intro r hr
    rw [List.foldl_cons]
    rcases List.mem_cons.mp hr with rfl | hr
    · have hkey : (r.fld off).key ∉ (l.map (FldRow.fld off)).map Fld.key := by
        rintro hmem
        obtain ⟨_, hf, hk⟩ := List.mem_map.mp hmem
        obtain ⟨b, hb, rfl⟩ := List.mem_map.mp hf
        exact FldRow.fld_key_ne (hne b hb) hk.symm
      rw [(onlyFields_storeFields val off l _).2 _ hkey, s.getF_storeField val off r (hw r (by simp))]
    · rw [ih ⟨hlo.2, fun b hb => hw b (by simp [hb])⟩ _ r hr]
      simp only [State.written, (onlyFields_storeField s val off a).getF_eq (FldRow.fld_key_ne (hne r hr))]

theorem onlyFields_storeReg (s : State) (off val : Nat) : OnlyFields s (s.storeReg off val) (fieldsOf off) :=
  onlyFields_storeFields val off (fieldsAt off) s

/-- The fields of a dword of a block are those of one row of the block's table, or none. -/
theorem fieldsAt_forall {off : Nat} {P : List FldRow → Prop} (hnil : P [])
    (h : ∀ r ∈ blockRows (off / 0x100000), P r.flds) : P (fieldsAt off) := by
  unfold fieldsAt
  split
  next r hr => exact h r (List.mem_of_find?_eq_some hr)
  next => exact hnil

theorem separate_nil : Separate [] := ⟨List.nodup_nil, by simp⟩

theorem hifRows_separate : ∀ r ∈ hifRows, Separate r.flds := by unfold Separate; decide

theorem pwrRows_separate : ∀ r ∈ pwrRows, Separate r.flds := by unfold Separate; decide

/-- In the HIF global block and the power block, fields do not overlap and W1C fields are single bits. -/
theorem fieldsAt_separate {off : Nat} (h : off / 0x100000 = 0 ∨ off / 0x100000 = 0xF) : Separate (fieldsAt off) := by
  refine fieldsAt_forall separate_nil ?_
  rcases h with h | h <;> rw [h]
  · exact hifRows_separate
  · exact pwrRows_separate

theorem State.getF_storeReg {off : Nat} (h : off / 0x100000 = 0 ∨ off / 0x100000 = 0xF) (s : State) (val : Nat) :
    ∀ r ∈ fieldsAt off, (s.storeReg off val).getF (r.fld off) = s.written off val r :=
  s.getF_storeFields val off (fieldsAt off) (fieldsAt_separate h)

/-! ### Registers that only follow their access types -/

/-- The dwords of the HIF global block below 4 KiB whose writes do not act (R111). -/
theorem State.writeAt_hif {off : Nat} (hlt : off < 0x1000) (hev : off ≠ 0x14) (hctl : off ≠ 0x200) (s : State) (val : Nat) :
    s.writeAt off val = s.storeReg off val := by
  have hb : off / 0x100000 = 0 := by omega
  have hap : ¬ 0x10000 ≤ off := by omega
  have hdb : ¬ 0x20000 ≤ off := by omega
  have hmsix : ¬ 0x40000 ≤ off := by omega
  simp [State.writeAt, hb, State.writeHif, hev, hctl, hap, hdb, hmsix]

/-- The dwords of the power block whose writes do not act (R71). -/
theorem State.writeAt_power {off : Nat} (hlo : 0xF00000 ≤ off) (hhi : off < 0xF01000) (hsag : off ≠ 0xF00010) (hslp : off ≠ 0xF00014)
    (hmdw : ¬ (0xF00020 ≤ off ∧ off < 0xF00040)) (s : State) (val : Nat) : s.writeAt off val = s.storeReg off val := by
  have hb : off / 0x100000 = 0xF := by omega
  have hother : ∀ o, o < 0xF00000 ∨ 0xF01000 ≤ o → off ≠ o := fun o ho => by omega
  simp [State.writeAt, hb, hsag, hslp, ← Bool.decide_and, hmdw, hother]

/-- A write of `PWR_SLEEP_CFG` that keeps the idle time only follows the access types (R64). -/
theorem State.writeAt_sleepCfg (s : State) {val : Nat} (h : val / 4096 % 65536 = s.getF Reg.PWR_SLEEP_CFG_S2_IDLE_US) :
    s.writeAt 0xF00014 val = s.storeReg 0xF00014 val := by
  have hkept : (s.storeReg 0xF00014 val).getF Reg.PWR_SLEEP_CFG_S2_IDLE_US = s.getF Reg.PWR_SLEEP_CFG_S2_IDLE_US :=
    calc (s.storeReg 0xF00014 val).getF Reg.PWR_SLEEP_CFG_S2_IDLE_US
      _ = s.written 0xF00014 val ⟨12, 16, .rw, 0x0⟩ := s.getF_storeReg (by decide) val ⟨12, 16, .rw, 0x0⟩ (by decide)
      _ = s.getF Reg.PWR_SLEEP_CFG_S2_IDLE_US := h
  simp [State.writeAt, State.sleepCfg, hkept]

/-- The registers of the HIF global block and of the power block whose writes do not act; `PWR_SLEEP_CFG` is one of them where the write keeps
its idle time (R64, R71, R111). -/
def State.onlyStores (s : State) (off val : Nat) : Prop :=
  (off < 0x1000 ∧ off ≠ 0x14 ∧ off ≠ 0x200) ∨
    (0xF00000 ≤ off ∧ off < 0xF01000 ∧ off ≠ 0xF00010 ∧ ¬ (0xF00020 ≤ off ∧ off < 0xF00040) ∧
      (off = 0xF00014 → val / 4096 % 65536 = s.getF Reg.PWR_SLEEP_CFG_S2_IDLE_US))

theorem State.onlyStores.block {s : State} {off val : Nat} (h : s.onlyStores off val) :
    off / 0x100000 = 0 ∨ off / 0x100000 = 0xF := by
  simp only [State.onlyStores] at h; omega

theorem State.onlyStores.writeAt_eq {s : State} {off val : Nat} (h : s.onlyStores off val) :
    s.writeAt off val = s.storeReg off val := by
  obtain ⟨hlt, hev, hctl⟩ | ⟨hlo, hhi, hsag, hmdw, hidle⟩ := h
  · exact State.writeAt_hif hlt hev hctl s val
  · by_cases hslp : off = 0xF00014
    · subst hslp
      exact s.writeAt_sleepCfg (hidle rfl)
    · exact State.writeAt_power hlo hhi hsag hslp hmdw s val

/-- Such a write stores by the access types, in every state in which BAR0 answers (R10, R12). -/
theorem exec_registerWrite_onlyStores {s : State} (h : s.up) {off val : Nat} (hal : off % 4 = 0) (hval : val < 2 ^ 32)
    (hreg : s.onlyStores off val) : exec (.registerWrite off 15 val) s = .next (s.storeReg off val) := by
  have hblock := hreg.block
  have hu : ¬ unitWindow off := by simp only [unitWindow]; omega
  rw [exec_registerWrite_dword h hal (by omega), State.dwordWrite_outside_units (State.hidden_eq_false_of_block hblock) hu,
    Nat.mod_eq_of_lt hval, hreg.writeAt_eq]

/-! ### Reserved space (R11) -/

section
variable {off : Nat} (h : 0x1300000 ≤ off)
include h

theorem not_unitWindow_of_reserved : ¬ unitWindow off := by simp only [unitWindow]; omega

theorem fieldsAt_reserved : fieldsAt off = [] := by
  have hb : 0x13 ≤ off / 0x100000 := by omega
  refine fieldsAt_forall (P := (· = [])) rfl ?_
  have hrows : blockRows (off / 0x100000) = [] := by
    generalize off / 0x100000 = b at hb
    have hne : ∀ k, k < 0x13 → b ≠ k := fun k hk => by omega
    have hlt : ¬ b < 0xC := by omega
    simp [blockRows, hne, hlt]
  simp [hrows]

theorem State.writeAt_reserved (s : State) (val : Nat) : s.writeAt off val = s := by
  have hb : ∀ k, k < 0x13 → off / 0x100000 ≠ k := fun k hk => by omega
  have hne : ∀ o, o < 0x1300000 → off ≠ o := fun o ho => by omega
  have hfur : ¬ off / 0x100000 < 0xC := by omega
  have hmdw : ¬ off < 0xF00040 := by omega
  simp [State.writeAt, hb, hne, hfur, hmdw, State.storeReg, fieldsAt_reserved h]

/-- Reserved space discards writes, whether it is shown or hidden. -/
theorem State.dwordWrite_reserved (s : State) (be val : Nat) : s.dwordWrite off be val = s := by
  have hu := not_unitWindow_of_reserved h
  unfold State.dwordWrite
  split
  next => rfl
  next => simp [State.absent_eq_false hu, State.inS3_eq_none hu, State.wakeFor_eq_self hu, State.writeAt_reserved h]

theorem State.readDword_reserved (s : State) : s.readDword off = 0 := by
  have hlt : ∀ o, o ≤ 0x1300000 → ¬ off < o := fun o ho => by omega
  simp [State.readDword, hlt, State.readReg, fieldsAt_reserved h]

theorem State.readAt_reserved (s : State) : s.readAt off = s.answer 0 := by
  have hlt : ∀ o, o ≤ 0x1300000 → ¬ off < o := fun o ho => by omega
  have hne : ∀ o, o < 0x1300000 → off ≠ o := fun o ho => by omega
  simp [State.readAt, hlt, hne, State.readDword_reserved h, State.clearRc, fieldsAt_reserved h, State.latch, State.popFifo]

/-- Reserved space reads as zero, whether it is shown or hidden. -/
theorem State.dwordRead_reserved (s : State) : s.dwordRead off = s.answer 0 := by
  have hu := not_unitWindow_of_reserved h
  unfold State.dwordRead
  split
  next => rfl
  next => simp [State.absent_eq_false hu, State.inS3_eq_none hu, State.wakeFor_eq_self hu, State.readAt_reserved h]

theorem State.barRead_reserved (s : State) (n : Nat) : s.barRead false off n = { s with rdata := 0 } := by
  have hlo : 0x1300000 ≤ off / 4 * 4 := by omega
  have hhi : 0x1300000 ≤ off / 4 * 4 + 4 := by omega
  simp [State.barRead, State.splitRead, State.dwordRead_reserved hlo, State.dwordRead_reserved hhi, State.answer]

/-- Reserved space discards a write of any of its bytes. -/
theorem State.barWrite_reserved (s : State) {be : Nat} (hbe : be < 16) (val : Nat) : s.barWrite off be val = s := by
  have hlo : 0x1300000 ≤ off / 4 * 4 := by omega
  simp [State.barWrite, hbe, State.dwordWrite_reserved hlo]

end

/-! ### A write of zero to a CMD field (R459) -/

@[simp] theorem State.baleCtl_zero (s : State) : s.baleCtl 0 = s := rfl
@[simp] theorem State.altCtl_zero (s : State) : s.altCtl 0 = s := rfl
@[simp] theorem State.queueCtl_zero (s : State) : s.queueCtl 0 = s := rfl
@[simp] theorem State.mdwCtl_zero (s : State) (m : Nat) : s.mdwCtl m 0 = s := rfl
@[simp] theorem State.pgCtl_zero (s : State) (g : Nat) : s.pgCtl g 0 = s := rfl
@[simp] theorem State.crnCtl_zero (s : State) : s.crnCtl 0 = s := rfl
@[simp] theorem State.lcsCtl_zero (s : State) : s.lcsCtl 0 = s := rfl

/-- A role judged without a command: taken, or refused with its status (R194). -/
theorem State.cellCtl_zero (s : State) (c role : Nat) :
    s.cellCtl c role 0 = match s.judgeRole c role with
      | none => s.setF (Reg.SWD_CELL_CTL_NEXT_ROLE c) role
      | some x => s.drvRefused x := by
  unfold State.cellCtl
  cases s.judgeRole c role <;> rfl

/-- A level requested without a command (R56, R71). -/
theorem State.pwrMdw_no_cmd (s : State) (m : Nat) {val : Nat} (h : val / 16 % 8 = 0) : s.pwrMdw m val = s.reqLevel m (val % 4) := by
  simp [State.pwrMdw, h]

/-- The registers whose fields are a CMD field and nothing that is written, Furrow's among them where the variant has it (R459). -/
def State.cmdRegister (s : State) (o : Nat) : Prop :=
  o ∈ [0x200, 0x100004, 0x100054, 0xE00004, 0x1000004] ∨ (∃ m < 8, o = 0x200080 + 4 * m) ∨
    (s.lc.variant.hasFurrow = true ∧ o ∈ [0x610000, 0x611000])

theorem State.writeAt_mdwCtl {off : Nat} (hlo : 0x200080 ≤ off) (hhi : off < 0x2000A0) (s : State) (val : Nat) :
    s.writeAt off val = s.mdwCtl ((off - 0x200080) / 4) (val % 16) := by
  have hb : off / 0x100000 = 2 := by omega
  have hne : ∀ o, o < 0x200080 → off ≠ o := fun o ho => by omega
  simp [State.writeAt, hb, State.writeDrv, hne, hlo, hhi]

theorem State.writeAt_pwrMdw {off : Nat} (hlo : 0xF00020 ≤ off) (hhi : off < 0xF00040) (s : State) (val : Nat) :
    s.writeAt off val = s.pwrMdw ((off - 0xF00020) / 4) val := by
  have hb : off / 0x100000 = 0xF := by omega
  have hne : ∀ o, o < 0xF00020 → off ≠ o := fun o ho => by omega
  simp [State.writeAt, hb, hne, hlo, hhi]

theorem State.writeAt_cellCtl (s : State) {c : Nat} (hc : c < 256) (val : Nat) :
    s.writeAt (0x300004 + 0x1000 * c) val = s.cellCtl c (val / 16 % 8) (val % 16) := by
  have hb : (0x300004 + 0x1000 * c) / 0x100000 = 3 := by omega
  have hreg : (0x300004 + 0x1000 * c) % 0x1000 = 4 := by omega
  have hidx : (0x300004 + 0x1000 * c - 0x300000) / 0x1000 = c := by omega
  simp [State.writeAt, hb, State.writeCell, hreg, hidx]

theorem fieldsAt_altQCtl : fieldsAt 0x100054 = [] := by decide

/-- In every register that is a CMD field, a write of zero to it changes nothing (R459). -/
theorem State.writeAt_cmd_zero {s : State} {o : Nat} (ho : s.cmdRegister o) {val : Nat} (hval : val % 16 = 0) : s.writeAt o val = s := by
  rcases ho with ho | ⟨m, hm, rfl⟩ | ⟨-, ho⟩
  · simp only [List.mem_cons, List.not_mem_nil, or_false] at ho
    rcases ho with rfl | rfl | rfl | rfl | rfl
    · simp [State.writeAt, State.writeHif, hval]
    · simp [State.writeAt, State.altWrite, hval]
    · simp [State.writeAt, fieldsAt_altQCtl, State.altWrite, hval]
    · simp [State.writeAt, hval]
    · simp [State.writeAt, State.writeLcs, hval]
  · rw [State.writeAt_mdwCtl (by omega) (by omega), hval, State.mdwCtl_zero]
  · simp only [List.mem_cons, List.not_mem_nil, or_false] at ho
    rcases ho with rfl | rfl <;> simp [State.writeAt, State.writeFur, hval]

/-- No register that is a CMD field lies in the window of a unit that is absent or sleeps. -/
theorem State.cmdRegister.present {s : State} {o : Nat} (ho : s.cmdRegister o) :
    s.absent o = false ∧ s.inS3 o = none ∧ s.wakeFor o = s ∧ o % 4 = 0 ∧ o < 0x4000000 := by
  rcases ho with ho | ⟨m, hm, rfl⟩ | ⟨hfur, ho⟩
  · have hu : ¬ unitWindow o ∧ o % 4 = 0 ∧ o < 0x4000000 := by
      simp only [List.mem_cons, List.not_mem_nil, or_false] at ho
      simp only [unitWindow]; omega
    exact ⟨State.absent_eq_false hu.1, State.inS3_eq_none hu.1, State.wakeFor_eq_self hu.1, hu.2⟩
  · have hu : ¬ unitWindow (0x200080 + 4 * m) := by simp only [unitWindow]; omega
    exact ⟨State.absent_eq_false hu, State.inS3_eq_none hu, State.wakeFor_eq_self hu, by omega, by omega⟩
  · simp only [List.mem_cons, List.not_mem_nil, or_false] at ho
    rcases ho with rfl | rfl <;> simp [State.absent, hfur, inHedge, State.inS3, cellAt, State.wakeFor]

/-- In every register that is a CMD field, the write of zero does nothing (R459). -/
theorem exec_registerWrite_cmd_zero {s : State} (h : s.shown) {o : Nat} (ho : s.cmdRegister o) {val : Nat} (hval : val % 16 = 0) :
    exec (.registerWrite o 15 val) s = .next s := by
  obtain ⟨hup, hmap⟩ := h
  obtain ⟨habs, hs3, hwake, hal, hoff⟩ := ho.present
  rw [exec_registerWrite_dword hup hal hoff, State.dwordWrite_of_present (State.hidden_eq_false_of_fullMap hmap) habs hs3, hwake,
    State.writeAt_cmd_zero ho (by omega)]

/-- A write of zero to CMD of `SWD_CELL_CTL`: the access wakes the cell's clump and meadow, and NEXT_ROLE acts under its own rules
(R66, R194, R459). -/
theorem exec_registerWrite_cellCtl_zero {s : State} (h : s.shown) {c : Nat} (hc : c < 256) (hcell : s.hasCell c = true)
    (hawake : s.sleepState (meadowOf c) ≠ 4) {val : Nat} (hval : val % 16 = 0) :
    exec (.registerWrite (0x300004 + 0x1000 * c) 15 val) s =
      .next ((s.wakeFor (0x300004 + 0x1000 * c)).cellCtl c (val % 2 ^ 32 / 16 % 8) 0) := by
  obtain ⟨hup, hmap⟩ := h
  have hidx : (0x300004 + 0x1000 * c - 0x300000) / 0x1000 = c := by omega
  have hlo : 0x300000 ≤ 0x300004 + 0x1000 * c := by omega
  have hhi : 0x300004 + 0x1000 * c < 0x400000 := by omega
  have hhedge : inHedge (0x300004 + 0x1000 * c) = false := by
    simp only [inHedge, Bool.and_eq_false_iff, decide_eq_false_iff_not]; omega
  have habs : s.absent (0x300004 + 0x1000 * c) = false := by
    have hfur : ¬ 0x600000 ≤ 0x300004 + 0x1000 * c := by omega
    have hcmn : ¬ 0x1100000 ≤ 0x300004 + 0x1000 * c := by omega
    simp only [State.absent, hidx, hcell, hhedge, decide_eq_false hfur, decide_eq_false hcmn]
    simp
  have hs3 : s.inS3 (0x300004 + 0x1000 * c) = none := by
    simp only [State.inS3, cellAt, hlo, hhi, hidx]
    simp [hawake]
  have hcmd : val % 2 ^ 32 % 16 = 0 := by omega
  rw [exec_registerWrite_dword hup (by omega) (by omega),
    State.dwordWrite_of_present (State.hidden_eq_false_of_fullMap hmap) habs hs3, State.writeAt_cellCtl _ hc, hcmd]

/-- A write of zero to CMD of `PWR_MDW_CTL` requests the level alone (R56, R71, R459). -/
theorem exec_registerWrite_pwrMdw_zero {s : State} (h : s.up) {m : Nat} (hm : m < 8) {val : Nat} (hval : val / 16 % 8 = 0) :
    exec (.registerWrite (0xF00020 + 4 * m) 15 val) s = .next (s.reqLevel m (val % 4)) := by
  have hu : ¬ unitWindow (0xF00020 + 4 * m) := by simp only [unitWindow]; omega
  have hidx : (0xF00020 + 4 * m - 0xF00020) / 4 = m := by omega
  have hcmd : val % 2 ^ 32 / 16 % 8 = 0 := by omega
  have hlevel : val % 2 ^ 32 % 4 = val % 4 := by omega
  rw [exec_registerWrite_dword h (by omega) (by omega),
    State.dwordWrite_outside_units (State.hidden_eq_false_of_block (by omega)) hu, State.writeAt_pwrMdw (by omega) (by omega), hidx,
    State.pwrMdw_no_cmd _ _ hcmd, hlevel]

/-! ### The obligation -/

/-- Settles O1, clause by clause: what a stored register takes, what is discarded, how 64 bits are split, and zero in a CMD field. -/
theorem writesFollowAccessTypes : Obligations.WritesFollowAccessTypes := by
  unfold Obligations.WritesFollowAccessTypes
  intro s off val h
  refine ⟨fun hal hval hreg => ?_, fun be hbe hoff => ⟨fun hne => ?_, fun hres => ⟨?_, fun n hn hend => ?_⟩⟩,
    fun t hal hend ht hup => ?_, fun hs hval => ⟨fun o ho => ?_, fun c hc hcell hawake => ?_⟩, fun hs m hm hcmd => ?_⟩
  · have hst : s.onlyStores off val := hreg
    exact ⟨s.storeReg off val, exec_registerWrite_onlyStores h hal hval hst, onlyFields_storeReg s off val,
      s.getF_storeReg hst.block val⟩
  · rw [exec_registerWrite_of_up h (lastByte_lt_barSize hbe hoff), s.barWrite_partial hbe hne]
  · rw [exec_registerWrite_of_up h (lastByte_lt_barSize hbe hoff), State.barWrite_reserved hres s hbe]
  · have hsizes : ∀ k ∈ [1, 2, 4, 8], 1 ≤ k := by decide
    have hpos : 1 ≤ n := hsizes n hn
    have hlast : off + n - 1 < barSize := by simp only [barSize]; omega
    rw [exec_rcRead_of_up h hlast, exec_latchedRead_of_up h hlast, State.barRead_reserved hres]
    exact ⟨rfl, rfl⟩
  · have hlast : lastByte off 255 < barSize := by
      rw [lastByte, Nat.div_mul_cancel (Nat.dvd_of_mod_eq_zero hal), barSize, if_neg (by decide)]; omega
    rw [exec_registerWrite_dword h hal (by omega)] at ht
    injection ht with ht
    rw [exec_registerWrite_of_up h hlast, s.barWrite_qword hal, ht, exec_registerWrite_dword hup (by omega) (by omega)]
  · exact exec_registerWrite_cmd_zero hs ho hval
  · exact (exec_registerWrite_cellCtl_zero hs hc hcell hawake hval).trans (congrArg Host.Outcome.next (State.cellCtl_zero _ _ _))
  · exact exec_registerWrite_pwrMdw_zero hs hm hcmd

end Sys2Proof.Machine

/-!
PROOFS. Allotments (spec/07): what posting an event, and what HIF's writes to the host, leave alone; then what each allotment command does in
each state of the selected allotment, and from that the obligation.
-/

namespace Sys2Proof.Machine

/-! ### Folds -/

section
variable {σ β : Type} {f : σ → β → σ}

/-- A reflexive and transitive relation that every step of a fold keeps holds between the ends of the fold. -/
theorem foldl_keeps {R : σ → σ → Prop} (hrefl : ∀ s, R s s) (htrans : ∀ {s t u}, R s t → R t u → R s u)
    (hf : ∀ s x, R s (f s x)) (l : List β) (s : σ) : R s (l.foldl f s) := by
  induction l generalizing s with
  | nil => exact hrefl s
  | cons x l ih => exact htrans (hf s x) (ih _)

/-- What a step brings about for its element and keeps for every other holds of each element after the fold. -/
theorem foldl_forall_mem {P : σ → β → Prop} (hset : ∀ s x, P (f s x) x) (hkeep : ∀ s x y, P s y → P (f s x) y) (l : List β)
    (s : σ) : ∀ x ∈ l, P (l.foldl f s) x := by
  induction l generalizing s with
  | nil => simp
  | cons x l ih =>
    intro y hy
    rcases List.mem_cons.mp hy with rfl | hy
    · exact foldl_keeps (R := fun s t => P s y → P t y) (fun _ => id) (fun h k => k ∘ h) (fun s x => hkeep s x y) l _ (hset s y)
    · exact ih _ y hy

end

/-! ### Posting an event (R425 to R430): what it leaves alone -/

theorem Recorded.refl (s : State) : Recorded s s := ⟨rfl, fun _ _ => rfl⟩

theorem Recorded.trans {s t u : State} (h : Recorded s t) (k : Recorded t u) : Recorded s u := by
  obtain ⟨hst, hf⟩ := h
  obtain ⟨htu, hg⟩ := k
  exact ⟨by rw [htu, hst], fun g hnot => (hg g hnot).trans (hf g hnot)⟩

theorem recorded_cairn (s : State) (c : Cairn) : Recorded s { s with cairn := c } := ⟨rfl, fun _ _ => rfl⟩

theorem recorded_setF {f : Fld} (hf : f ∈ logFields) (s : State) (v : Nat) : Recorded s (s.setF f v) :=
  ⟨rfl, fun g hg => State.getF_setF_ne s f g v (fun hk => hg (hk ▸ List.mem_map_of_mem hf))⟩

theorem recorded_bump {f : Fld} (hf : f ∈ logFields) (s : State) : Recorded s (s.bump f) := recorded_setF hf s _

theorem State.recorded_takeTimer {s t : State} {list due : Nat} {o : Owner} (h : s.takeTimer list due o = some t) : Recorded s t := by
  unfold State.takeTimer at h
  split at h
  · injection h with h
    exact h ▸ ⟨rfl, fun _ _ => rfl⟩
  · contradiction

theorem State.recorded_timerFull (s : State) : Recorded s s.timerFull :=
  (recorded_bump (by simp [logFields]) s).trans (recorded_setF (by simp [logFields]) _ _)

theorem State.recorded_cairnWrite {s t : State} {flags code : Nat} {p : Bytes} (h : s.cairnWrite flags code p = some t) : Recorded s t := by
  obtain ⟨c, -, rfl⟩ := Option.map_eq_some_iff.mp h
  exact recorded_cairn s c

theorem State.recorded_cairnQueue (s : State) (e : CairnEvent) : Recorded s (s.cairnQueue e) := by
  unfold State.cairnQueue
  split
  · exact recorded_cairn s _
  · exact ((recorded_cairn s _).trans (recorded_bump (by simp [logFields]) _)).trans (recorded_setF (by simp [logFields]) _ _)

/-- Accepting an event: tallied in a freeze, written, counted in its window, or the first of a window with its timer (R427, R429). -/
theorem State.recorded_cairnAccept {s t : State} {e : CairnEvent} (h : s.cairnAccept e = some t) : Recorded s t := by
  unfold State.cairnAccept at h
  split at h
  · split at h <;> injection h with h <;> subst h
    · exact recorded_cairn s _
    · exact (recorded_cairn s _).trans (recorded_bump (by simp [logFields]) _)
  split at h
  · exact State.recorded_cairnWrite h
  split at h
  · split at h
    · split at h
      · obtain ⟨u, hu, rfl⟩ := Option.map_eq_some_iff.mp h
        exact (State.recorded_cairnWrite hu).trans (recorded_cairn u _)
      · injection h with h
        exact h ▸ recorded_cairn s _
    · injection h with h
      exact h ▸ Recorded.refl s
  · obtain ⟨u, hu, rfl⟩ := Option.map_eq_some_iff.mp h
    refine (State.recorded_cairnWrite hu).trans ?_
    split
    next v hv => exact (State.recorded_takeTimer hv).trans (recorded_cairn v _)
    next =>
      have hfull : Recorded u (u.setF Reg.CRN_EVENT_NO_WINDOW 1).timerFull :=
        (recorded_setF (by simp [logFields]) u 1).trans (State.recorded_timerFull _)
      dsimp only
      split
      · exact hfull
      · exact hfull.trans (State.recorded_cairnQueue _ _)

theorem State.recorded_cairnDrain (n : Nat) (s : State) : Recorded s (State.cairnDrain n s) := by
  induction n generalizing s with
  | zero => exact Recorded.refl s
  | succ n ih =>
    unfold State.cairnDrain
    split
    · exact Recorded.refl s
    · split
      next t ht => exact ((recorded_cairn s _).trans (State.recorded_cairnAccept ht)).trans (ih t)
      next => exact Recorded.refl s

theorem State.recorded_cairnDropped (s : State) : Recorded s s.cairnDropped := by
  unfold State.cairnDropped
  split
  · exact Recorded.refl s
  · split
    next t ht => exact (State.recorded_cairnWrite ht).trans (recorded_cairn t _)
    next => exact Recorded.refl s

/-- Posting an event changes the recorder, its timers and its counters alone. -/
theorem State.recorded_post (s : State) (code key detail value : Nat) : Recorded s (s.post code key detail value) :=
  ((State.recorded_cairnQueue s _).trans (State.recorded_cairnDrain _ _)).trans (State.recorded_cairnDropped _)

section
variable (s : State) (code key detail value : Nat)

@[simp] theorem State.post_root : (s.post code key detail value).root = s.root := by rw [(s.recorded_post code key detail value).1]
@[simp] theorem State.post_bar : (s.post code key detail value).bar = s.bar := by rw [(s.recorded_post code key detail value).1]
@[simp] theorem State.post_hif : (s.post code key detail value).hif = s.hif := by rw [(s.recorded_post code key detail value).1]
@[simp] theorem State.post_queues : (s.post code key detail value).queues = s.queues := by rw [(s.recorded_post code key detail value).1]
@[simp] theorem State.post_allots : (s.post code key detail value).allots = s.allots := by rw [(s.recorded_post code key detail value).1]

end

/-! ### Requests to host memory and the dirty log (R108, R149, R150): what they leave alone -/

/-- What requests to host memory, the dirty log and messages leave alone: Barrow, the queues, the command in progress and the state of every
allotment; and they start no log. -/
structure LogWrites (s t : State) : Prop where
  root : t.root = s.root
  bar : t.bar = s.bar
  busy : t.hif.altBusy = s.hif.altBusy
  queues : t.queues = s.queues
  state : ∀ a, (t.allot a).st = (s.allot a).st
  stopped : ∀ a, (s.allot a).log.en = false → (t.allot a).log.en = false

namespace LogWrites

theorem refl (s : State) : LogWrites s s := ⟨rfl, rfl, rfl, rfl, fun _ => rfl, fun _ => id⟩

theorem trans {s t u : State} (h : LogWrites s t) (k : LogWrites t u) : LogWrites s u where
  root := k.root.trans h.root
  bar := k.bar.trans h.bar
  busy := k.busy.trans h.busy
  queues := k.queues.trans h.queues
  state a := (k.state a).trans (h.state a)
  stopped a := k.stopped a ∘ h.stopped a

theorem of_parts {s t : State} (hroot : t.root = s.root) (hbar : t.bar = s.bar) (hbusy : t.hif.altBusy = s.hif.altBusy)
    (hqueues : t.queues = s.queues) (hallots : t.allots = s.allots) : LogWrites s t where
  root := hroot
  bar := hbar
  busy := hbusy
  queues := hqueues
  state a := by simp only [State.allot, hallots]
  stopped a := by simp only [State.allot, hallots]; exact id

theorem queue_eq {s t : State} (h : LogWrites s t) (j : Nat) : t.queue j = s.queue j := by simp only [State.queue, h.queues]

end LogWrites

section
variable (s : State)

theorem State.logWrites_setAllot {a : Nat} {x : Allot} (hst : x.st = (s.allot a).st := by rfl)
    (hen : (s.allot a).log.en = false → x.log.en = false := by exact id) : LogWrites s (s.setAllot a x) where
  root := rfl
  bar := rfl
  busy := rfl
  queues := rfl
  state b := by
    rw [State.allot_setAllot]
    split
    next h => exact h ▸ hst
    next => rfl
  stopped b hb := by
    rw [State.allot_setAllot]
    split
    next h => exact hen (h ▸ hb)
    next => exact hb

theorem State.logWrites_post (code key detail value : Nat) : LogWrites s (s.post code key detail value) :=
  .of_parts (by simp) (by simp) (by simp) (by simp) (by simp)

theorem State.logWrites_sendMsix (v : Nat) : LogWrites s (s.sendMsix v) := by
  unfold State.sendMsix
  dsimp only
  split <;> exact .of_parts rfl rfl rfl rfl rfl

theorem State.logWrites_unstall (r : Reader) : LogWrites s (s.unstall r) := .of_parts rfl rfl rfl rfl rfl

theorem State.logWrites_setF (f : Fld) (v : Nat) : LogWrites s (s.setF f v) := .of_parts rfl rfl rfl rfl rfl

theorem State.logWrites_hifEvent (f : Fld) : LogWrites s (s.hifEvent f) := by
  unfold State.hifEvent
  dsimp only
  split
  · exact (s.logWrites_setF f 1).trans (State.logWrites_sendMsix _ 0)
  · exact s.logWrites_setF f 1

theorem State.logWrites_dma (o : Out) : LogWrites s (s.dma o) := by
  unfold State.dma
  split
  · exact .refl s
  · exact .of_parts rfl rfl rfl rfl rfl

theorem State.dma_allots (o : Out) : (s.dma o).allots = s.allots := by
  unfold State.dma
  split <;> rfl

theorem State.logWrites_translate (a addr n : Nat) : LogWrites s (s.translate a addr n) := by
  unfold State.translate
  split
  · exact foldl_keeps .refl .trans (fun t p => t.logWrites_dma _) _ s
  · exact .refl s

/-- Writing the first record moves the tail; beside it, the phase and the counts of the log alone change. -/
theorem DirtyLog.pop_eq (l : DirtyLog) : l.pop = { l with
    cache := l.cache.drop 1, seq := l.seq + 1, tail := (l.tail + 1) % l.depth
    phase := l.pop.phase, full := l.pop.full, stalls := l.pop.stalls } := by
  unfold DirtyLog.pop
  dsimp only
  split_ifs <;> rfl

@[simp] theorem DirtyLog.pop_en (l : DirtyLog) : l.pop.en = l.en := by rw [l.pop_eq]
@[simp] theorem DirtyLog.pop_held (l : DirtyLog) : l.pop.held = l.held := by rw [l.pop_eq]
@[simp] theorem DirtyLog.pop_cache (l : DirtyLog) : l.pop.cache = l.cache.drop 1 := by rw [l.pop_eq]
@[simp] theorem DirtyLog.pop_depth (l : DirtyLog) : l.pop.depth = l.depth := by rw [l.pop_eq]; rfl
@[simp] theorem DirtyLog.pop_head (l : DirtyLog) : l.pop.head = l.head := by rw [l.pop_eq]
@[simp] theorem DirtyLog.pop_tail (l : DirtyLog) : l.pop.tail = (l.tail + 1) % l.depth := by rw [l.pop_eq]

theorem DirtyLog.mark_en (l : DirtyLog) (tick : Nat) (p : Nat × Nat) : (l.mark tick p).en = l.en := by
  unfold DirtyLog.mark
  split <;> rfl

theorem DirtyLog.foldl_mark_en (tick : Nat) (ps : List (Nat × Nat)) (l : DirtyLog) :
    (ps.foldl (fun l p => l.mark tick p) l).en = l.en := by
  induction ps generalizing l with
  | nil => rfl
  | cons p ps ih => rw [List.foldl_cons, ih, DirtyLog.mark_en]

theorem State.logWrites_flushOne (a : Nat) : LogWrites s (s.flushOne a) := by
  unfold State.flushOne
  dsimp only
  split
  · exact .refl s
  · exact (s.logWrites_setAllot (hen := by simp)).trans (State.logWrites_dma _ _)

theorem State.logWrites_flushLog (n a : Nat) : LogWrites s (s.flushLog n a) := by
  induction n generalizing s with
  | zero => exact .refl s
  | succ n ih =>
    unfold State.flushLog
    dsimp only
    split
    · exact .refl s
    · exact (s.logWrites_flushOne a).trans (ih _)

theorem State.logWrites_evict (n : Nat) : LogWrites s (s.evict n) := by
  induction n generalizing s with
  | zero => exact .refl s
  | succ n ih =>
    unfold State.evict
    split
    · exact (s.logWrites_flushOne _).trans (ih _)
    · exact .refl s

theorem State.logWrites_logWrite (a : Nat) (ps : List (Nat × Nat)) : LogWrites s (s.logWrite a ps) := by
  unfold State.logWrite
  dsimp only
  split
  · refine (s.logWrites_evict (s.cached + (s.allot a).log.newRecords ps - cacheRoom)).trans ?_
    generalize s.evict _ = t
    exact t.logWrites_setAllot (hen := fun h => (DirtyLog.foldl_mark_en _ ps _).trans h)
  · exact .refl s

end

/-! ### Completions (R116, R119, R121): what they leave alone -/

/-- A queue that is DISABLED at position 0 with PHASE 1, as RESET leaves it (R140, R147). -/
def Queue.Bare (q : Queue) : Prop := q.st = .disabled ∧ q.sqHead = 0 ∧ q.phase = true

/-- What writing completions, and refusing, disabling or stopping what waits for them, leaves alone: Barrow, the command in
progress and the state of every allotment; no log is started, no queue is given a descriptor to wait in it, and a bare queue stays bare. -/
structure HostWrites (s t : State) : Prop where
  root : t.root = s.root
  bar : t.bar = s.bar
  busy : t.hif.altBusy = s.hif.altBusy
  state : ∀ a, (t.allot a).st = (s.allot a).st
  stopped : ∀ a, (s.allot a).log.en = false → (t.allot a).log.en = false
  noneWaiting : ∀ j, (s.queue j).waiting = [] → (t.queue j).waiting = []
  bare : ∀ j, (s.queue j).Bare → (t.queue j).Bare

theorem LogWrites.hostWrites {s t : State} (h : LogWrites s t) : HostWrites s t where
  root := h.root
  bar := h.bar
  busy := h.busy
  state := h.state
  stopped := h.stopped
  noneWaiting j := by rw [h.queue_eq]; exact id
  bare j := by rw [h.queue_eq]; exact id

namespace HostWrites

theorem refl (s : State) : HostWrites s s := (LogWrites.refl s).hostWrites

theorem trans {s t u : State} (h : HostWrites s t) (k : HostWrites t u) : HostWrites s u where
  root := k.root.trans h.root
  bar := k.bar.trans h.bar
  busy := k.busy.trans h.busy
  state a := (k.state a).trans (h.state a)
  stopped a := k.stopped a ∘ h.stopped a
  noneWaiting j := k.noneWaiting j ∘ h.noneWaiting j
  bare j := k.bare j ∘ h.bare j

end HostWrites

/-- Log work and then a store into a queue that gives it nothing to wait and keeps it bare. -/
theorem LogWrites.setQueue {s t : State} (h : LogWrites s t) {q : Nat} {x : Queue}
    (hwait : (s.queue q).waiting = [] → x.waiting = [] := by exact id) (hbare : (s.queue q).Bare → x.Bare := by exact id) :
    HostWrites s (t.setQueue q x) where
  root := h.root
  bar := h.bar
  busy := h.busy
  state := h.state
  stopped := h.stopped
  noneWaiting j hj := by
    rw [State.queue_setQueue]
    split
    next hq => exact hwait (hq ▸ hj)
    next => rwa [h.queue_eq]
  bare j hj := by
    rw [State.queue_setQueue]
    split
    next hq => exact hbare (hq ▸ hj)
    next => rwa [h.queue_eq]

section
variable (s : State)

/-- A queue error strikes no bare queue, and gives its queue nothing to wait (R119). -/
theorem State.hostWrites_queueError {qid : Nat} (h : ¬ (s.queue qid).Bare) (kind : Nat) : HostWrites s (s.queueError qid kind) := by
  unfold State.queueError
  dsimp only
  have herr : HostWrites s (s.setQueue qid { s.queue qid with st := .error, errKind := kind }) :=
    (LogWrites.refl s).setQueue id (absurd · h)
  have hpost (t : State) (code key detail value : Nat) :
      LogWrites t ((t.hifEvent Reg.HIF_EVENT_QUEUE_ERROR).post code key detail value) :=
    (t.logWrites_hifEvent _).trans (State.logWrites_post _ _ _ _ _)
  refine herr.trans (LogWrites.trans ?_ (hpost _ _ _ _ _)).hostWrites
  split
  · exact .refl _
  · exact .of_parts rfl rfl rfl rfl rfl

theorem State.hostWrites_signal (qid : Nat) : HostWrites s (s.signal qid) := by
  unfold State.signal
  dsimp only
  split
  · exact .refl s
  split
  · exact (s.logWrites_sendMsix _).hostWrites
  split
  · exact (LogWrites.refl s).setQueue.trans (State.logWrites_sendMsix _ _).hostWrites
  · exact (LogWrites.refl s).setQueue

/-- A queue whose ring is still written is not bare (R119, R142). -/
theorem Queue.not_bare_of_writable {q : Queue} (h : q.writable = true) : ¬ q.Bare := fun hb => by
  simp [Queue.writable, hb.1] at h

theorem State.hostWrites_writeNow (qid outAddr buf : Nat) (out : Bytes) (c : Cpl) : HostWrites s (s.writeNow qid outAddr buf out c) := by
  unfold State.writeNow
  extract_lets q a q1 at_ bad s1 s2 c1 s3 ps next s4 s5
  split
  · exact (LogWrites.refl s).setQueue
  next hw =>
    have hbare : ¬ q.Bare := Queue.not_bare_of_writable (by simpa using hw)
    have h1 : LogWrites s s1 := by
      dsimp only [s1]
      split
      · exact .refl s
      · exact s.logWrites_translate _ _ _
    have h2 : LogWrites s s2 := by
      dsimp only [s2]
      split
      · exact h1
      · exact h1.trans (State.logWrites_dma _ _)
    have h3 : LogWrites s s3 := h2.trans (State.logWrites_translate _ _ _ _)
    split
    · have hlog := State.logWrites_logWrite (s3.setQueue qid q1) a ps
      refine (h3.setQueue.trans hlog.hostWrites).trans (State.hostWrites_queueError _ ?_ 5)
      rw [hlog.queue_eq, State.queue_setQueue_same]
      exact hbare
    · have h4 : LogWrites s s4 := h3.trans (State.logWrites_dma _ _)
      have h5 : HostWrites s s5 := h4.setQueue id (absurd · hbare)
      exact (h5.trans (State.logWrites_logWrite _ _ _).hostWrites).trans (State.hostWrites_signal _ _)

theorem State.hostWrites_complete (qid outAddr buf : Nat) (out : Bytes) (c : Cpl) : HostWrites s (s.complete qid outAddr buf out c) := by
  unfold State.complete
  dsimp only
  split
  · exact s.logWrites_setAllot.hostWrites
  · exact s.hostWrites_writeNow _ _ _ _ _

theorem State.hostWrites_refuse (qid tag status : Nat) : HostWrites s (s.refuse qid tag status) :=
  (LogWrites.of_parts (s := s) (t := s.free.2) rfl rfl rfl rfl rfl).hostWrites.trans (State.hostWrites_complete _ _ _ _ _ _)

theorem State.hostWrites_releaseHeld (n a : Nat) : HostWrites s (s.releaseHeld n a) := by
  induction n generalizing s with
  | zero => exact .refl s
  | succ n ih =>
    unfold State.releaseHeld
    dsimp only
    split
    · exact .refl s
    split
    · exact .refl s
    · exact (s.logWrites_setAllot.hostWrites.trans (State.hostWrites_writeNow _ _ _ _ _ _)).trans (ih _)

theorem State.hostWrites_signalRest (qid : Nat) : HostWrites s (s.signalRest qid) := by
  unfold State.signalRest
  dsimp only
  split
  · exact .refl s
  · exact (LogWrites.refl s).setQueue.trans (State.logWrites_sendMsix _ _).hostWrites

end

/-! ### Flushing a log whose ring has room (R150) -/

theorem ringDist_succ {n h t : Nat} (hn : 0 < n) : ringDist n h ((t + 1) % n) = (ringDist n h t + 1) % n := by
  have hh : h % n < n := Nat.mod_lt h hn
  unfold ringDist
  rw [Nat.mod_add_mod, show (t + 1) % n + n - h % n = (t + 1) % n + (n - h % n) by omega, Nat.mod_add_mod]
  congr 1
  omega

theorem DirtyLog.depth_pos (l : DirtyLog) : 0 < l.depth := Nat.two_pow_pos _

/-- A log whose ring takes a record more than is cached has room, and as much room after the first is written (R150). -/
theorem DirtyLog.room_pop {l : DirtyLog} {n : Nat} (h : n + 1 ≤ l.depth - 1 - ringDist l.depth l.head l.tail) :
    l.ringFull = false ∧ n ≤ l.pop.depth - 1 - ringDist l.pop.depth l.pop.head l.pop.tail := by
  have hmod : (ringDist l.depth l.head l.tail + 1) % l.depth = ringDist l.depth l.head l.tail + 1 := Nat.mod_eq_of_lt (by omega)
  refine ⟨?_, ?_⟩
  · simp only [DirtyLog.ringFull, beq_eq_false_iff_ne]
    omega
  · rw [DirtyLog.pop_depth, DirtyLog.pop_head, DirtyLog.pop_tail, ringDist_succ l.depth_pos, hmod]
    omega

section
variable (s : State) {a b : Nat}

theorem State.flushOne_allot_same (h : (s.allot a).log.cache ≠ []) :
    (s.flushOne a).allot a = { s.allot a with log := (s.allot a).log.pop } := by
  unfold State.flushOne
  dsimp only
  split
  · contradiction
  · simp only [State.allot, State.dma_allots, State.setAllot, getM_setM, if_true]

theorem State.flushOne_allot_ne (h : b ≠ a) : (s.flushOne a).allot b = s.allot b := by
  unfold State.flushOne
  dsimp only
  split
  · rfl
  · simp only [State.allot, State.dma_allots, State.setAllot, getM_setM, if_neg h.symm]

theorem State.flushLog_allot_ne (n : Nat) (h : b ≠ a) : (s.flushLog n a).allot b = s.allot b := by
  induction n generalizing s with
  | zero => rfl
  | succ n ih =>
    unfold State.flushLog
    dsimp only
    split
    · rfl
    · rw [ih, s.flushOne_allot_ne h]

/-- A flush of a log whose ring has room for what is cached writes all of it, and holds back nothing (R150). -/
theorem State.flushLog_of_room (n : Nat) (hn : (s.allot a).log.cache.length = n)
    (h : n ≤ (s.allot a).log.depth - 1 - ringDist (s.allot a).log.depth (s.allot a).log.head (s.allot a).log.tail) :
    ((s.flushLog n a).allot a).log.cache = [] ∧ ((s.flushLog n a).allot a).log.held = (s.allot a).log.held := by
  induction n generalizing s with
  | zero => exact ⟨List.eq_nil_of_length_eq_zero hn, rfl⟩
  | succ n ih =>
    have hne : (s.allot a).log.cache ≠ [] := List.ne_nil_of_length_eq_add_one hn
    obtain ⟨hfull, hroom⟩ := DirtyLog.room_pop h
    have hone := s.flushOne_allot_same hne
    unfold State.flushLog
    simp only [List.isEmpty_eq_false_iff.mpr hne, hfull, Bool.or_self, Bool.false_eq_true, if_false]
    obtain ⟨hcache, hheld⟩ := ih (s.flushOne a) (by simp [hone, hn]) (by simpa only [hone] using hroom)
    exact ⟨hcache, by rw [hheld, hone, DirtyLog.pop_held]⟩

end

/-! ### Selection and results (R132, R134, R144) -/

theorem State.allot_congr {s t : State} (h : t.allots = s.allots) (b : Nat) : t.allot b = s.allot b := by simp only [State.allot, h]

theorem State.queue_congr {s t : State} (h : t.queues = s.queues) (q : Nat) : t.queue q = s.queue q := by simp only [State.queue, h]

theorem State.master_congr {s t : State} (h : t.root = s.root) (e : Nat) : t.master e = s.master e := by
  simp only [State.master, h]

theorem State.whenLive_of_shown {s : State} (h : s.shown) (f : State → State) : s.whenLive f = f s := by
  simp [State.whenLive, h.1.1]

theorem State.whenOpen_of_shown {s : State} (h : s.shown) (f : State → State) : s.whenOpen f = f s := by
  obtain ⟨⟨-, hperst⟩, hmap⟩ := id h
  simp [State.whenOpen, State.whenLive_of_shown h, hperst, hmap]

theorem State.altCmd_steward {s : State} (h : s.altSel = 2048) (f : State → Nat → State) :
    s.altCmd f = s.altResult St.stateConflict := by simp [State.altCmd, h]

theorem State.altCmd_tenant {s : State} {a : Nat} (h : s.altSel = a) (ha : a < 2048) (f : State → Nat → State) :
    s.altCmd f = f s a := by
  have hne : a ≠ 2048 := by omega
  simp [State.altCmd, h, hne]

section
variable (s : State) (x key : Nat)

theorem State.altResult_getF (g : Fld) :
    (s.altResult x).getF g = ((s.setF Reg.ALT_RESULT_STATUS x).setF Reg.ALT_RESULT_IN_PROGRESS 0).getF g := rfl

theorem State.altResult_status (hx : x < 2 ^ 16) : (s.altResult x).getF Reg.ALT_RESULT_STATUS = x := by
  rw [State.altResult_getF, State.getF_setF_ne _ _ _ _ (by decide), State.getF_setF_same]
  exact Nat.mod_eq_of_lt hx

theorem State.altResult_inProgress : (s.altResult x).getF Reg.ALT_RESULT_IN_PROGRESS = 0 :=
  State.getF_setF_same (s.setF Reg.ALT_RESULT_STATUS x) Reg.ALT_RESULT_IN_PROGRESS 0

/-- A command that posts a result changes `ALT_RESULT`, and none is in progress. -/
theorem State.altResult_spec (hx : x < 2 ^ 16) : Claims.AltResult s (s.altResult x) x := by
  refine ⟨rfl, fun g hg => ?_, s.altResult_status x hx, s.altResult_inProgress x⟩
  simp only [Claims.altFields, List.map_cons, List.map_nil, List.mem_cons, List.not_mem_nil, or_false, not_or] at hg
  rw [State.altResult_getF, State.getF_setF_ne _ _ g _ (Ne.symm hg.2), State.getF_setF_ne _ _ g _ (Ne.symm hg.1)]

theorem State.altBegin_getF_ne {g : Fld} (h : Reg.ALT_RESULT_IN_PROGRESS.key ≠ g.key) : (s.altBegin key).getF g = s.getF g :=
  State.getF_setF_ne s _ g 1 h

theorem State.altBegin_inProgress : (s.altBegin key).getF Reg.ALT_RESULT_IN_PROGRESS = 1 :=
  State.getF_setF_same s Reg.ALT_RESULT_IN_PROGRESS 1

@[simp] theorem State.altResult_allots : (s.altResult x).allots = s.allots := rfl
@[simp] theorem State.altResult_queues : (s.altResult x).queues = s.queues := rfl
@[simp] theorem State.altResult_root : (s.altResult x).root = s.root := rfl
@[simp] theorem State.altBegin_allot (b : Nat) : (s.altBegin key).allot b = s.allot b := rfl
@[simp] theorem State.altBegin_queue (q : Nat) : (s.altBegin key).queue q = s.queue q := rfl
@[simp] theorem State.altBegin_root : (s.altBegin key).root = s.root := rfl
@[simp] theorem State.altBegin_bar : (s.altBegin key).bar = s.bar := rfl
@[simp] theorem State.altBegin_master (e : Nat) : (s.altBegin key).master e = s.master e := rfl
@[simp] theorem State.altBegin_busy : (s.altBegin key).hif.altBusy = some key := rfl

theorem State.altRefused_spec (hx : x < 2 ^ 16) : Claims.AltRefused s (s.altRefused x) x :=
  ⟨onlyFields_setF s _ x, (State.getF_setF_same s _ x).trans (Nat.mod_eq_of_lt hx)⟩

@[simp] theorem State.altEnd_allots : (s.altEnd key x).allots = s.allots := by
  unfold State.altEnd
  split <;> rfl

@[simp] theorem State.altEnd_root : (s.altEnd key x).root = s.root := by
  unfold State.altEnd
  split <;> rfl

/-- The end of a command in progress posts its result. -/
theorem State.altEnd_spec (h : s.hif.altBusy = some key) (hx : x < 2 ^ 16) :
    (s.altEnd key x).getF Reg.ALT_RESULT_STATUS = x ∧ (s.altEnd key x).getF Reg.ALT_RESULT_IN_PROGRESS = 0 := by
  have he : s.altEnd key x = s.altResult x := by simp [State.altEnd, h]
  rw [he]
  exact ⟨s.altResult_status x hx, s.altResult_inProgress x⟩

end

/-- A command that answers the posting of a result. -/
theorem gives_altResult {c : Instr} {s : State} {x : Nat} (h : exec c s = .next (s.altResult x)) (hx : x < 2 ^ 16) :
    Gives c s fun t => Claims.AltResult s t x := ⟨_, h, s.altResult_spec x hx⟩

theorem gives_altRefused {c : Instr} {s : State} {x : Nat} (h : exec c s = .next (s.altRefused x)) (hx : x < 2 ^ 16) :
    Gives c s fun t => Claims.AltRefused s t x := ⟨_, h, s.altRefused_spec x hx⟩

/-- In `t` allotment `a` is in state `st`, every other one is as in `s`, and so is Barrow's root store. -/
def State.MovesTo (s : State) (a : Nat) (st : ASt) (t : State) : Prop :=
  (t.allot a).st = st ∧ (∀ b, b ≠ a → t.allot b = s.allot b) ∧ t.root = s.root

theorem State.movesTo_of_setAllot {s t : State} {a : Nat} {x : Allot} (hallots : t.allots = (s.setAllot a x).allots)
    (hroot : t.root = s.root) : s.MovesTo a x.st t := by
  have hall := State.allot_congr hallots
  refine ⟨by rw [hall, State.allot_setAllot_same], fun b hb => ?_, hroot⟩
  rw [hall, State.allot_setAllot, if_neg (Ne.symm hb)]

theorem State.movesTo_setSt (s : State) (a : Nat) (st : ASt) : s.MovesTo a st (s.setAllot a { s.allot a with st := st }) :=
  State.movesTo_of_setAllot (x := { s.allot a with st := st }) rfl rfl

theorem State.MovesTo.altBegin {s t : State} {a : Nat} {st : ASt} (h : s.MovesTo a st t) (key : Nat) : s.MovesTo a st (t.altBegin key) := h

theorem State.MovesTo.altResult {s t : State} {a : Nat} {st : ASt} (h : s.MovesTo a st t) (x : Nat) : s.MovesTo a st (t.altResult x) := h

/-- The allotment is selected where BAR0 shows every block: a command of `ALT_CTL` acts on it (R132, R144). -/
structure State.Selects (s : State) (a : Nat) : Prop where
  shown : s.shown
  sel : s.altSel = a
  tenant : a < 2048

section
variable {s : State} {a : Nat}

theorem State.Selects.whenOpen_altCmd (h : s.Selects a) (f : State → Nat → State) : s.whenOpen (fun s => s.altCmd f) = f s a :=
  (State.whenOpen_of_shown h.shown _).trans (State.altCmd_tenant h.sel h.tenant f)

theorem exec_altCreate (h : s.Selects a) {t : State} (ht : s.altCreate a = t) : exec .altCreate s = .next t :=
  congrArg Host.Outcome.next ((h.whenOpen_altCmd _).trans ht)

theorem exec_altQuiesce (h : s.Selects a) {t : State} (ht : s.altQuiesce a = t) : exec .altQuiesce s = .next t :=
  congrArg Host.Outcome.next ((h.whenOpen_altCmd _).trans ht)

theorem exec_altResume (h : s.Selects a) {t : State} (ht : s.altResume a = t) : exec .altResume s = .next t :=
  congrArg Host.Outcome.next ((h.whenOpen_altCmd _).trans ht)

theorem exec_altReset (h : s.Selects a) {t : State} (ht : s.altReset a = t) : exec .altReset s = .next t :=
  congrArg Host.Outcome.next ((h.whenOpen_altCmd _).trans ht)

theorem exec_altRemove (h : s.Selects a) {t : State} (ht : s.altRemove a = t) : exec .altRemove s = .next t :=
  congrArg Host.Outcome.next ((h.whenOpen_altCmd _).trans ht)

theorem exec_quiesceFence (h : s.shown) {t : State} (ht : s.fence a = t) : exec (.quiesceFence a) s = .next t :=
  congrArg Host.Outcome.next ((State.whenLive_of_shown h _).trans ht)

theorem exec_altRemoveComplete (h : s.shown) (a : Nat) : exec (.altRemoveComplete a) s = .next (s.altRemoved a) :=
  congrArg Host.Outcome.next (State.whenLive_of_shown h _)

theorem exec_altConfigWrite (h : s.shown) {off val : Nat} (hoff : off = 0x10 ∨ off = 0x14) {t : State} (ht : s.altConfig off val = t) :
    exec (.altConfigWrite off val) s = .next t := by
  refine congrArg Host.Outcome.next ((State.whenOpen_of_shown h _).trans ?_)
  rcases hoff with rfl | rfl <;> exact ht

/-- With the steward selected every command of `ALT_CTL` is refused (R144). -/
theorem exec_altCommand_steward (h : s.shown) (hsel : s.altSel = 2048) :
    ∀ c ∈ [Instr.altCreate, .altQuiesce, .altResume, .altReset, .altRemove], exec c s = .next (s.altResult St.stateConflict) := by
  have hcmd (f : State → Nat → State) : s.whenOpen (fun s => s.altCmd f) = s.altResult St.stateConflict :=
    (State.whenOpen_of_shown h _).trans (State.altCmd_steward hsel f)
  intro c hc
  simp only [List.mem_cons, List.not_mem_nil, or_false] at hc
  rcases hc with rfl | rfl | rfl | rfl | rfl <;> exact congrArg Host.Outcome.next (hcmd _)

end

/-! ### CREATE (R132, R133) -/

section
variable {s : State} {a : Nat}

/-- The allotment that CREATE makes of one: ACTIVE, its mailbox pages empty, its log stopped (R133). -/
def Allot.created (x : Allot) : Allot := { x.emptyMbx with st := .active, log := { x.log with en := false } }

theorem State.altCreate_of_free (hst : (s.allot a).st = .free) (hp : s.pasidFree a (s.allot a).pasid = true) :
    s.altCreate a = ((s.setAllot a (s.allot a).created).post 0x3001 a 0 0).altResult St.done := by
  simp [State.altCreate, hst, hp, Allot.created]

/-- CREATE of a FREE allotment: it is ACTIVE with its mailbox pages empty and its log stopped, and keeps its PASID and quota (R133). -/
theorem State.altCreate_spec (hst : (s.allot a).st = .free) (hp : s.pasidFree a (s.allot a).pasid = true) :
    s.MovesTo a .active (s.altCreate a) ∧ (s.altCreate a).getF Reg.ALT_RESULT_STATUS = 0 ∧
      (s.altCreate a).getF Reg.ALT_RESULT_IN_PROGRESS = 0 ∧ (s.altCreate a).allot a = (s.allot a).created ∧
      (s.altCreate a).queues = s.queues := by
  have hallots : (s.altCreate a).allots = (s.setAllot a (s.allot a).created).allots := by simp [State.altCreate_of_free hst hp]
  refine ⟨State.movesTo_of_setAllot hallots ?_, ?_, ?_, ?_, ?_⟩
  · simp [State.altCreate_of_free hst hp]
  · rw [State.altCreate_of_free hst hp, State.altResult_status _ _ (by decide)]
    rfl
  · rw [State.altCreate_of_free hst hp, State.altResult_inProgress]
  · rw [State.allot_congr hallots, State.allot_setAllot_same]
  · simp [State.altCreate_of_free hst hp]

theorem State.altCreate_clash (hst : (s.allot a).st = .free) (hp : s.pasidFree a (s.allot a).pasid = false) :
    s.altCreate a = s.altResult St.badOperand := by
  simp [State.altCreate, hst, hp]

theorem State.altCreate_of_removing (hst : (s.allot a).st = .removing) : s.altCreate a = s.altResult St.busy := by
  simp [State.altCreate, hst]

theorem State.altCreate_of_ne (hfree : (s.allot a).st ≠ .free) (hrem : (s.allot a).st ≠ .removing) :
    s.altCreate a = s.altResult St.stateConflict := by
  unfold State.altCreate
  dsimp only
  split
  next h => exact absurd h hfree
  next h => exact absurd h hrem
  next => rfl

/-! ### QUIESCE and RESUME (R132, R135, R136) -/

/-- A queue with nothing waiting in it and no read of Barrow's stalled for it. -/
def State.unqueued (s : State) (qid : Nat) : State := (s.setQueue qid { s.queue qid with waiting := [] }).unstall (.queue qid)

theorem State.unqueued_waiting (s : State) (qid : Nat) : ((s.unqueued qid).queue qid).waiting = [] :=
  congrArg Queue.waiting (s.queue_setQueue_same qid _)

theorem State.hostWrites_unqueued (s : State) (qid : Nat) : HostWrites s (s.unqueued qid) := by
  have hset : HostWrites s (s.setQueue qid { s.queue qid with waiting := [] }) := (LogWrites.refl s).setQueue (hwait := fun _ => rfl)
  exact hset.trans (State.logWrites_unstall _ _).hostWrites

/-- Refusing what waited in a queue writes completions (R135 step 2). -/
theorem State.hostWrites_refuseUnstarted_of_unqueued (s : State) (qid : Nat) : HostWrites (s.unqueued qid) (s.refuseUnstarted qid) := by
  refine foldl_keeps HostWrites.refl HostWrites.trans (fun t w => ?_) (s.queue qid).waiting _
  refine HostWrites.trans (LogWrites.hostWrites ?_) (State.hostWrites_refuse _ _ _ _)
  split
  · exact .of_parts rfl rfl rfl rfl rfl
  · exact .refl t

theorem State.hostWrites_refuseUnstarted (s : State) (qid : Nat) : HostWrites s (s.refuseUnstarted qid) :=
  (s.hostWrites_unqueued qid).trans (s.hostWrites_refuseUnstarted_of_unqueued qid)

theorem State.refuseUnstarted_waiting (s : State) (qid : Nat) : ((s.refuseUnstarted qid).queue qid).waiting = [] :=
  (s.hostWrites_refuseUnstarted_of_unqueued qid).noneWaiting qid (s.unqueued_waiting qid)

theorem mem_queuesOf (a : Nat) {k : Nat} (hk : k < 8) : 8 * a + k ∈ queuesOf a :=
  List.mem_map_of_mem (List.mem_range.mpr hk)

theorem forall_mem_queuesOf {P : Nat → Prop} : (∀ q ∈ queuesOf a, P q) ↔ ∀ k, k < 8 → P (8 * a + k) := by
  simp [queuesOf]

theorem State.altQuiesce_of_active (hst : (s.allot a).st = .active) : s.altQuiesce a =
    ((queuesOf a).foldl State.refuseUnstarted (s.setAllot a { s.allot a with st := .quiescing })).altBegin a := by
  simp [State.altQuiesce, hst]

theorem State.altQuiesce_of_pendingEnable (hst : (s.allot a).st = .pendingEnable) :
    s.altQuiesce a = (s.setAllot a { s.allot a with st := .quiescing }).altBegin a := by
  simp [State.altQuiesce, hst]

theorem State.altQuiesce_pendingEnable_spec (hst : (s.allot a).st = .pendingEnable) :
    s.MovesTo a .quiescing (s.altQuiesce a) ∧ (s.altQuiesce a).getF Reg.ALT_RESULT_IN_PROGRESS = 1 ∧
      (s.altQuiesce a).queues = s.queues := by
  rw [State.altQuiesce_of_pendingEnable hst]
  exact ⟨(s.movesTo_setSt a _).altBegin a, State.altBegin_inProgress _ a, rfl⟩

theorem State.altQuiesce_of_quiesce (hst : (s.allot a).st = .quiescing ∨ (s.allot a).st = .quiesced) :
    s.altQuiesce a = s.altResult St.done := by
  rcases hst with hst | hst <;> simp [State.altQuiesce, hst]

theorem State.altQuiesce_conflict (hst : (s.allot a).st = .free ∨ (s.allot a).st = .resetting ∨ (s.allot a).st = .removing) :
    s.altQuiesce a = s.altResult St.stateConflict := by
  rcases hst with hst | hst | hst <;> simp [State.altQuiesce, hst]

/-- QUIESCE of an ACTIVE allotment: it is QUIESCING, and nothing of its queues waits (R135 steps 1 and 2). -/
theorem State.altQuiesce_active_spec (hst : (s.allot a).st = .active) :
    ((s.altQuiesce a).allot a).st = .quiescing ∧ (s.altQuiesce a).getF Reg.ALT_RESULT_IN_PROGRESS = 1 ∧
      (s.altQuiesce a).hif.altBusy = some a ∧ (∀ k, k < 8 → ((s.altQuiesce a).queue (8 * a + k)).waiting = []) ∧
      (s.altQuiesce a).root = s.root := by
  have hst' : ((s.setAllot a { s.allot a with st := .quiescing }).allot a).st = .quiescing := by rw [State.allot_setAllot_same]
  have hroot : (s.setAllot a { s.allot a with st := .quiescing }).root = s.root := rfl
  rw [State.altQuiesce_of_active hst]
  generalize s.setAllot a { s.allot a with st := .quiescing } = u at hst' hroot
  have hwrites : HostWrites u ((queuesOf a).foldl State.refuseUnstarted u) :=
    foldl_keeps HostWrites.refl HostWrites.trans State.hostWrites_refuseUnstarted _ u
  have hwait : ∀ q ∈ queuesOf a, (((queuesOf a).foldl State.refuseUnstarted u).queue q).waiting = [] :=
    foldl_forall_mem (P := fun t q => (t.queue q).waiting = []) State.refuseUnstarted_waiting
      (fun t q j => (t.hostWrites_refuseUnstarted q).noneWaiting j) _ u
  simp only [State.altBegin_allot, State.altBegin_queue, State.altBegin_root, State.altBegin_busy, State.altBegin_inProgress, true_and]
  exact ⟨(hwrites.state a).trans hst', fun k hk => hwait _ (mem_queuesOf a hk), hwrites.root.trans hroot⟩

theorem State.altResume_of_quiesced (hst : (s.allot a).st = .quiesced) :
    s.altResume a = (s.setAllot a { s.allot a with st := .active }).altResult St.done := by
  simp [State.altResume, hst]

theorem State.altResume_of_quiescing (hst : (s.allot a).st = .quiescing) :
    s.altResume a = (s.setAllot a { s.allot a with st := .pendingEnable }).altBegin a := by
  simp [State.altResume, hst]

theorem State.altResume_quiesced_spec (hst : (s.allot a).st = .quiesced) :
    s.MovesTo a .active (s.altResume a) ∧ (s.altResume a).getF Reg.ALT_RESULT_STATUS = 0 ∧ (s.altResume a).queues = s.queues := by
  rw [State.altResume_of_quiesced hst]
  exact ⟨(s.movesTo_setSt a _).altResult _, State.altResult_status _ _ (by decide), rfl⟩

theorem State.altResume_quiescing_spec (hst : (s.allot a).st = .quiescing) :
    s.MovesTo a .pendingEnable (s.altResume a) ∧ (s.altResume a).getF Reg.ALT_RESULT_IN_PROGRESS = 1 := by
  rw [State.altResume_of_quiescing hst]
  exact ⟨(s.movesTo_setSt a _).altBegin a, State.altBegin_inProgress _ a⟩

theorem State.altResume_of_active (hst : (s.allot a).st = .active ∨ (s.allot a).st = .pendingEnable) :
    s.altResume a = s.altResult St.done := by
  rcases hst with hst | hst <;> simp [State.altResume, hst]

theorem State.altResume_conflict (hst : (s.allot a).st = .free ∨ (s.allot a).st = .removing) :
    s.altResume a = s.altResult St.stateConflict := by
  rcases hst with hst | hst <;> simp [State.altResume, hst]

theorem State.altResume_of_resetting (hst : (s.allot a).st = .resetting) : s.altResume a = s.altResult St.busy := by
  simp [State.altResume, hst]

/-! ### The fence of a quiesce (R135 step 4) -/

/-- A quiesce is under way, whether or not a RESUME is held for its end (R135, R136). -/
def Allot.Quiescing (x : Allot) : Prop := x.st = .quiescing ∨ x.st = .pendingEnable

/-- The state that the end of a quiesce leaves (R135, R136). -/
def Allot.afterFence (x : Allot) : ASt := if x.st = .quiescing then .quiesced else .active

theorem State.quiesceEnd_of_quiescing (h : (s.allot a).Quiescing) : s.quiesceEnd a =
    ((s.setAllot a { s.allot a with st := (s.allot a).afterFence }).post 0x3003 a 0 0).altEnd a St.done := by
  rcases h with h | h <;> simp [State.quiesceEnd, Allot.afterFence, h]

@[simp] theorem State.sendMsix_allots (s : State) (v : Nat) : (s.sendMsix v).allots = s.allots := by
  unfold State.sendMsix
  dsimp only
  split <;> rfl

theorem State.signalRest_allots (s : State) (qid : Nat) : (s.signalRest qid).allots = s.allots := by
  unfold State.signalRest
  dsimp only
  split
  · rfl
  · exact State.sendMsix_allots _ _

/-- No graph of the allotment is in flight and nothing of its queues waits or is in the air (R135 step 4). -/
def State.Drained (s : State) (a : Nat) : Prop :=
  s.inFlight a = 0 ∧ (∀ k, k < 8 → (s.queue (8 * a + k)).waiting = []) ∧ ∀ k, k < 8 → (s.queue (8 * a + k)).inAir = 0

/-- The log of the allotment holds no write back, and its ring has room for what is cached (R150). -/
def State.LogFits (s : State) (a : Nat) : Prop :=
  (s.allot a).log.held = [] ∧ (s.allot a).log.cache.length ≤
    (s.allot a).log.depth - 1 - ringDist (s.allot a).log.depth (s.allot a).log.head (s.allot a).log.tail

theorem State.LogFits.flushed (h : s.LogFits a) : ((s.flushAll a).allot a).log.cache = [] ∧ ((s.flushAll a).allot a).log.held = [] := by
  obtain ⟨hcache, hheld⟩ := s.flushLog_of_room _ rfl h.2
  exact ⟨hcache, hheld.trans h.1⟩

/-- With all of it done, the fence flushes the log, signals what is left to signal and ends the quiesce. -/
theorem State.fence_of_drained (hst : (s.allot a).Quiescing) (hd : s.Drained a) (hlog : s.LogFits a) :
    s.fence a = ((queuesOf a).foldl State.signalRest (s.flushAll a)).quiesceEnd a := by
  obtain ⟨hflight, hwait, hair⟩ := hd
  obtain ⟨hcache, hheld⟩ := hlog.flushed
  have hqueues : ∀ q ∈ queuesOf a, (s.queue q).waiting = [] ∧ (s.queue q).inAir = 0 :=
    forall_mem_queuesOf.mpr fun k hk => ⟨hwait k hk, hair k hk⟩
  have hgo : ((s.allot a).st == .quiescing || (s.allot a).st == .pendingEnable) = true := by
    rcases hst with h | h <;> simp [h]
  have hall : (queuesOf a).all (fun q => (s.queue q).waiting.isEmpty && (s.queue q).inAir = 0) = true := by
    simpa using hqueues
  have hnone : s.releaseHeld (s.allot a).log.held.length a = s := by rw [hlog.1]; rfl
  simp only [State.fence, hgo, hflight, hall, hnone, hcache, hheld]
  simp

theorem State.fence_eq_self (h : s.inFlight a ≠ 0 ∨ ((s.allot a).st ≠ .quiescing ∧ (s.allot a).st ≠ .pendingEnable)) :
    s.fence a = s := by
  rcases h with h | ⟨hq, hp⟩
  · simp [State.fence, h]
  · simp [State.fence, hq, hp]

/-- What the fence of a drained allotment leaves: its quiesce has ended and its log is written. -/
theorem State.fence_spec (hst : (s.allot a).Quiescing) (hd : s.Drained a) (hlog : s.LogFits a) :
    s.MovesTo a (s.allot a).afterFence (s.fence a) ∧ ((s.fence a).allot a).log.cache = [] ∧
      (s.hif.altBusy = some a → (s.fence a).getF Reg.ALT_RESULT_STATUS = 0 ∧ (s.fence a).getF Reg.ALT_RESULT_IN_PROGRESS = 0) := by
  have hflush : LogWrites s (s.flushAll a) := s.logWrites_flushLog _ a
  set u := (queuesOf a).foldl State.signalRest (s.flushAll a) with hu
  have hwrites : HostWrites s u :=
    hflush.hostWrites.trans (foldl_keeps HostWrites.refl HostWrites.trans State.hostWrites_signalRest _ _)
  have hallots : u.allots = (s.flushAll a).allots :=
    foldl_keeps (R := fun t v : State => v.allots = t.allots) (fun _ => rfl) (fun h k => k.trans h) State.signalRest_allots _ _
  have hallot := State.allot_congr hallots
  have hafter : (u.allot a).afterFence = (s.allot a).afterFence := by rw [Allot.afterFence, hwrites.state, Allot.afterFence]
  have hend : s.fence a = ((u.setAllot a { u.allot a with st := (s.allot a).afterFence }).post 0x3003 a 0 0).altEnd a St.done := by
    rw [State.fence_of_drained hst hd hlog, ← hu, State.quiesceEnd_of_quiescing, hafter]
    rwa [Allot.Quiescing, hwrites.state]
  have hto (b : Nat) : (s.fence a).allot b = (u.setAllot a { u.allot a with st := (s.allot a).afterFence }).allot b := by
    rw [hend]
    exact State.allot_congr (by simp) b
  refine ⟨⟨?_, fun b hb => ?_, ?_⟩, ?_, fun hbusy => ?_⟩
  · rw [hto, State.allot_setAllot_same]
  · rw [hto, State.allot_setAllot, if_neg (Ne.symm hb), hallot]
    exact s.flushLog_allot_ne _ hb
  · simp only [hend, State.altEnd_root, State.post_root, State.setAllot_root, hwrites.root]
  · rw [hto, State.allot_setAllot_same]
    simp only [hallot, hlog.flushed.1]
  · rw [hend]
    exact State.altEnd_spec _ _ _ (by rw [State.post_hif, State.setAllot_hif, hwrites.busy, hbusy]) (by decide)

/-! ### RESET and REMOVE (R132, R147) -/

theorem State.mayStrip_iff : s.mayStrip a = true ↔
    (s.allot a).st = .quiesced ∨ ((s.allot a).st = .active ∧ ∀ k, k < 8 → (s.queue (8 * a + k)).st = .disabled) := by
  have hnone : s.noQueue a = true ↔ ∀ k, k < 8 → (s.queue (8 * a + k)).st = .disabled := by
    simp only [State.noQueue, List.all_eq_true, beq_iff_eq]
    exact forall_mem_queuesOf
  simp only [State.mayStrip, Bool.or_eq_true, Bool.and_eq_true, beq_iff_eq, hnone]

theorem State.mayStrip_eq_false (hq : (s.allot a).st ≠ .quiesced)
    (hactive : (s.allot a).st = .active → ¬ ∀ k, k < 8 → (s.queue (8 * a + k)).st = .disabled) : s.mayStrip a = false := by
  rw [← Bool.not_eq_true, State.mayStrip_iff]
  rintro (h | ⟨h, hoff⟩)
  · exact hq h
  · exact hactive h hoff

/-- The end of logging writes what the ring takes, stops the log and issues held writes (R150). -/
theorem State.hostWrites_stopLog (s : State) (a : Nat) : HostWrites s (s.stopLog a) :=
  ((s.logWrites_flushLog _ a).trans (State.logWrites_setAllot _ (hen := fun _ => rfl))).hostWrites.trans
    (State.hostWrites_releaseHeld _ _ _)

theorem State.stopLog_en (s : State) (a : Nat) : ((s.stopLog a).allot a).log.en = false :=
  (State.hostWrites_releaseHeld _ _ _).stopped a (by rw [State.allot_setAllot_same])

/-- Every queue of the allotment disabled, its positions zeroed (R147). -/
def State.queuesOff (s : State) (a : Nat) : State :=
  (queuesOf a).foldl (fun s q => s.setQueue q { (s.queue q).zeroed with st := .disabled, errKind := 0 }) s

theorem State.hostWrites_queueOff (s : State) (q : Nat) :
    HostWrites s (s.setQueue q { (s.queue q).zeroed with st := .disabled, errKind := 0 }) :=
  (LogWrites.refl s).setQueue (hbare := fun _ => ⟨rfl, rfl, rfl⟩)

theorem State.hostWrites_queuesOff (s : State) (a : Nat) : HostWrites s (s.queuesOff a) :=
  foldl_keeps HostWrites.refl HostWrites.trans State.hostWrites_queueOff _ s

theorem State.queuesOff_bare (s : State) (a : Nat) : ∀ q ∈ queuesOf a, ((s.queuesOff a).queue q).Bare :=
  foldl_forall_mem (P := fun t q => (t.queue q).Bare) (fun t q => by rw [State.queue_setQueue_same]; exact ⟨rfl, rfl, rfl⟩)
    (fun t q j => (t.hostWrites_queueOff q).bare j) _ s

theorem State.strip_eq (s : State) (a : Nat) :
    s.strip a = ((s.queuesOff a).stopLog a).setAllot a (((s.queuesOff a).stopLog a).allot a).emptyMbx := rfl

theorem State.hostWrites_emptyMbx (s : State) (a : Nat) : HostWrites s (s.setAllot a (s.allot a).emptyMbx) :=
  s.logWrites_setAllot.hostWrites

theorem State.hostWrites_strip (s : State) (a : Nat) : HostWrites s (s.strip a) :=
  ((s.hostWrites_queuesOff a).trans (State.hostWrites_stopLog _ a)).trans (State.hostWrites_emptyMbx _ a)

/-- The allotment is stripped: its log stopped, its mailbox pages empty, every queue of it bare (R147). -/
def State.Stripped (t : State) (a : Nat) : Prop :=
  (t.allot a).log.en = false ∧ (t.allot a).t2sFull = false ∧ (t.allot a).s2tFull = false ∧ ∀ k, k < 8 → (t.queue (8 * a + k)).Bare

theorem State.strip_stripped (s : State) (a : Nat) : (s.strip a).Stripped a := by
  have hen := State.stopLog_en (s.queuesOff a) a
  have hbare (k : Nat) (hk : k < 8) : (((s.queuesOff a).stopLog a).queue (8 * a + k)).Bare :=
    (State.hostWrites_stopLog _ a).bare _ (s.queuesOff_bare a _ (mem_queuesOf a hk))
  rw [State.strip_eq]
  generalize (s.queuesOff a).stopLog a = u at hen hbare
  rw [State.Stripped, State.allot_setAllot_same]
  exact ⟨hen, rfl, rfl, hbare⟩

/-- A stripped allotment is moved on to `st` and its command begins, however else the state goes on (R147). -/
theorem State.Stripped.altBegin {u t : State} {st : ASt} (h : u.Stripped a) (key : Nat) (hqueues : t.queues = u.queues)
    (hallots : t.allots = (u.setAllot a { u.allot a with st := st }).allots) :
    ((t.altBegin key).allot a).st = st ∧ (t.altBegin key).Stripped a := by
  have hallot : (t.altBegin key).allot a = { u.allot a with st := st } := by
    rw [State.altBegin_allot, State.allot_congr hallots, State.allot_setAllot_same]
  have hqueue (j : Nat) : (t.altBegin key).queue j = u.queue j := by rw [State.altBegin_queue, State.queue_congr hqueues]
  simp only [State.Stripped, hallot, hqueue, true_and]
  exact h

theorem State.altReset_of_mayStrip (h : s.mayStrip a = true) :
    s.altReset a = ((s.strip a).setAllot a { (s.strip a).allot a with st := .resetting }).altBegin a := by
  have hne : (s.allot a).st ≠ .free := by rcases State.mayStrip_iff.mp h with hst | ⟨hst, -⟩ <;> simp [hst]
  simp [State.altReset, hne, h]

theorem State.altReset_of_free (hst : (s.allot a).st = .free) : s.altReset a = s.altResult St.stateConflict := by
  simp [State.altReset, hst]

theorem State.altReset_busy (hst : (s.allot a).st ≠ .free) (h : s.mayStrip a = false) : s.altReset a = s.altResult St.busy := by
  simp [State.altReset, hst, h]

theorem State.altRemove_of_mayStrip (h : s.mayStrip a = true) :
    s.altRemove a = ((((s.strip a).setAllot a { (s.strip a).allot a with st := .removing }).raiseGen a).invalidate
      { root := .master a, removing := some a }).altBegin a := by
  have hne : (s.allot a).st ≠ .free ∧ (s.allot a).st ≠ .removing := by
    rcases State.mayStrip_iff.mp h with hst | ⟨hst, -⟩ <;> simp [hst]
  simp [State.altRemove, hne, h]

theorem State.altRemove_of_free (hst : (s.allot a).st = .free) : s.altRemove a = s.altResult St.stateConflict := by
  simp [State.altRemove, hst]

theorem State.altRemove_of_removing (hst : (s.allot a).st = .removing) : s.altRemove a = s.altResult St.done := by
  simp [State.altRemove, hst]

theorem State.altRemove_busy (hfree : (s.allot a).st ≠ .free) (hrem : (s.allot a).st ≠ .removing) (h : s.mayStrip a = false) :
    s.altRemove a = s.altResult St.busy := by
  simp [State.altRemove, hfree, hrem, h]

/-- RESET of an allotment that may be stripped (R132, R147). -/
theorem State.altReset_spec (h : s.mayStrip a = true) :
    ((s.altReset a).allot a).st = .resetting ∧ (s.altReset a).root = s.root ∧ (s.altReset a).Stripped a ∧
      (s.altReset a).getF Reg.ALT_RESULT_IN_PROGRESS = 1 := by
  have hroot := (s.hostWrites_strip a).root
  have hstrip := s.strip_stripped a
  rw [State.altReset_of_mayStrip h]
  generalize s.strip a = u at hroot hstrip
  obtain ⟨hst, hstripped⟩ := hstrip.altBegin (t := u.setAllot a { u.allot a with st := .resetting }) a rfl rfl
  exact ⟨hst, hroot, hstripped, State.altBegin_inProgress _ a⟩

section
variable (s : State) (e : Nat) (i : Inval)

@[simp] theorem State.raiseGen_bar : (s.raiseGen e).bar = s.bar := rfl
@[simp] theorem State.invalidate_master (j : Nat) : (s.invalidate i).master j = s.master j := rfl
@[simp] theorem State.invalidate_inval : (s.invalidate i).bar.inval = s.bar.inval ++ [i] := rfl

theorem State.master_raiseGen (j : Nat) :
    (s.raiseGen e).master j = if e = j then { s.master j with gen := ((s.master j).gen + 1) % 65536 } else s.master j := by
  rw [State.raiseGen, State.master_setMaster]
  split
  next h => rw [h]
  next => rfl

theorem State.invalidate_invalidating : (s.invalidate i).getF Reg.BAR_STATUS_INVALIDATING = 1 :=
  State.getF_setF_same s Reg.BAR_STATUS_INVALIDATING 1

end

/-- REMOVE of an allotment that may be stripped: what RESET does, and the master's chain is invalidated (R132, R147). -/
theorem State.altRemove_spec (h : s.mayStrip a = true) :
    ((s.altRemove a).allot a).st = .removing ∧ (s.altRemove a).getF Reg.BAR_STATUS_INVALIDATING = 1 ∧
      ((s.altRemove a).Stripped a ∧ (s.altRemove a).getF Reg.ALT_RESULT_IN_PROGRESS = 1) ∧
      ((s.altRemove a).master a).gen = ((s.master a).gen + 1) % 65536 ∧ (∀ e, e ≠ a → (s.altRemove a).master e = s.master e) ∧
      (s.altRemove a).bar.inval = s.bar.inval ++ [{ root := .master a, removing := some a }] := by
  have hroot := (s.hostWrites_strip a).root
  have hbar := (s.hostWrites_strip a).bar
  have hstrip := s.strip_stripped a
  rw [State.altRemove_of_mayStrip h]
  generalize s.strip a = u at hroot hbar hstrip
  set v := (u.setAllot a { u.allot a with st := .removing }).raiseGen a with hv
  obtain ⟨hst, hstripped⟩ := hstrip.altBegin (st := .removing)
    (t := v.invalidate { root := .master a, removing := some a }) a rfl rfl
  have hmaster (e : Nat) : ((v.invalidate { root := .master a, removing := some a }).altBegin a).master e =
      if a = e then { s.master e with gen := ((s.master e).gen + 1) % 65536 } else s.master e := by
    have hu : (u.setAllot a { u.allot a with st := .removing }).master e = s.master e := State.master_congr hroot e
    rw [State.altBegin_master, State.invalidate_master, hv, State.master_raiseGen, hu]
  refine ⟨hst, ?_, ⟨hstripped, State.altBegin_inProgress _ a⟩, ?_, fun e he => ?_, by simp [hv, hbar]⟩
  · rw [State.altBegin_getF_ne _ _ (by decide), State.invalidate_invalidating]
  · rw [hmaster, if_pos rfl]
  · rw [hmaster, if_neg (Ne.symm he)]

/-! ### The ends of RESET and REMOVE (R147, R148) -/

/-- The end of a RESET: the allotment is ACTIVE, and the command that waits for it ends (R147). -/
def State.resetEnd (s : State) (a : Nat) : State :=
  ((s.setAllot a { s.allot a with st := .active }).post 0x3004 a 0 0).altEnd a St.done

theorem exec_altResetComplete (h : s.shown) (hst : (s.allot a).st = .resetting) :
    exec (.altResetComplete a) s = .next (s.resetEnd a) := by
  refine congrArg Host.Outcome.next ((State.whenLive_of_shown h _).trans ?_)
  simp [hst, State.resetEnd]

theorem State.resetEnd_spec (s : State) (a : Nat) : s.MovesTo a .active (s.resetEnd a) ∧
    (s.hif.altBusy = some a → (s.resetEnd a).getF Reg.ALT_RESULT_STATUS = 0 ∧ (s.resetEnd a).getF Reg.ALT_RESULT_IN_PROGRESS = 0) := by
  refine ⟨State.movesTo_of_setAllot (x := { s.allot a with st := .active }) ?_ ?_, fun hbusy => ?_⟩
  · simp [State.resetEnd]
  · simp [State.resetEnd]
  · exact State.altEnd_spec _ _ _ (by rw [State.post_hif, State.setAllot_hif, hbusy]) (by decide)

theorem State.logWrites_refreshAlert (s : State) : LogWrites s s.refreshAlert := .of_parts rfl rfl rfl rfl rfl

/-- A line of Thatch that freezes leaves the queues, the allotments and Barrow alone (R387). -/
theorem State.logWrites_freezeLine (s : State) (e n : Nat) : LogWrites s (s.freezeLine e n) := by
  unfold State.freezeLine
  extract_lets x s1 s2
  have h2 : LogWrites s s2 := by
    have h1 : LogWrites s (s1.setF Reg.THA_STATUS_FROZEN_ANY 1) := .of_parts rfl rfl rfl rfl rfl
    exact (h1.trans (State.logWrites_post _ _ _ _ _)).trans (State.logWrites_setF _ _ _)
  split
  · exact h2
  · exact ((h2.trans (State.logWrites_setF _ _ _)).trans (State.logWrites_hifEvent _ _)).trans (State.logWrites_refreshAlert _)

theorem State.logWrites_thaWrite (s : State) (e n off : Nat) (b : Bytes) : LogWrites s (s.thaWrite e n off b).2 := by
  unfold State.thaWrite
  dsimp only
  split
  · exact .refl s
  split
  · exact .refl s
  split
  · dsimp only
    split <;> exact .of_parts rfl rfl rfl rfl rfl
  · exact s.logWrites_freezeLine e n

theorem State.freeKey_root (s : State) (k : Nat) : (s.freeKey k).root = s.root :=
  (State.logWrites_thaWrite (s.setKslot k _) _ _ _ _).root

/-- Giving back the keys of a removed allotment clears its master entry, but for the generation, and no other (R147). -/
theorem State.master_removeKeys (s : State) (a e : Nat) :
    (s.removeKeys a).master e = if a = e then { gen := (s.master a).gen } else s.master e := by
  have hroot (ks : List Nat) : (ks.foldl State.freeKey s).root = s.root :=
    foldl_keeps (R := fun t u : State => u.root = t.root) (fun _ => rfl) (fun h k => k.trans h) State.freeKey_root ks s
  simp only [State.removeKeys, State.master_setMaster, State.master_congr (hroot _)]

theorem State.altRemoved_of_removing (hst : (s.allot a).st = .removing) (hinval : ∀ i ∈ s.bar.inval, i.removing ≠ some a) :
    s.altRemoved a = (((s.removeKeys a).setAllot a { (s.removeKeys a).allot a with st := .free, pasid := 0 }).post 0x3005 a 0 0).altEnd
      a St.done := by
  have hany : s.bar.inval.any (fun i => i.removing == some a) = false := by simpa using hinval
  simp [State.altRemoved, hst, hany]

/-- The end of a removal: the identifier is FREE and its master entry keeps the generation alone (R147, R148). -/
theorem State.altRemoved_spec (hst : (s.allot a).st = .removing) (hinval : ∀ i ∈ s.bar.inval, i.removing ≠ some a) :
    ((s.altRemoved a).allot a).st = .free ∧ ((s.altRemoved a).allot a).pasid = 0 ∧ ((s.altRemoved a).master a).present = false ∧
      ((s.altRemoved a).master a).gen = (s.master a).gen ∧ ∀ e, e ≠ a → (s.altRemoved a).master e = s.master e := by
  have hmaster := s.master_removeKeys a
  rw [State.altRemoved_of_removing hst hinval]
  generalize s.removeKeys a = u at hmaster
  set t := ((u.setAllot a { u.allot a with st := .free, pasid := 0 }).post 0x3005 a 0 0).altEnd a St.done with ht
  have hallot : t.allot a = { u.allot a with st := .free, pasid := 0 } :=
    (State.allot_congr (by simp [ht]) a).trans (State.allot_setAllot_same u a _)
  have hto (e : Nat) : t.master e = if a = e then { gen := (s.master a).gen } else s.master e :=
    (State.master_congr (by simp [ht]) e).trans (hmaster e)
  refine ⟨by rw [hallot], by rw [hallot], by rw [hto, if_pos rfl], by rw [hto, if_pos rfl], fun e he => ?_⟩
  rw [hto, if_neg (Ne.symm he)]

/-! ### Writes of `ALT_PASID` and `ALT_CFG` (R134, R143, R144) -/

/-- In `t` allotment `a` is `x`, and nothing else differs from `s`. -/
def State.AllotSet (s : State) (a : Nat) (x : Allot) (t : State) : Prop :=
  t = { s with allots := t.allots } ∧ t.allot a = x ∧ ∀ b, b ≠ a → t.allot b = s.allot b

theorem State.allotSet_setAllot (s : State) (a : Nat) (x : Allot) : s.AllotSet a x (s.setAllot a x) :=
  ⟨rfl, s.allot_setAllot_same a x, fun b hb => by rw [State.allot_setAllot, if_neg (Ne.symm hb)]⟩

theorem State.altConfig_steward (hsel : s.altSel = 2048) (val : Nat) :
    s.altConfig 0x10 val = s.setAllot 2048 { s.allot 2048 with pasid := val % 2 ^ 20, pasidEn := bit val 31 } := by
  simp [State.altConfig, hsel]

/-- The allotment takes a write of its configuration (R134). -/
def Allot.Configurable (x : Allot) : Prop := x.st = .quiesced ∨ x.st = .free

section
variable (hsel : s.altSel = a) (ha : a < 2048)
include hsel ha

theorem State.altConfig_quota (h : (s.allot a).Configurable) (val : Nat) : s.altConfig 0x14 val =
    if 4096 < val % 8192 then s.altRefused St.badOperand else s.setAllot a { s.allot a with quota := val % 8192 } := by
  have hne : a ≠ 2048 := by omega
  rcases h with h | h <;> simp [State.altConfig, hsel, hne, h]

/-- A PASID is taken in FREE, where CREATE checks it, and in QUIESCED where no other allotment uses it (R134, R143). -/
theorem State.altConfig_pasid (h : (s.allot a).Configurable) {val : Nat}
    (hp : (s.allot a).st = .free ∨ s.pasidFree a (val % 2 ^ 20) = true) :
    s.altConfig 0x10 val = s.setAllot a { s.allot a with pasid := val % 2 ^ 20 } := by
  have hne : a ≠ 2048 := by omega
  have htaken : ((s.allot a).st != .free && (s.allot a).st != .quiesced) = false := by rcases h with h | h <;> simp [h]
  have hclash : ((s.allot a).st == .quiesced && !s.pasidFree a (val % 2 ^ 20)) = false := by
    rcases hp with hp | hp
    · rw [hp]; rfl
    · rw [hp, Bool.not_true, Bool.and_false]
  simp only [State.altConfig, hsel, hne, htaken, hclash, Bool.false_eq_true, if_false, if_true]

theorem State.altConfig_pasid_clash (h : (s.allot a).st = .quiesced) {val : Nat} (hp : s.pasidFree a (val % 2 ^ 20) = false) :
    s.altConfig 0x10 val = s.altRefused St.badOperand := by
  have hne : a ≠ 2048 := by omega
  have htaken : ((s.allot a).st != .free && (s.allot a).st != .quiesced) = false := by simp [h]
  have hclash : ((s.allot a).st == .quiesced && !s.pasidFree a (val % 2 ^ 20)) = true := by rw [h, hp]; rfl
  simp only [State.altConfig, hsel, hne, htaken, hclash, Bool.false_eq_true, if_false, if_true]

theorem State.altConfig_conflict (hfree : (s.allot a).st ≠ .free) (hq : (s.allot a).st ≠ .quiesced) (off val : Nat) :
    s.altConfig off val = s.altRefused St.stateConflict := by
  have hne : a ≠ 2048 := by omega
  simp [State.altConfig, hsel, hne, hfree, hq]

end

end

/-! ### The obligation -/

/-- Settles O31, command by command: each by the equation of the command in the state of the selected allotment. -/
theorem allotmentCommandsByState : Obligations.AllotmentCommandsByState := by
  unfold Obligations.AllotmentCommandsByState
  refine ⟨fun s hs hsel => ⟨fun c hc => gives_altResult (exec_altCommand_steward hs hsel c hc) (by decide), fun val => ?_⟩,
    fun s a ha hs hsel => ?_⟩
  · exact ⟨_, exec_altConfigWrite hs (.inl rfl) (State.altConfig_steward hsel val), s.allotSet_setAllot 2048 _⟩
  intro x ends freed strips stripped refused
  have h : s.Selects a := ⟨hs, hsel, ha⟩
  have hstripped {t : State} (ht : t.Stripped a ∧ t.getF Reg.ALT_RESULT_IN_PROGRESS = 1) : stripped t := by
    obtain ⟨⟨hen, ht2s, hs2t, hbare⟩, hprogress⟩ := ht
    exact ⟨hen, ht2s, hs2t, hprogress, hbare⟩
  have hbusy (hno : s.mayStrip a = false) (hfree : x.st ≠ .free) (hrem : x.st ≠ .removing) :
      refused .altReset 0x0B01 ∧ refused .altRemove 0x0B01 :=
    ⟨gives_altResult (exec_altReset h (State.altReset_busy hfree hno)) (by decide),
      gives_altResult (exec_altRemove h (State.altRemove_busy hfree hrem hno)) (by decide)⟩
  refine ⟨fun hst hp => ?_, fun hst hp => ?_, fun hst => ?_, fun hf hr => ?_, fun hst => ?_, fun hst => ?_, fun hst => ?_,
    fun hst => ?_, fun hst hflight hwait hair hheld hroom => ?_, fun hst => ?_, fun hst => ?_, fun hst => ?_, fun hst => ?_,
    fun hst => ?_, fun hst => ?_, fun hst => ?_, fun hst => ?_, fun hst hn => ?_, fun hst => ?_, fun hst => ?_, fun hst => ?_,
    fun hst => ?_, fun hst hinval => ?_, fun val hst => ?_, fun val hst hp => ?_, fun off val hf hq hoff => ?_⟩
  · obtain ⟨hto, hstatus, hprogress, hallot, hqueues⟩ := State.altCreate_spec hst hp
    refine ⟨_, exec_altCreate h rfl, hto, hstatus, hprogress, ?_⟩
    rw [hallot]
    exact ⟨rfl, rfl, rfl, rfl, rfl, hqueues⟩
  · exact gives_altResult (exec_altCreate h (State.altCreate_clash hst hp)) (by decide)
  · exact gives_altResult (exec_altCreate h (State.altCreate_of_removing hst)) (by decide)
  · exact gives_altResult (exec_altCreate h (State.altCreate_of_ne hf hr)) (by decide)
  · exact ⟨_, exec_altQuiesce h rfl, State.altQuiesce_active_spec hst⟩
  · exact ⟨_, exec_altQuiesce h rfl, State.altQuiesce_pendingEnable_spec hst⟩
  · exact gives_altResult (exec_altQuiesce h (State.altQuiesce_of_quiesce hst)) (by decide)
  · exact gives_altResult (exec_altQuiesce h (State.altQuiesce_conflict hst)) (by decide)
  · exact ⟨_, exec_quiesceFence hs rfl, State.fence_spec hst ⟨hflight, hwait, hair⟩ ⟨hheld, hroom⟩⟩
  · exact ⟨_, exec_quiesceFence hs (State.fence_eq_self hst), rfl⟩
  · exact ⟨_, exec_altResume h rfl, State.altResume_quiesced_spec hst⟩
  · exact ⟨_, exec_altResume h rfl, State.altResume_quiescing_spec hst⟩
  · exact gives_altResult (exec_altResume h (State.altResume_of_active hst)) (by decide)
  · exact gives_altResult (exec_altResume h (State.altResume_conflict hst)) (by decide)
  · exact gives_altResult (exec_altResume h (State.altResume_of_resetting hst)) (by decide)
  · obtain ⟨hto, hroot, hstrip⟩ := State.altReset_spec (State.mayStrip_iff.mpr hst)
    exact ⟨_, exec_altReset h rfl, hto, hroot, hstripped hstrip⟩
  · exact ⟨gives_altResult (exec_altReset h (State.altReset_of_free hst)) (by decide),
      gives_altResult (exec_altRemove h (State.altRemove_of_free hst)) (by decide)⟩
  · exact hbusy (State.mayStrip_eq_false (by simp [x, hst]) fun _ => hn) (by simp [hst]) (by simp [hst])
  · obtain ⟨hfree, hrem, hq, hactive⟩ : x.st ≠ .free ∧ x.st ≠ .removing ∧ x.st ≠ .quiesced ∧ x.st ≠ .active := by
      rcases hst with hst | hst | hst <;> simp [hst]
    exact hbusy (State.mayStrip_eq_false hq (absurd · hactive)) hfree hrem
  · have hno : s.mayStrip a = false := State.mayStrip_eq_false (by simp [x, hst]) (by simp [x, hst])
    exact ⟨gives_altResult (exec_altReset h (State.altReset_busy (by simp [x, hst]) hno)) (by decide),
      gives_altResult (exec_altRemove h (State.altRemove_of_removing hst)) (by decide)⟩
  · exact ⟨_, exec_altResetComplete hs hst, s.resetEnd_spec a⟩
  · obtain ⟨hto, hinval, hstrip, hmasters⟩ := State.altRemove_spec (State.mayStrip_iff.mpr hst)
    exact ⟨_, exec_altRemove h rfl, hto, hinval, hstripped hstrip, hmasters⟩
  · exact ⟨_, exec_altRemoveComplete hs a, State.altRemoved_spec hst hinval⟩
  · have hquota := State.altConfig_quota hsel ha hst val
    refine ⟨fun hle => ?_, fun hlt => ?_, fun hp => ?_⟩
    · exact ⟨_, exec_altConfigWrite hs (.inr rfl) (hquota.trans (if_neg (by omega))), s.allotSet_setAllot a _⟩
    · exact gives_altRefused (exec_altConfigWrite hs (.inr rfl) (hquota.trans (if_pos hlt))) (by decide)
    · exact ⟨_, exec_altConfigWrite hs (.inl rfl) (State.altConfig_pasid hsel ha hst hp), s.allotSet_setAllot a _⟩
  · exact gives_altRefused (exec_altConfigWrite hs (.inl rfl) (State.altConfig_pasid_clash hsel ha hst hp)) (by decide)
  · exact gives_altRefused (exec_altConfigWrite hs hoff (State.altConfig_conflict hsel ha hf hq off val)) (by decide)

end Sys2Proof.Machine

/-!
PROOFS. Custodians (spec/08): how the work of a sink ends, and what each custodian command makes of the pending table and the root store; what
counting a failed signature, and ending or placing a graph, leave alone; how an entry goes on after a signature; and from these the obligation.
-/

namespace Sys2Proof.Machine

/-! ### The work of a sink (R213, R216) -/

/-- Without key handles nothing is resolved (R300). -/
theorem NoKeys.resolveAll {gr : Graph} (h : NoKeys gr) (s : State) (n : Nat) : s.resolveAll gr n = (gr, s) := by
  obtain ⟨h0, h1, h2⟩ := h
  simp [State.resolveAll, State.resolvePos, Graph.unresolved, Descriptor.handle, h0, h1, h2]

section
variable {c : Instr} {s u : State} {op g n x : Nat} {gr : Graph} {work : OpWork} (h : AtSink s op g gr n) (hk : NoKeys gr)
  (hexec : exec c s = .next (s.whenLive fun s => s.runOp op g work))
include h hk hexec

/-- A refusal by the work of a sink ends its node with the status, and leaves what the refusal leaves. -/
theorem AtSink.ends (hwork : work gr s = .fail u x) (hx : okStatus x = false) : Ends c s g n gr x u := by
  obtain ⟨hlive, hgr, -, hopen, -, hop, hcom, hin, hdue, hwait⟩ := h
  simp [Ends, hexec, State.whenLive, hlive, State.runOp, hgr, hopen, hop, hcom, hin, hdue, hwait, hk.resolveAll, hwork, OpRes.fail, hx]

/-- A success of the work of a sink commits its effects and its output, where the output buffer holds it (R216, R231). -/
theorem AtSink.commits {out : Bytes} (hwork : work gr s = .ok u out) (hlen : out.length ≤ gr.desc.outLen := by exact Nat.zero_le _) :
    Commits c s g n gr out u := by
  obtain ⟨hlive, hgr, -, hopen, hsink, hop, hcom, hin, hdue, hwait⟩ := h
  have hfits : ¬ gr.desc.outLen < out.length := by omega
  simp [Commits, hexec, State.whenLive, hlive, State.runOp, hgr, hopen, hop, hcom, hin, hdue, hwait, hk.resolveAll, hwork, OpRes.ok, hfits,
    okStatus, ← hsink, Graph.node, Graph.setNode]

/-- Work that waits for an ML-DSA-65 signature adds its verification to the graph, once (R162). -/
theorem AtSink.exec_verifying (hwork : work gr s = .verifying s) (hnone : gr.nodes.length = gr.tpl.nodes.length) :
    exec c s = .next ((s.setGraph g (some gr)).addVerify g) := by
  obtain ⟨hlive, hgr, -, hopen, hsink, hop, hcom, hin, hdue, hwait⟩ := h
  simp [hexec, State.whenLive, hlive, State.runOp, hgr, hopen, hop, hcom, hin, hdue, hwait, hk.resolveAll, hwork, OpRes.verifying,
    ← hsink, hnone]

end

/-! ### Folds over the entries of a table -/

/-- A fold whose every step acts on one entry of a table acts on each entry of its list once. -/
theorem foldl_entry {σ α : Type} {view : σ → Nat → α} {f : σ → Nat → σ} {F : α → α}
    (hf : ∀ s x j, view (f s x) j = if x = j then F (view s j) else view s j) {l : List Nat} (hl : l.Nodup) (s : σ) (j : Nat) :
    view (l.foldl f s) j = if j ∈ l then F (view s j) else view s j := by
  induction l generalizing s with
  | nil => simp
  | cons x l ih =>
    obtain ⟨hx, hl⟩ := List.nodup_cons.mp hl
    rw [List.foldl_cons, ih hl, hf]
    by_cases hj : x = j
    · subst hj; simp [hx]
    · simp [hj, Ne.symm hj]

/-- A part of the state that every step of a fold leaves alone is left alone by the fold. -/
theorem foldl_part {σ α β : Type} (part : σ → α) {f : σ → β → σ} (hf : ∀ s x, part (f s x) = part s) (l : List β) (s : σ) :
    part (l.foldl f s) = part s :=
  foldl_keeps (R := fun s t => part t = part s) (fun _ => rfl) (fun h k => k.trans h) hf l s

/-! ### Bits of a member set (R155, R161, R165) -/

theorem bit_setBit_same (v k : Nat) : bit (setBit v k) k = true := by
  simp [bit, setBit, Nat.testBit_or]

theorem bit_clrBit_same (v k : Nat) : bit (clrBit v k) k = false := by
  unfold bit clrBit
  split
  next h =>
    have hsub : (v - 2 ^ k) / 2 ^ k = v / 2 ^ k - 1 := by simpa using Nat.sub_mul_div v (2 ^ k) 1
    simp only [Nat.testBit_eq_decide_div_mod_eq, decide_eq_true_eq, decide_eq_false_iff_not] at h ⊢
    omega
  next h => simpa using h

/-! ### What posting leaves of the custodians' state -/

section
variable (s : State) (code key detail value : Nat)

@[simp] theorem State.post_pends : (s.post code key detail value).pends = s.pends := by rw [(s.recorded_post code key detail value).1]

@[simp] theorem State.post_pendE (j : Nat) : (s.post code key detail value).pendE j = s.pendE j := by simp [State.pendE]

@[simp] theorem State.post_cus (j : Nat) : (s.post code key detail value).cus j = s.cus j := by simp [State.cus]

@[simp] theorem State.post_cls (j : Nat) : (s.post code key detail value).cls j = s.cls j := by simp [State.cls]

/-- A field that recording counts nothing in keeps its value. -/
theorem State.post_getF {f : Fld} (hf : f.key ∉ logFields.map Fld.key) : (s.post code key detail value).getF f = s.getF f :=
  (s.recorded_post code key detail value).2 f hf

end

theorem State.cus_congr {s t : State} (h : t.root = s.root) (j : Nat) : t.cus j = s.cus j := by simp only [State.cus, h]

theorem State.cls_congr {s t : State} (h : t.root = s.root) (j : Nat) : t.cls j = s.cls j := by simp only [State.cls, h]

/-! ### CUS_LODGE (R160, R161) -/

/-- The record has the length and the form of R160. -/
structure ApprovalForm (b : Bytes) : Prop where
  magic : b.take 4 = magic 0x45 0x5A 0x41 0x50
  slot : byteAt b 4 ≤ 15
  verdict : byteAt b 5 = 1 ∨ byteAt b 5 = 2
  alg : byteAt b 6 = 1 ∨ byteAt b 6 = 2
  reserved : byteAt b 7 = 0
  length : b.length = approvalLen (byteAt b 6)

/-- The slot of a record may give its verdict on an entry: an enrolled member of the entry's class by the key it holds, or the candidate of an
enrolment, who may only approve (R161 step 3, R164). -/
abbrev State.MayLodge (s : State) (p : Pend) (slot alg verdict : Nat) : Prop :=
  ((s.cus slot).st = 1 ∧ (s.cus slot).alg = alg ∧ bit (s.cls p.cls).members slot = true) ∨
    ((s.cus slot).st ≠ 1 ∧ p.enrolSlot = some slot ∧ p.enrolAlg = alg ∧ verdict = 1)

/-- The slot holds a verdict on an entry already (R161 step 4). -/
abbrev Pend.HoldsVerdict (p : Pend) (slot : Nat) : Prop := (∃ a ∈ p.approvals, a.slot = slot) ∨ bit p.rejects slot = true

/-- A record in form passes the checks of the length and the form. -/
theorem ApprovalForm.passes {b : Bytes} (h : ApprovalForm b) :
    ¬ (decide (b.length < 0x28) || (decide (byteAt b 6 = 1) || decide (byteAt b 6 = 2)) && decide (b.length ≠ approvalLen (byteAt b 6))) = true ∧
    ¬ (decide (b.take 4 ≠ Machine.magic 0x45 0x5A 0x41 0x50) || decide (15 < byteAt b 4) ||
        (decide (byteAt b 5 ≠ 1) && decide (byteAt b 5 ≠ 2)) || (decide (byteAt b 6 ≠ 1) && decide (byteAt b 6 ≠ 2)) ||
        decide (byteAt b 7 ≠ 0)) = true := by
  obtain ⟨hmagic, hslot, hverdict, halg, hres, hlen⟩ := h
  have hlong : 0x28 ≤ b.length := by rw [hlen, approvalLen]; split <;> omega
  refine ⟨?_, ?_⟩
  · simp [hlen ▸ hlong, hlen]
  · simp [hmagic, hslot, hres]; omega

/-- Step 3 of R161 as CUS_LODGE decides it. -/
theorem State.not_mayLodge_iff {s : State} {p : Pend} {slot alg verdict : Nat} :
    (!(p.enrolSlot == some slot && (s.cus slot).st != 1 && verdict == 1 && alg == p.enrolAlg) &&
      !((s.cus slot).st == 1 && bit (s.cls p.cls).members slot && (s.cus slot).alg == alg)) = true ↔ ¬ s.MayLodge p slot alg verdict := by
  rw [← Bool.not_or, Bool.not_eq_true', ← Bool.not_eq_true, not_iff_not]
  simp only [Bool.or_eq_true, Bool.and_eq_true, beq_iff_eq, bne_iff_ne]
  tauto

/-- Step 4 of R161 as CUS_LODGE decides it. -/
theorem Pend.holdsVerdict_iff {p : Pend} {slot : Nat} :
    (p.approvals.any (fun a => a.slot == slot) || bit p.rejects slot) = true ↔ p.HoldsVerdict slot := by simp

section
variable {s : State} {gr : Graph} {e : Nat} (hf : ApprovalForm gr.inp)
include hf

theorem cusLodge_of_unknown (h : s.pendByDigest (slice gr.inp 8 32) = none) : cusLodge gr s = .fail s St.requestUnknown := by
  obtain ⟨hlen, hform⟩ := hf.passes
  simp only [cusLodge, h]
  rw [if_neg hlen, if_neg hform]

/-- CUS_LODGE of a record in form for an entry: the checks of R161 in their order, then what the verdict does. -/
theorem cusLodge_of_entry (h : s.pendByDigest (slice gr.inp 8 32) = some e) :
    cusLodge gr s =
      if (s.pendE e).st = 3 then .fail s St.requestUnknown
      else if ¬ s.MayLodge (s.pendE e) (byteAt gr.inp 4) (byteAt gr.inp 6) (byteAt gr.inp 5) then .fail s St.badOperand
      else if (s.pendE e).HoldsVerdict (byteAt gr.inp 4) then .fail s St.approvalDuplicate
      else if byteAt gr.inp 5 = 1 then
        .ok (s.storeApproval e ⟨byteAt gr.inp 4, byteAt gr.inp 6, gr.inp.take 0x28, gr.inp.drop 0x28⟩)
      else if byteAt gr.inp 6 = 2 ∧ gr.verified = false then .verifying s
      else if verifyPure (cusSet (byteAt gr.inp 6)) (s.cus (byteAt gr.inp 4)).pk [] (gr.inp.take 0x28) (gr.inp.drop 0x28) then
        .ok (s.storeReject e (byteAt gr.inp 4))
      else .fail ((s.bump Reg.CUS_BAD_SIG_COUNT).setF Reg.CUS_EVENT_BAD_SIG 1) St.verifyFailed := by
  obtain ⟨hlen, hform⟩ := hf.passes
  simp only [cusLodge, h]
  rw [if_neg hlen, if_neg hform]
  simp only [State.not_mayLodge_iff, Pend.holdsVerdict_iff]
  simp only [Bool.and_eq_true, decide_eq_true_eq, Bool.not_eq_true']

section
variable (h : s.pendByDigest (slice gr.inp 8 32) = some e)
include h

theorem cusLodge_of_rejected (hst : (s.pendE e).st = 3) : cusLodge gr s = .fail s St.requestUnknown := by
  rw [cusLodge_of_entry hf h, if_pos hst]

variable (hst : (s.pendE e).st ≠ 3)
include hst

theorem cusLodge_of_not_allowed (hno : ¬ s.MayLodge (s.pendE e) (byteAt gr.inp 4) (byteAt gr.inp 6) (byteAt gr.inp 5)) :
    cusLodge gr s = .fail s St.badOperand := by
  rw [cusLodge_of_entry hf h, if_neg hst, if_pos hno]

variable (hall : s.MayLodge (s.pendE e) (byteAt gr.inp 4) (byteAt gr.inp 6) (byteAt gr.inp 5))
include hall

theorem cusLodge_of_duplicate (hheld : (s.pendE e).HoldsVerdict (byteAt gr.inp 4)) : cusLodge gr s = .fail s St.approvalDuplicate := by
  rw [cusLodge_of_entry hf h, if_neg hst, if_neg (not_not_intro hall), if_pos hheld]

variable (hnone : ¬ (s.pendE e).HoldsVerdict (byteAt gr.inp 4))
include hnone

theorem cusLodge_of_approve (hv : byteAt gr.inp 5 = 1) : cusLodge gr s =
    .ok (s.storeApproval e ⟨byteAt gr.inp 4, byteAt gr.inp 6, gr.inp.take 0x28, gr.inp.drop 0x28⟩) := by
  rw [cusLodge_of_entry hf h, if_neg hst, if_neg (not_not_intro hall), if_neg hnone, if_pos hv]

theorem cusLodge_of_unverified (hv : byteAt gr.inp 5 = 2) (halg : byteAt gr.inp 6 = 2) (hver : gr.verified = false) :
    cusLodge gr s = .verifying s := by
  rw [cusLodge_of_entry hf h, if_neg hst, if_neg (not_not_intro hall), if_neg hnone, if_neg (by omega), if_pos ⟨halg, hver⟩]

/-- A reject whose signature can be judged now (R161, R162). -/
theorem cusLodge_of_reject (hv : byteAt gr.inp 5 = 2) (hready : byteAt gr.inp 6 = 1 ∨ gr.verified = true) : cusLodge gr s =
    if verifyPure (cusSet (byteAt gr.inp 6)) (s.cus (byteAt gr.inp 4)).pk [] (gr.inp.take 0x28) (gr.inp.drop 0x28) then
      .ok (s.storeReject e (byteAt gr.inp 4))
    else .fail ((s.bump Reg.CUS_BAD_SIG_COUNT).setF Reg.CUS_EVENT_BAD_SIG 1) St.verifyFailed := by
  have hnow : ¬ (byteAt gr.inp 6 = 2 ∧ gr.verified = false) := fun ⟨h2, hver⟩ =>
    hready.elim (fun h1 => by omega) fun htrue => by simp [hver] at htrue
  rw [cusLodge_of_entry hf h, if_neg hst, if_neg (not_not_intro hall), if_neg hnone, if_neg (by omega), if_neg hnow]

end

end

/-- An entry after a rejection of it: REJECTED, or marked where it is being verified (R161, R163, R166). -/
def Pend.rejected (p : Pend) : Pend :=
  if p.st = 1 then { p with st := 3 } else if p.st = 2 then { p with rejecting := true } else p

theorem State.pendE_reject (s : State) (e j : Nat) : (s.reject e).pendE j = if e = j then (s.pendE j).rejected else s.pendE j := by
  unfold State.reject Pend.rejected
  dsimp only
  by_cases hj : e = j
  · subst hj
    rw [if_pos rfl]
    split_ifs <;> simp
  · rw [if_neg hj]
    split_ifs <;> simp [State.pendE_setPend, hj]

theorem State.reject_root (s : State) (e : Nat) : (s.reject e).root = s.root := by
  unfold State.reject
  dsimp only
  split_ifs <;> rfl

theorem State.storeReject_root (s : State) (e slot : Nat) : (s.storeReject e slot).root = s.root := by
  unfold State.storeReject
  dsimp only
  split
  · rw [State.post_root, State.reject_root, State.setPend_root]
  · rfl

/-- A verified reject is stored in its entry, which it rejects where the rejects exceed n − k (R161). -/
theorem State.pendE_storeReject (s : State) (e slot : Nat) :
    (s.storeReject e slot).pendE e =
      (if s.nMembers (s.pendE e).cls - s.kEff (s.pendE e).cls < popCount 16 (setBit (s.pendE e).rejects slot) then
        Pend.rejected { s.pendE e with rejects := setBit (s.pendE e).rejects slot }
      else { s.pendE e with rejects := setBit (s.pendE e).rejects slot }) := by
  have hn (x : Pend) (c : Nat) : (s.setPend e x).nMembers c = s.nMembers c := rfl
  have hk (x : Pend) (c : Nat) : (s.setPend e x).kEff c = s.kEff c := rfl
  unfold State.storeReject
  simp only [hn, hk]
  split <;> simp [State.pendE_reject]

@[simp] theorem Pend.rejected_rejects (p : Pend) : p.rejected.rejects = p.rejects := by
  unfold Pend.rejected
  split_ifs <;> rfl

@[simp] theorem Pend.rejected_approvals (p : Pend) : p.rejected.approvals = p.approvals := by
  unfold Pend.rejected
  split_ifs <;> rfl

/-- A reject whose signature fails is counted and reported, and nothing else changes (R161). -/
theorem State.badReject_spec (s : State) : OnlyFields s ((s.bump Reg.CUS_BAD_SIG_COUNT).setF Reg.CUS_EVENT_BAD_SIG 1)
      [Reg.CUS_BAD_SIG_COUNT, Reg.CUS_EVENT_BAD_SIG] ∧
    ((s.bump Reg.CUS_BAD_SIG_COUNT).setF Reg.CUS_EVENT_BAD_SIG 1).getF Reg.CUS_BAD_SIG_COUNT =
      min (s.getF Reg.CUS_BAD_SIG_COUNT + 1) 0xFFFFFFFF := by
  refine ⟨(onlyFields_setF s _ _).trans (onlyFields_setF _ _ 1), ?_⟩
  rw [State.getF_setF_ne _ _ _ _ (by decide), State.bump, State.addF, State.getF_setF_same]
  exact Nat.mod_eq_of_lt (Nat.lt_of_le_of_lt (Nat.min_le_right _ _) (by decide))

/-- A verified reject is held by its entry, whose approvals stay; beyond n − k it makes the entry REJECTED (R161). -/
theorem State.storeReject_spec (s : State) (e slot : Nat) (hst : (s.pendE e).st = 1 ∨ (s.pendE e).st = 2) :
    let p := s.pendE e
    let q := (s.storeReject e slot).pendE e
    let full : Prop := s.nMembers p.cls - s.kEff p.cls < popCount 16 (setBit p.rejects slot)
    bit q.rejects slot = true ∧ q.approvals = p.approvals ∧ q.st = (if p.st = 1 ∧ full then 3 else p.st) ∧
      (p.st = 2 → full → q.rejecting = true) := by
  intro p q full
  have hq : q = if full then Pend.rejected { p with rejects := setBit p.rejects slot } else { p with rejects := setBit p.rejects slot } :=
    s.pendE_storeReject e slot
  by_cases hfull : full
  · rw [if_pos hfull] at hq
    refine ⟨by simp [hq, bit_setBit_same], by simp [hq], ?_, fun h2 _ => ?_⟩
    · rcases hst with h1 | h2 <;> simp [p, Pend.rejected, *]
    · simp [hq, Pend.rejected, h2]
  · rw [if_neg hfull] at hq
    exact ⟨by simp [hq, bit_setBit_same], by simp [hq], by simp [hq, hfull], fun _ h => absurd h hfull⟩

/-! ### CUS_CANCEL, CUS_ENROL and CUS_READ_SLOT (R164, R167, R169) -/

section
variable {s : State} {gr : Graph}

theorem cusCancel_of_unknown (hlen : gr.inp.length = 32) (h : s.pendByDigest gr.inp = none) : cusCancel gr s = .fail s St.requestUnknown := by
  simp [cusCancel, hlen, h]

theorem cusCancel_of_verifying {e : Nat} (hlen : gr.inp.length = 32) (h : s.pendByDigest gr.inp = some e) (hst : (s.pendE e).st = 2) :
    cusCancel gr s = .fail s St.busy := by
  simp [cusCancel, hlen, h, hst]

theorem cusCancel_of_entry {e : Nat} (hlen : gr.inp.length = 32) (h : s.pendByDigest gr.inp = some e) (hst : (s.pendE e).st ≠ 2) :
    cusCancel gr s = .ok (s.freePend e) := by
  simp [cusCancel, hlen, h, hst]

theorem State.pendE_freePend_same (s : State) (e : Nat) : (s.freePend e).pendE e = {} := s.pendE_setPend_same e {}

theorem State.pendE_freePend_ne (s : State) {e j : Nat} (h : j ≠ e) : (s.freePend e).pendE j = s.pendE j :=
  (s.pendE_setPend e j {}).trans (if_neg h.symm)

/-- CUS_ENROL in form: refused for an enrolled slot, otherwise the slot takes the key (R164). -/
theorem cusEnrol_of_form (hslot : byteAt gr.inp 0 ≤ 15) (halg : byteAt gr.inp 1 = 1 ∨ byteAt gr.inp 1 = 2)
    (hlen : gr.inp.length = 4 + cusKeyLen (byteAt gr.inp 1)) (hres : leAt gr.inp 2 2 = 0) :
    cusEnrol gr s = if (s.cus (byteAt gr.inp 0)).st = 1 then .fail s St.badOperand
      else .ok ((s.setCus (byteAt gr.inp 0) ⟨1, byteAt gr.inp 1, gr.inp.drop 4⟩).post 0xD006 (byteAt gr.inp 0) (byteAt gr.inp 1) 0) := by
  have hin : ¬ 15 < byteAt gr.inp 0 := by omega
  have hform : ¬ (decide (gr.inp.length < 4) ||
      (decide (byteAt gr.inp 1 = 1) || decide (byteAt gr.inp 1 = 2)) && decide (gr.inp.length ≠ 4 + cusKeyLen (byteAt gr.inp 1))) = true := by
    simp [hlen]
  simp only [cusEnrol]
  rw [if_neg hform]
  have hall : (decide (15 < byteAt gr.inp 0) || (decide (byteAt gr.inp 1 ≠ 1) && decide (byteAt gr.inp 1 ≠ 2)) ||
      decide (leAt gr.inp 2 2 ≠ 0) || decide ((s.cus (byteAt gr.inp 0)).st = 1)) = decide ((s.cus (byteAt gr.inp 0)).st = 1) := by
    rcases halg with h | h <;> simp [hin, hres, h]
  simp only [hall, decide_eq_true_eq]

theorem cusReadSlot_of_form (hlen : gr.inp.length = 4) (hslot : byteAt gr.inp 0 ≤ 15) (hres : leAt gr.inp 1 3 = 0) :
    cusReadSlot gr s = .ok s (le 1 (s.cus (byteAt gr.inp 0)).st ++ le 1 (s.cus (byteAt gr.inp 0)).alg ++ zeros 2 ++
      (s.cus (byteAt gr.inp 0)).pk) := by
  simp [cusReadSlot, hlen, hslot, hres]

end

/-! ### CUS_REVOKE (R165) -/

/-- A class without a slot. -/
def CusClass.drop (x : CusClass) (slot : Nat) : CusClass := { x with members := clrBit x.members slot }

/-- An entry without the verdict of a slot. -/
def Pend.drop (p : Pend) (slot : Nat) : Pend :=
  { p with
    approvals := p.approvals.filter (fun a => a.slot != slot), rejects := clrBit p.rejects slot, verified := clrBit p.verified slot }

/-- The module without a slot's key and member bits: the part of a revocation in the root store. -/
def State.dropMember (s : State) (slot : Nat) : State :=
  (List.range 6).foldl (fun s c => s.setCls c ((s.cls c).drop slot)) (s.setCus slot ⟨2, 0, []⟩)

theorem State.revokeSlot_eq (s : State) (slot : Nat) :
    s.revokeSlot slot = (List.range 64).foldl (fun s e => if (s.pendE e).st = 0 then s else s.setPend e ((s.pendE e).drop slot))
      (s.dropMember slot) := rfl

theorem State.revokeSlot_root (s : State) (slot : Nat) : (s.revokeSlot slot).root = (s.dropMember slot).root := by
  rw [State.revokeSlot_eq]
  refine foldl_part State.root (fun t e => ?_) _ _
  split <;> rfl

theorem State.dropMember_slots (s : State) (slot : Nat) : (s.dropMember slot).root.slots = (s.setCus slot ⟨2, 0, []⟩).root.slots := by
  refine foldl_part (fun s : State => s.root.slots) (fun t c => ?_) _ _
  rfl

theorem State.dropMember_pends (s : State) (slot : Nat) : (s.dropMember slot).pends = s.pends := by
  refine (foldl_part State.pends (fun t c => ?_) _ _).trans ?_ <;> rfl

theorem State.cus_revokeSlot (s : State) (slot j : Nat) : (s.revokeSlot slot).cus j = if slot = j then ⟨2, 0, []⟩ else s.cus j := by
  rw [State.cus_congr (s.revokeSlot_root slot), ← State.cus_setCus]
  simp only [State.cus, State.dropMember_slots]

theorem State.cls_revokeSlot (s : State) (slot : Nat) {c : Nat} (hc : c < 6) : (s.revokeSlot slot).cls c = (s.cls c).drop slot := by
  rw [State.cls_congr (s.revokeSlot_root slot)]
  have hstep (t : State) (x j : Nat) : (t.setCls x ((t.cls x).drop slot)).cls j = if x = j then (t.cls j).drop slot else t.cls j := by
    rw [State.cls_setCls]
    split
    next h => rw [h]
    next => rfl
  exact (foldl_entry (view := State.cls) (F := (CusClass.drop · slot)) hstep List.nodup_range _ c).trans (if_pos (List.mem_range.mpr hc))

theorem State.pendE_revokeSlot (s : State) (slot : Nat) {e : Nat} (he : e < 64) :
    (s.revokeSlot slot).pendE e = if (s.pendE e).st = 0 then s.pendE e else (s.pendE e).drop slot := by
  have hstep (t : State) (x j : Nat) : (if (t.pendE x).st = 0 then t else t.setPend x ((t.pendE x).drop slot)).pendE j =
      if x = j then (if (t.pendE j).st = 0 then t.pendE j else (t.pendE j).drop slot) else t.pendE j := by
    by_cases hx : x = j
    · subst hx
      split <;> simp
    · split <;> simp [State.pendE_setPend, hx]
  have hbase : (s.dropMember slot).pendE e = s.pendE e := by simp only [State.pendE, State.dropMember_pends]
  rw [State.revokeSlot_eq, foldl_entry (view := State.pendE) (F := fun p => if p.st = 0 then p else p.drop slot) hstep List.nodup_range,
    if_pos (List.mem_range.mpr he), hbase]

/-- The enrolled members a class keeps without a slot (R165). -/
def State.membersLeft (s : State) (slot c : Nat) : Nat :=
  if bit (s.cls c).members slot then s.nMembers c - 1 else s.nMembers c

theorem State.nMembers_sub_member (s : State) (slot c : Nat) :
    s.nMembers c - b2n (bit (s.cls c).members slot) = s.membersLeft slot c := by
  unfold State.membersLeft b2n
  split <;> rfl

section
variable {s : State} {gr : Graph} (hlen : gr.inp.length = 4) (hres : leAt gr.inp 1 3 = 0) (hst : (s.cus (byteAt gr.inp 0)).st = 1)
include hlen hres hst

/-- CUS_REVOKE is refused where a class would keep fewer members than its effective threshold (R165). -/
theorem cusRevoke_of_short {c : Nat} (hc : c < 6) (hshort : s.membersLeft (byteAt gr.inp 0) c < s.kEff c) :
    cusRevoke gr s = .fail s St.badOperand := by
  have hany : ∃ c, c < 6 ∧ s.membersLeft (byteAt gr.inp 0) c < s.kEff c := ⟨c, hc, hshort⟩
  simp [cusRevoke, hlen, hres, hst, State.nMembers_sub_member, hany]

theorem cusRevoke_of_enough (hslot : byteAt gr.inp 0 ≤ 15) (h : ∀ c, c < 6 → s.kEff c ≤ s.membersLeft (byteAt gr.inp 0) c) :
    cusRevoke gr s = .ok ((s.revokeSlot (byteAt gr.inp 0)).post 0xD007 (byteAt gr.inp 0) 0 0) := by
  have hin : ¬ 15 < byteAt gr.inp 0 := by omega
  have hnone : ¬ ∃ c, c < 6 ∧ s.membersLeft (byteAt gr.inp 0) c < s.kEff c := fun ⟨c, hc, hlt⟩ => absurd (h c hc) (by omega)
  simp [cusRevoke, hlen, hin, hres, hst, State.nMembers_sub_member, hnone]

end

/-! ### CUS_SET_CLASS (R166) -/

/-- The class takes its new members and threshold, and its entries are rejected. -/
def State.replaceClass (s : State) (c : Nat) (x : CusClass) : State :=
  (List.range 64).foldl (fun s e => if ((s.pendE e).st = 1 || (s.pendE e).st = 2) && (s.pendE e).cls = c then s.reject e else s) (s.setCls c x)

theorem State.replaceClass_root (s : State) (c : Nat) (x : CusClass) : (s.replaceClass c x).root = (s.setCls c x).root := by
  refine foldl_part State.root (fun t e => ?_) _ _
  split
  · exact t.reject_root e
  · rfl

theorem State.cls_replaceClass (s : State) (c : Nat) (x : CusClass) (j : Nat) :
    (s.replaceClass c x).cls j = if c = j then x else s.cls j := by
  rw [State.cls_congr (s.replaceClass_root c x), State.cls_setCls]

theorem State.pendE_replaceClass (s : State) (c : Nat) (x : CusClass) {e : Nat} (he : e < 64) (hcls : (s.pendE e).cls = c)
    (hst : (s.pendE e).st = 1 ∨ (s.pendE e).st = 2) : (s.replaceClass c x).pendE e = (s.pendE e).rejected := by
  have hstep (t : State) (i j : Nat) :
      (if ((t.pendE i).st = 1 || (t.pendE i).st = 2) && (t.pendE i).cls = c then t.reject i else t).pendE j =
        if i = j then (if ((t.pendE j).st = 1 || (t.pendE j).st = 2) && (t.pendE j).cls = c then (t.pendE j).rejected else t.pendE j)
        else t.pendE j := by
    by_cases hi : i = j
    · subst hi
      split <;> simp [State.pendE_reject]
    · split <;> simp [State.pendE_reject, hi]
  refine (foldl_entry (view := State.pendE)
    (F := fun p => if (p.st = 1 || p.st = 2) && p.cls = c then p.rejected else p) hstep List.nodup_range _ e).trans ?_
  rw [if_pos (List.mem_range.mpr he), if_pos]
  · rfl
  · show (((s.pendE e).st = 1 || (s.pendE e).st = 2) && (s.pendE e).cls = c) = true
    simpa [hcls] using hst

section
variable {s : State} {gr : Graph} (hlen : gr.inp.length = 8) (hcls : byteAt gr.inp 0 ≤ 5) (hres : leAt gr.inp 4 4 = 0)
include hlen hcls hres

/-- CUS_SET_CLASS in form: refused for a member that is not enrolled and for a threshold out of its range (R166). -/
theorem cusSetClass_of_form : cusSetClass gr s =
    if leAt gr.inp 2 2 &&& s.enrolled ≠ leAt gr.inp 2 2 ∨ byteAt gr.inp 1 = 0 ∨ popCount 16 (leAt gr.inp 2 2) < byteAt gr.inp 1 ∨
      (s.lc.st = 2 ∧ byteAt gr.inp 1 < 2) then .fail s St.badOperand
    else .ok (((s.replaceClass (byteAt gr.inp 0) ⟨leAt gr.inp 2 2, byteAt gr.inp 1⟩).setF Reg.CUS_EVENT_CLASS_CHANGED 1).post
      0xD008 (byteAt gr.inp 0) (byteAt gr.inp 1) (leAt gr.inp 2 2)) := by
  have hin : ¬ 5 < byteAt gr.inp 0 := by omega
  simp [cusSetClass, State.replaceClass, hlen, hin, hres, or_assoc]

end

/-! ### The operating time stays while an event is recorded (R425 to R430) -/

theorem Cairn.write_opTime {c d : Cairn} {flags code : Nat} {p : Bytes} (h : c.write flags code p = some d) : d.opTime = c.opTime := by
  unfold Cairn.write at h
  dsimp only at h
  split at h
  · cases h; rfl
  · split at h
    · cases h; rfl
    · contradiction

section
variable {s t : State}

theorem State.cairnWrite_opTime {flags code : Nat} {p : Bytes} (h : s.cairnWrite flags code p = some t) :
    t.cairn.opTime = s.cairn.opTime := by
  obtain ⟨c, hc, rfl⟩ := Option.map_eq_some_iff.mp h
  exact Cairn.write_opTime hc

theorem State.takeTimer_cairn {list due : Nat} {o : Owner} (h : s.takeTimer list due o = some t) : t.cairn = s.cairn := by
  unfold State.takeTimer at h
  split at h
  · cases h; rfl
  · contradiction

theorem State.cairnQueue_opTime (s : State) (e : CairnEvent) : (s.cairnQueue e).cairn.opTime = s.cairn.opTime := by
  unfold State.cairnQueue
  split <;> rfl

theorem Cairn.freezeTally_opTime (c : Cairn) (code key : Nat) : (c.freezeTally code key).opTime = c.opTime := by
  unfold Cairn.freezeTally
  split
  · rfl
  · split <;> rfl

theorem State.cairnAccept_opTime {e : CairnEvent} (h : s.cairnAccept e = some t) : t.cairn.opTime = s.cairn.opTime := by
  unfold State.cairnAccept at h
  split at h
  · split at h <;> cases h
    · rfl
    · exact Cairn.freezeTally_opTime _ _ _
  split at h
  · exact State.cairnWrite_opTime h
  split at h
  · split at h
    · split at h
      · obtain ⟨u, hu, rfl⟩ := Option.map_eq_some_iff.mp h
        exact (State.cairnWrite_opTime hu :)
      · cases h; rfl
    · cases h; rfl
  · obtain ⟨u, hu, rfl⟩ := Option.map_eq_some_iff.mp h
    refine Eq.trans ?_ (State.cairnWrite_opTime hu)
    split
    next v hv => exact (congrArg Cairn.opTime (State.takeTimer_cairn hv) :)
    next =>
      dsimp only
      split
      · rfl
      · exact State.cairnQueue_opTime _ _

theorem State.cairnDrain_opTime (n : Nat) (s : State) : (State.cairnDrain n s).cairn.opTime = s.cairn.opTime := by
  induction n generalizing s with
  | zero => rfl
  | succ n ih =>
    unfold State.cairnDrain
    split
    · rfl
    · split
      next t ht => exact (ih t).trans (State.cairnAccept_opTime ht :)
      next => rfl

theorem State.cairnDropped_opTime (s : State) : s.cairnDropped.cairn.opTime = s.cairn.opTime := by
  unfold State.cairnDropped
  split
  · rfl
  · split
    next t ht => exact (State.cairnWrite_opTime ht :)
    next => rfl

theorem State.postRaw_opTime (s : State) (code key : Nat) (p : Bytes) (flags : Nat) :
    (s.postRaw code key p flags).cairn.opTime = s.cairn.opTime :=
  ((State.cairnDropped_opTime _).trans (State.cairnDrain_opTime _ _)).trans (State.cairnQueue_opTime _ _)

end

/-! ### Counts and records: what they leave alone -/

/-- The field is not the state of a meadow (R200). -/
abbrev Fld.OffMeadows (f : Fld) : Prop := ∀ m < 8, f.key ≠ (Reg.DRV_MDW_STAT_STATE m).key

/-- `t` is `s` but for register fields other than the states of the meadows, the recorder and the timers; the operating time stands still. -/
structure Counted (s t : State) : Prop where
  parts : t = { s with regs := t.regs, cairn := t.cairn, drv := { s.drv with timers := t.drv.timers } }
  mdw : ∀ m < 8, t.mdwState m = s.mdwState m
  opTime : t.cairn.opTime = s.cairn.opTime

namespace Counted

theorem refl (s : State) : Counted s s := ⟨rfl, fun _ _ => rfl, rfl⟩

theorem trans {s t u : State} (h : Counted s t) (k : Counted t u) : Counted s u where
  parts := by rw [k.parts, h.parts]
  mdw m hm := (k.mdw m hm).trans (h.mdw m hm)
  opTime := k.opTime.trans h.opTime

section
variable {s t : State} (h : Counted s t)
include h

theorem root_eq : t.root = s.root := by rw [h.parts]
theorem lc_eq : t.lc = s.lc := by rw [h.parts]
theorem hif_eq : t.hif = s.hif := by rw [h.parts]
theorem pends_eq : t.pends = s.pends := by rw [h.parts]
theorem graphs_eq : t.drv.graphs = s.drv.graphs := by rw [h.parts]
theorem mdwGoal_eq : t.drv.mdwGoal = s.drv.mdwGoal := by rw [h.parts]

end

end Counted

section
variable (s : State)

theorem State.counted_setF (f : Fld) (v : Nat) (hf : f.OffMeadows := by decide) : Counted s (s.setF f v) :=
  ⟨rfl, fun m hm => State.getF_setF_ne s f _ v (hf m hm), rfl⟩

theorem State.counted_bump (f : Fld) (hf : f.OffMeadows := by decide) : Counted s (s.bump f) := s.counted_setF f _ hf

theorem State.counted_postRaw (code key : Nat) (p : Bytes) (flags : Nat) : Counted s (s.postRaw code key p flags) := by
  obtain ⟨hparts, hfields⟩ : Recorded s (s.postRaw code key p flags) :=
    ((s.recorded_cairnQueue _).trans (State.recorded_cairnDrain _ _)).trans (State.recorded_cairnDropped _)
  have hoff : ∀ m < 8, (Reg.DRV_MDW_STAT_STATE m).key ∉ logFields.map Fld.key := by decide
  exact ⟨hparts, fun m hm => hfields _ (hoff m hm), s.postRaw_opTime code key p flags⟩

theorem State.counted_post (code key detail value : Nat) : Counted s (s.post code key detail value) := s.counted_postRaw code key _ 0

/-- A mismatch of the hub's digest engines is counted and recorded (R285, R404). -/
theorem State.counted_noteMismatch : Counted s s.noteMismatch := by
  unfold State.noteMismatch State.noteTrip State.countTrip
  have hcount : Counted s ((s.bump (Reg.GOR_MON_STAT_TRIPS 22)).postRaw 0xB001 22 (le 2 22 ++ le 2 22 ++ le 4 (s.resp 22)) 0) :=
    (s.counted_bump _).trans (State.counted_postRaw _ _ _ _ _)
  dsimp only
  split
  · exact hcount
  · exact (hcount.trans (State.counted_setF _ _ _)).trans (State.counted_bump _ _)

end

/-! ### The end of a graph (R180, R217 to R219): what it leaves alone -/

/-- The states of the meadows, the restarts that wait and the ABORTs in progress stay (R84, R211). -/
structure RestartsKept (s t : State) : Prop where
  mdw : ∀ m < 8, t.mdwState m = s.mdwState m
  goal : t.drv.mdwGoal = s.drv.mdwGoal
  aborts : t.hif.aborts = s.hif.aborts

/-- What ending and placing graphs, and their completions, leave alone beside that: the pending table and the root store; and no graph
comes into being. -/
structure GraphWrites (s t : State) : Prop extends RestartsKept s t where
  pends : t.pends = s.pends
  root : t.root = s.root
  gone : ∀ g, s.graph g = none → t.graph g = none

theorem RestartsKept.trans {s t u : State} (h : RestartsKept s t) (k : RestartsKept t u) : RestartsKept s u where
  mdw m hm := (k.mdw m hm).trans (h.mdw m hm)
  goal := k.goal.trans h.goal
  aborts := k.aborts.trans h.aborts

theorem Counted.restartsKept {s t : State} (h : Counted s t) : RestartsKept s t := ⟨h.mdw, h.mdwGoal_eq, by rw [h.hif_eq]⟩

namespace GraphWrites

theorem refl (s : State) : GraphWrites s s := ⟨⟨fun _ _ => rfl, rfl, rfl⟩, rfl, rfl, fun _ => id⟩

theorem trans {s t u : State} (h : GraphWrites s t) (k : GraphWrites t u) : GraphWrites s u where
  toRestartsKept := h.toRestartsKept.trans k.toRestartsKept
  pends := k.pends.trans h.pends
  root := k.root.trans h.root
  gone g := k.gone g ∘ h.gone g

theorem of_parts {s t : State} (hregs : t.regs = s.regs := by rfl) (hgraphs : t.drv.graphs = s.drv.graphs := by rfl)
    (hgoal : t.drv.mdwGoal = s.drv.mdwGoal := by rfl) (haborts : t.hif.aborts = s.hif.aborts := by rfl)
    (hpends : t.pends = s.pends := by rfl) (hroot : t.root = s.root := by rfl) : GraphWrites s t where
  mdw m _ := by simp only [State.mdwState, State.getF, hregs]
  goal := hgoal
  aborts := haborts
  pends := hpends
  root := hroot
  gone g := by simp only [State.graph, hgraphs]; exact id

theorem of_counted {s t : State} (h : Counted s t) : GraphWrites s t where
  toRestartsKept := h.restartsKept
  pends := h.pends_eq
  root := h.root_eq
  gone g := by simp only [State.graph, h.graphs_eq]; exact id

/-- A store into a graph that was there, or of no graph. -/
theorem setGraph {s t : State} (h : GraphWrites s t) {g : Nat} {x : Option Graph} (hx : s.graph g = none → x = none) :
    GraphWrites s (t.setGraph g x) where
  mdw := h.mdw
  goal := h.goal
  aborts := h.aborts
  pends := h.pends
  root := h.root
  gone j hj := by
    rw [State.graph_setGraph]
    split
    next hg => exact hx (hg ▸ hj)
    next => exact h.gone j hj

/-- A store into a graph that is there. -/
theorem setGraph_of_some {s : State} {g : Nat} {gr : Graph} (hgr : s.graph g = some gr) (x : Option Graph) :
    GraphWrites s (s.setGraph g x) :=
  (refl s).setGraph fun hno => absurd (hgr.symm.trans hno) (by simp)

end GraphWrites

section
variable (s : State)

theorem State.graphWrites_setF (f : Fld) (v : Nat) (hf : f.OffMeadows := by decide) : GraphWrites s (s.setF f v) :=
  .of_counted (s.counted_setF f v hf)

theorem State.graphWrites_post (code key detail value : Nat) : GraphWrites s (s.post code key detail value) :=
  .of_counted (s.counted_post code key detail value)

/-! #### Messages and requests to host memory -/

theorem State.graphWrites_sendMsix (v : Nat) : GraphWrites s (s.sendMsix v) := by
  unfold State.sendMsix
  dsimp only
  split <;> exact .of_parts

theorem State.graphWrites_hifEvent (f : Fld) (hf : f.OffMeadows := by decide) : GraphWrites s (s.hifEvent f) := by
  unfold State.hifEvent
  dsimp only
  split
  · exact (s.graphWrites_setF f 1 hf).trans (State.graphWrites_sendMsix _ 0)
  · exact s.graphWrites_setF f 1 hf

theorem State.graphWrites_dma (o : Out) : GraphWrites s (s.dma o) := by
  unfold State.dma
  split
  · exact .refl s
  · exact .of_parts

theorem State.graphWrites_translate (a addr n : Nat) : GraphWrites s (s.translate a addr n) := by
  unfold State.translate
  split
  · exact foldl_keeps .refl .trans (fun t _ => t.graphWrites_dma _) _ s
  · exact .refl s

theorem State.graphWrites_readInput (qid addr n : Nat) : GraphWrites s (s.readInput qid addr n) := by
  unfold State.readInput
  split
  · exact .refl s
  · exact (s.graphWrites_translate _ _ _).trans (State.graphWrites_dma _ _)

theorem State.graphWrites_flushOne (a : Nat) : GraphWrites s (s.flushOne a) := by
  unfold State.flushOne
  dsimp only
  split
  · exact .refl s
  · exact GraphWrites.trans .of_parts (State.graphWrites_dma _ _)

theorem State.graphWrites_evict (n : Nat) : GraphWrites s (s.evict n) := by
  induction n generalizing s with
  | zero => exact .refl s
  | succ n ih =>
    unfold State.evict
    split
    · exact (s.graphWrites_flushOne _).trans (ih _)
    · exact .refl s

theorem State.graphWrites_logWrite (a : Nat) (ps : List (Nat × Nat)) : GraphWrites s (s.logWrite a ps) := by
  unfold State.logWrite
  dsimp only
  split
  · refine (s.graphWrites_evict (s.cached + (s.allot a).log.newRecords ps - cacheRoom)).trans ?_
    generalize s.evict _ = t
    exact .of_parts
  · exact .refl s

/-! #### Completions -/

theorem State.graphWrites_queueError (qid kind : Nat) : GraphWrites s (s.queueError qid kind) := by
  unfold State.queueError
  extract_lets q s1 s2
  have h1 : GraphWrites s s1 := .of_parts
  have h2 : GraphWrites s1 s2 := by
    dsimp only [s2]
    split
    · exact .refl s1
    · exact ((((s1.graphWrites_setF _ _).trans (State.graphWrites_setF _ _ _)).trans (State.graphWrites_setF _ _ _)).trans
        (State.graphWrites_setF _ _ _)).trans (State.graphWrites_setF _ _ _)
  exact ((h1.trans h2).trans (State.graphWrites_hifEvent _ _)).trans (State.graphWrites_post _ _ _ _ _)

theorem State.graphWrites_signal (qid : Nat) : GraphWrites s (s.signal qid) := by
  unfold State.signal
  dsimp only
  split
  · exact .refl s
  split
  · exact s.graphWrites_sendMsix _
  split
  · exact GraphWrites.trans .of_parts (State.graphWrites_sendMsix _ _)
  · exact .of_parts

theorem State.graphWrites_writeNow (qid outAddr buf : Nat) (out : Bytes) (c : Cpl) : GraphWrites s (s.writeNow qid outAddr buf out c) := by
  unfold State.writeNow
  extract_lets q a q1 at_ bad s1 s2 c1 s3 ps next s4 s5
  split
  · exact .of_parts
  have h1 : GraphWrites s s1 := by
    dsimp only [s1]
    split
    · exact .refl s
    · exact s.graphWrites_translate _ _ _
  have h2 : GraphWrites s s2 := by
    dsimp only [s2]
    split
    · exact h1
    · exact h1.trans (State.graphWrites_dma _ _)
  have h3 : GraphWrites s s3 := h2.trans (State.graphWrites_translate _ _ _ _)
  split
  · have hq : GraphWrites s (s3.setQueue qid q1) := h3.trans .of_parts
    exact (hq.trans (State.graphWrites_logWrite _ _ _)).trans (State.graphWrites_queueError _ _ _)
  · have h5 : GraphWrites s s5 := (h3.trans (State.graphWrites_dma _ _)).trans .of_parts
    exact (h5.trans (State.graphWrites_logWrite _ _ _)).trans (State.graphWrites_signal _ _)

theorem State.graphWrites_complete (qid outAddr buf : Nat) (out : Bytes) (c : Cpl) : GraphWrites s (s.complete qid outAddr buf out c) := by
  unfold State.complete
  dsimp only
  split
  · exact .of_parts
  · exact s.graphWrites_writeNow _ _ _ _ _

theorem State.graphWrites_completeRecord (qid : Nat) (d : Descriptor) (record : Bytes) : GraphWrites s (s.completeRecord qid d record) := by
  unfold State.completeRecord
  exact GraphWrites.trans .of_parts (State.graphWrites_complete _ _ _ _ _ _)

/-! #### Timers, ready lists and slots -/

theorem State.graphWrites_timer (list due : Nat) (o : Owner) : GraphWrites s (s.timer list due o).2 := by
  unfold State.timer State.takeTimer
  split
  next t h =>
    split at h
    · cases h; exact .of_parts
    · contradiction
  next =>
    exact ((GraphWrites.of_counted (s.counted_bump _)).trans (State.graphWrites_setF _ _ _)).trans (State.graphWrites_post _ _ _ _ _)

theorem State.graphWrites_armIdle (m : Nat) : GraphWrites s (s.armIdle m) := by
  unfold State.armIdle
  dsimp only
  split
  · exact .refl s
  · exact s.graphWrites_timer _ _ _

theorem State.graphWrites_relist (k : Nat) : GraphWrites s (s.relist k) := by
  unfold State.relist
  dsimp only
  exact GraphWrites.trans .of_parts (foldl_keeps .refl .trans (fun _ _ => .of_parts) _ _)

theorem State.graphWrites_dropReady (p : Work → Bool) : GraphWrites s (s.dropReady p) := by
  unfold State.dropReady
  exact GraphWrites.trans .of_parts (foldl_keeps .refl .trans State.graphWrites_relist _ _)

theorem State.counted_refreshBp : Counted s s.refreshBp := by
  unfold State.refreshBp
  extract_lets was b t
  have ht : Counted s t := (((s.counted_setF _ _).trans (State.counted_setF _ _ _)).trans (State.counted_setF _ _ _)).trans
    (State.counted_setF _ _ _)
  split
  · exact ht.trans (State.counted_post _ _ _ _ _)
  · exact ht

theorem State.graphWrites_wakeSlot (k : Nat) : GraphWrites s (s.wakeSlot k) := by
  unfold State.wakeSlot
  split
  next e he =>
    extract_lets s1 d s2
    have h2 : GraphWrites s s2 := by
      dsimp only [s2]
      split <;> exact .of_parts
    split
    next g n hw =>
      split
      next gr hgr =>
        extract_lets s3
        have h3 : GraphWrites s2 s3 := by
          dsimp only [s3]
          split
          · exact s2.graphWrites_readInput _ _ _
          · exact .refl s2
        exact h2.trans (h3.setGraph fun hno => absurd (hgr.symm.trans hno) (by simp))
      next => exact h2
    next => exact h2
  next => exact .refl s

theorem State.graphWrites_freeSlot (k : Nat) : GraphWrites s (s.freeSlot k) := by
  unfold State.freeSlot
  extract_lets was s1
  have h1 : GraphWrites s s1 := .of_parts
  refine GraphWrites.trans ?_ (State.graphWrites_armIdle _ _)
  split
  · exact h1.trans (s1.graphWrites_wakeSlot _)
  · exact h1

theorem State.graphWrites_stopSlot (k : Nat) : GraphWrites s (s.stopSlot k) := by
  unfold State.stopSlot
  split
  · split
    · exact s.graphWrites_freeSlot k
    · exact GraphWrites.trans .of_parts (State.graphWrites_freeSlot _ _)
  · exact .refl s

theorem State.graphWrites_place (c : Nat) (e : Ready) : GraphWrites s (s.place c e) := by
  unfold State.place
  extract_lets k runs short s1 s2
  have h1 : GraphWrites s s1 := .of_parts
  have h2 : GraphWrites s1 s2 := by
    dsimp only [s2]
    split
    next g n hw =>
      split
      next gr hgr =>
        have hg : GraphWrites s1 (s1.setGraph g (some (gr.setNode n { gr.node n with phase := .placed k, cell := c }))) :=
          .setGraph_of_some hgr _
        exact hg.trans .of_parts
      next => exact .refl s1
    next => exact .refl s1
  split
  · exact (h1.trans h2).trans (s2.graphWrites_wakeSlot k)
  · exact h1.trans h2

theorem State.graphWrites_reclaimTo (c : Nat) : GraphWrites s (s.reclaimTo c) := by
  unfold State.reclaimTo
  split
  · split
    next k e hfind =>
      extract_lets s1
      have h1 : GraphWrites s s1 := by
        dsimp only [s1]
        split
        · exact .of_parts
        · exact .refl s
      exact ((h1.trans (s1.graphWrites_freeSlot k)).trans (.of_counted (State.counted_bump _ _))).trans (State.graphWrites_place _ _ _)
    next => exact .refl s
  · exact .refl s

end

/-! ### How a graph ends (R163, R217, R218) -/

section
variable {s : State} {g e n : Nat} {gr : Graph}

theorem State.graphWrites_unstall (s : State) (r : Reader) : GraphWrites s (s.unstall r) := .of_parts

theorem State.graph_of_counted {t : State} (h : Counted s t) (j : Nat) : t.graph j = s.graph j := by simp only [State.graph, h.graphs_eq]

/-- A graph that holds a pending entry gives it back; then its work leaves the lists, the slots and the stores, and the graph is gone. -/
theorem State.clearGraph_spec (hgr : s.graph g = some gr) (hpend : gr.pend = some e) :
    GraphWrites (s.unverify e) (s.clearGraph g) ∧ (s.clearGraph g).graph g = none := by
  unfold State.clearGraph
  extract_lets s0 s1 s2 d s3
  have h0 : s0 = s.unverify e := by simp only [s0, hgr, Option.bind_some, hpend]
  have h1 : GraphWrites s0 s1 := s0.graphWrites_dropReady _
  have h2 : GraphWrites s1 s2 := (foldl_keeps .refl .trans State.graphWrites_stopSlot _ s1).trans (State.graphWrites_unstall _ _)
  clear_value s2
  have h3 : GraphWrites s2 s3 := .of_parts
  have hbp : Counted (s3.setGraph g none) (s3.setGraph g none).refreshBp := State.counted_refreshBp _
  refine ⟨h0 ▸ ((h1.trans (h2.trans h3)).setGraph fun _ => rfl).trans (.of_counted hbp), ?_⟩
  rw [State.graph_of_counted hbp, State.graph_setGraph_same]

theorem State.restartsKept_setPend (s : State) (j : Nat) (p : Pend) : RestartsKept s (s.setPend j p) := ⟨fun _ _ => rfl, rfl, rfl⟩

theorem State.restartsKept_freePend (s : State) (e : Nat) : RestartsKept s (s.freePend e) := ⟨fun _ _ => rfl, rfl, rfl⟩

theorem State.restartsKept_unverify (s : State) (e : Nat) : RestartsKept s (s.unverify e) := by
  unfold State.unverify
  dsimp only
  split
  · split
    · exact s.restartsKept_setPend _ _
    split
    · exact (s.restartsKept_freePend e).trans ((State.counted_setF _ _ _).trans (State.counted_post _ _ _ _ _)).restartsKept
    · exact s.restartsKept_setPend _ _
  · exact ⟨fun _ _ => rfl, rfl, rfl⟩

/-- An entry that is not being verified stands as it is when a graph ends. -/
theorem State.unverify_of_ne (h : (s.pendE e).st ≠ 2) : s.unverify e = s := by
  simp [State.unverify, h]

/-- An entry whose verification ends without its quorum returns to PENDING within its life (R163). -/
theorem State.unverify_of_verifying (hst : (s.pendE e).st = 2) (hrej : (s.pendE e).rejecting = false)
    (hlife : s.cairn.opTime ≤ (s.pendE e).expiry) :
    s.unverify e = s.setPend e { s.pendE e with st := 1, graph := none, sig := none, aborting := false } := by
  have hin : ¬ (s.pendE e).expiry < s.cairn.opTime := by omega
  simp [State.unverify, hst, hrej, hin]

theorem State.graphWrites_dropCheck (s : State) (g : Nat) : GraphWrites s (s.dropCheck g) := by
  unfold State.dropCheck
  split
  · exact GraphWrites.trans .of_parts (State.graphWrites_setF _ _ _)
  · exact .refl s

theorem State.graph_dropCheck (s : State) (g j : Nat) : (s.dropCheck g).graph j = s.graph j := by
  unfold State.dropCheck
  split <;> rfl

/-- A graph that holds a pending entry and ends: it is gone, the meadows and ABORTs stay, and its entry is given back. -/
theorem State.finishGraph_spec (hgr : s.graph g = some gr) (hpend : gr.pend = some e) (status : Nat) (n : Option Nat) :
    (s.finishGraph g status n).graph g = none ∧ RestartsKept s (s.finishGraph g status n) ∧
      (s.finishGraph g status n).pends = ((s.dropCheck g).unverify e).pends := by
  unfold State.finishGraph
  simp only [hgr]
  have hkept : RestartsKept s ((s.dropCheck g).unverify e) := (s.graphWrites_dropCheck g).toRestartsKept.trans (State.restartsKept_unverify _ e)
  obtain ⟨hclear, hgone⟩ := State.clearGraph_spec ((s.graph_dropCheck g g).trans hgr) hpend
  have hafter (t : State) (h : GraphWrites ((s.dropCheck g).clearGraph g) t) :
      t.graph g = none ∧ RestartsKept s t ∧ t.pends = ((s.dropCheck g).unverify e).pends :=
    ⟨h.gone g hgone, hkept.trans (hclear.trans h).toRestartsKept, (hclear.trans h).pends⟩
  exact hafter _ (State.graphWrites_complete _ _ _ _ _ _)

theorem State.endGraph_spec (hgr : s.graph g = some gr) (hpend : gr.pend = some e) (status : Nat) (n : Option Nat) :
    (s.endGraph g status n).graph g = none ∧ RestartsKept s (s.endGraph g status n) := by
  obtain ⟨hgone, hkept, -⟩ := State.finishGraph_spec hgr hpend status n
  have hreclaim : GraphWrites (s.finishGraph g status n) (s.endGraph g status n) :=
    foldl_keeps .refl .trans (fun t k => t.graphWrites_reclaimTo (k / 2)) _ _
  exact ⟨hreclaim.gone g hgone, hkept.trans hreclaim.toRestartsKept⟩

/-! ### Placing the nodes of a graph (R162, R178, R213) -/

theorem State.graphWrites_enqueue (s : State) (die role : Nat) (r : Ready) (head : Bool) : GraphWrites s (s.enqueue die role r head) := by
  unfold State.enqueue
  dsimp only
  split <;> exact .of_parts

theorem State.graph_enqueue (s : State) (die role : Nat) (r : Ready) (head : Bool) (j : Nat) :
    (s.enqueue die role r head).graph j = s.graph j := by
  unfold State.enqueue
  dsimp only
  split <;> rfl

theorem State.graphWrites_makeReady (s : State) (g n : Nat) (head : Bool) : GraphWrites s (s.makeReady g n head) := by
  unfold State.makeReady
  split
  next gr hgr =>
    extract_lets r d x s1
    have h1 : GraphWrites s s1 := .setGraph_of_some hgr _
    exact (h1.trans (s1.graphWrites_enqueue _ _ _ _)).trans (.of_counted (State.counted_refreshBp _))
  next => exact .refl s

/-- A node put on its ready list changes nothing of its graph but that node. -/
theorem State.makeReady_graph (hgr : s.graph g = some gr) (n : Nat) (head : Bool) :
    ∃ x, (s.makeReady g n head).graph g = some (gr.setNode n x) := by
  refine ⟨{ gr.node n with phase := .ready (s.chooseDie (gr.tnode n).role gr.lastDie), verdict := none, status := none }, ?_⟩
  unfold State.makeReady
  simp only [hgr]
  rw [State.graph_of_counted (State.counted_refreshBp _), State.graph_enqueue, State.graph_setGraph_same]

/-- A verification is one more node of its graph (R162). -/
theorem State.addVerify_spec (hgr : s.graph g = some gr) : GraphWrites s (s.addVerify g) ∧
    ∃ gr', (s.addVerify g).graph g = some gr' ∧ gr'.committed = gr.committed ∧ gr'.nodes.length = gr.nodes.length + 1 := by
  unfold State.addVerify
  simp only [hgr]
  obtain ⟨x, hx⟩ := State.makeReady_graph (s.graph_setGraph_same g (some { gr with nodes := gr.nodes ++ [{}] })) gr.nodes.length false
  exact ⟨(GraphWrites.setGraph_of_some hgr _).trans (State.graphWrites_makeReady _ _ _ _), _, hx, rfl, by simp [Graph.setNode]⟩

/-- A reject of an ML-DSA-65 key waits for its signature in one more node of the graph, and changes nothing yet (R162). -/
theorem AtSink.gives_verifying {c : Instr} {op : Nat} {work : OpWork} (h : AtSink s op g gr n) (hk : NoKeys gr)
    (hexec : exec c s = .next (s.whenLive fun s => s.runOp op g work)) (hwork : work gr s = .verifying s)
    (hnodes : gr.nodes.length = gr.tpl.nodes.length) :
    Gives c s fun t => ∃ gr', t.graph g = some gr' ∧ gr'.committed = false ∧ gr'.nodes.length = gr.nodes.length + 1 ∧
      t.pends = s.pends ∧ t.root = s.root := by
  obtain ⟨hwrites, gr', hgr', hcom, hlen⟩ := State.addVerify_spec (s.graph_setGraph_same g (some gr))
  obtain ⟨-, -, -, -, -, -, hopen, -⟩ := id h
  exact ⟨_, h.exec_verifying hk hexec hwork hnodes, gr', hgr', hcom.trans hopen, hlen, hwrites.pends, hwrites.root⟩

/-- The state holds graph `g` with as many nodes as `gr` and its descriptor, and with no pending entry. -/
def State.HoldsPlaced (s : State) (g : Nat) (gr : Graph) : Prop :=
  ∃ gr', s.graph g = some gr' ∧ gr'.nodes.length = gr.nodes.length ∧ gr'.desc = gr.desc ∧ gr'.pend = none

theorem State.HoldsPlaced.makeReady (h : s.HoldsPlaced g gr) (n : Nat) : (s.makeReady g n false).HoldsPlaced g gr := by
  obtain ⟨gr', hgr', hnodes, hdesc, hpend⟩ := h
  obtain ⟨x, hx⟩ := State.makeReady_graph hgr' n false
  exact ⟨_, hx, List.length_set.trans hnodes, hdesc, hpend⟩

/-- The template's nodes are placed in the graph the descriptor holds (R163, R213). -/
theorem State.placeNodes_spec (hgr : s.graph g = some gr) : GraphWrites s (s.placeNodes g) ∧ (s.placeNodes g).HoldsPlaced g gr := by
  unfold State.placeNodes
  simp only [hgr]
  exact ⟨(GraphWrites.setGraph_of_some hgr _).trans (foldl_keeps .refl .trans (fun t n => t.graphWrites_makeReady g n false) _ _),
    foldl_keeps (R := fun t u : State => t.HoldsPlaced g gr → u.HoldsPlaced g gr) (fun _ => id) (fun h k => k ∘ h)
      (fun t n h => h.makeReady n) _ _ ⟨_, State.graph_setGraph_same _ _ _, rfl, rfl, rfl⟩⟩

/-! ### What waits for the end of graphs (R84, R211) -/

theorem State.pollRestarts_eq_self (haborts : s.hif.aborts = []) (hwaits : ∀ m < 8, s.restartWaits m = false) : s.pollRestarts = s := by
  have hpoll : s.pollAborts = s := by simp [State.pollAborts, haborts]
  unfold State.pollRestarts
  rw [hpoll]
  refine List.foldlRecOn (motive := (· = s)) _ _ rfl fun t ht m hm => ?_
  subst ht
  simp [hwaits m (List.mem_range.mp hm)]

theorem State.restartWaits_of_kept {t : State} (h : RestartsKept s t) {m : Nat} (hm : m < 8) : t.restartWaits m = s.restartWaits m := by
  simp only [State.restartWaits, h.mdw m hm, h.goal]

end

/-! ### The verification of a stored approval (R162, R163, R285) -/

/-- The signature of an approval passes: it verifies, and the hub's digest engines agreed within its retries (R285). -/
def State.sigPasses (s : State) (e mis : Nat) (a : Approval) : Bool :=
  verifyPure 0x50 (s.approvalKey (s.pendE e) a) [] a.msg a.sig && decide (mis < 2)

/-- An entry after a signature: its approval marked, or discarded (R163). -/
def Pend.judged (p : Pend) (a : Approval) (passed : Bool) : Pend :=
  if passed then { p with sig := none, verified := setBit p.verified a.slot }
  else { p with sig := none, approvals := p.approvals.filter (fun x => x.slot != a.slot) }

@[simp] theorem Pend.judged_graph (p : Pend) (a : Approval) (passed : Bool) : (p.judged a passed).graph = p.graph := by
  cases passed <;> rfl

@[simp] theorem Pend.judged_st (p : Pend) (a : Approval) (passed : Bool) : (p.judged a passed).st = p.st := by
  cases passed <;> rfl

@[simp] theorem Pend.judged_sig (p : Pend) (a : Approval) (passed : Bool) : (p.judged a passed).sig = none := by
  cases passed <;> rfl

/-- `t` is `s` with the entry `p` at `e`, as far as what follows a signature looks at the state. -/
structure State.EntryIs (s : State) (e : Nat) (p : Pend) (t : State) : Prop where
  entry : t.pendE e = p
  others : ∀ j, j ≠ e → t.pendE j = s.pendE j
  graph : ∀ g, t.graph g = s.graph g
  root : t.root = s.root
  lc : t.lc = s.lc
  opTime : t.cairn.opTime = s.cairn.opTime
  kept : RestartsKept s t

/-- The mismatches of the hub's digest engines are counted and recorded (R285). -/
def State.mismatches (s : State) (mis : Nat) : State := (List.replicate mis ()).foldl (fun (s : State) _ => s.noteMismatch) s

theorem State.counted_mismatches (s : State) (mis : Nat) : Counted s (s.mismatches mis) :=
  foldl_keeps .refl .trans (fun t _ => t.counted_noteMismatch) _ s

section
variable {s t u : State} {e g mis : Nat} {p p' : Pend} {a : Approval} {gr : Graph}

theorem State.EntryIs.of_counted (h : Counted s t) : s.EntryIs e (s.pendE e) t where
  entry := by simp only [State.pendE, h.pends_eq]
  others j _ := by simp only [State.pendE, h.pends_eq]
  graph := State.graph_of_counted h
  root := h.root_eq
  lc := h.lc_eq
  opTime := h.opTime
  kept := h.restartsKept

theorem State.EntryIs.counted (h : s.EntryIs e p t) (k : Counted t u) : s.EntryIs e p u where
  entry := (State.EntryIs.of_counted k).entry.trans h.entry
  others j hj := by rw [← h.others j hj]; simp only [State.pendE, k.pends_eq]
  graph j := (State.graph_of_counted k j).trans (h.graph j)
  root := k.root_eq.trans h.root
  lc := k.lc_eq.trans h.lc
  opTime := k.opTime.trans h.opTime
  kept := h.kept.trans k.restartsKept

theorem State.EntryIs.setPend (h : s.EntryIs e p t) : s.EntryIs e p' (t.setPend e p') where
  entry := State.pendE_setPend_same t e p'
  others j hj := (State.pendE_setPend t e j p').trans ((if_neg hj.symm).trans (h.others j hj))
  graph := h.graph
  root := h.root
  lc := h.lc
  opTime := h.opTime
  kept := h.kept.trans (t.restartsKept_setPend e p')

theorem State.EntryIs.quorumMet (h : s.EntryIs e p t) (x : Pend) : t.quorumMet x = s.quorumMet x := by
  have hk : t.kEff x.cls = s.kEff x.cls := by simp only [State.kEff, State.cls_congr h.root, h.lc]
  unfold State.quorumMet
  rw [hk]

/-- A signature that fails is counted, and its approval discarded (R163). -/
theorem State.badSig_spec (h : s.EntryIs e p t) (a : Approval) :
    s.EntryIs e { p with approvals := p.approvals.filter (fun x => x.slot != a.slot) } (t.badSig e a) ∧
      (t.badSig e a).getF Reg.CUS_EVENT_BAD_SIG = 1 := by
  unfold State.badSig
  rw [h.entry]
  refine ⟨h.setPend.counted (((State.counted_bump _ _).trans (State.counted_setF _ _ _)).trans (State.counted_post _ _ _ _ _)), ?_⟩
  rw [State.post_getF _ _ _ _ _ (by decide), State.getF_setF_same]
  rfl

/-- A signature the hub verified, of a verdict that stands: it marks its approval or discards it, and the entry goes on (R163, R285). -/
theorem State.verifyNext_of_hub (mis : Nat) (hgraph : (s.pendE e).graph = some g) (hsig : (s.pendE e).sig = some a) (halg : a.alg = 1)
    (hheld : ∃ x ∈ (s.pendE e).approvals, x.slot = a.slot) :
    s.verifyNext e mis =
      if s.sigPasses e mis a then
        (((s.mismatches mis).setPend e { s.pendE e with sig := none }).setPend e ((s.pendE e).judged a true)).afterVerify e
      else (((s.mismatches mis).setPend e { s.pendE e with sig := none }).badSig e a).afterVerify e := by
  have hany : (s.pendE e).approvals.any (fun x => x.slot == a.slot) = true := by simpa using hheld
  unfold State.verifyNext State.sigPasses State.mismatches
  simp [hgraph, hsig, halg, hany, Pend.judged, cusSet]

/-- The state in which the entry goes on after a signature. -/
theorem State.verifyNext_spec (mis : Nat) (hgraph : (s.pendE e).graph = some g) (hsig : (s.pendE e).sig = some a) (halg : a.alg = 1)
    (hheld : ∃ x ∈ (s.pendE e).approvals, x.slot = a.slot) :
    ∃ t, s.verifyNext e mis = t.afterVerify e ∧ s.EntryIs e ((s.pendE e).judged a (s.sigPasses e mis a)) t ∧
      (s.sigPasses e mis a = true → mis = 0 → t = { s with pends := t.pends }) ∧
      (s.sigPasses e mis a = false → t.getF Reg.CUS_EVENT_BAD_SIG = 1) := by
  rw [State.verifyNext_of_hub mis hgraph hsig halg hheld]
  have hdone : s.EntryIs e { s.pendE e with sig := none } ((s.mismatches mis).setPend e { s.pendE e with sig := none }) :=
    (State.EntryIs.of_counted (s.counted_mismatches mis)).setPend
  cases hpass : s.sigPasses e mis a with
  | true => exact ⟨_, rfl, hdone.setPend, fun _ hmis => by subst hmis; rfl, fun h => absurd h (by simp)⟩
  | false =>
    obtain ⟨hentry, hbad⟩ := State.badSig_spec hdone a
    exact ⟨_, rfl, hentry, fun h => absurd h (by simp), fun _ => hbad⟩

/-- What follows a signature of an entry whose graph stands (R163, R218). -/
theorem State.afterVerify_of_graph (hgraph : (t.pendE e).graph = some g) (hgr : t.graph g = some gr) : t.afterVerify e =
    if (t.pendE e).aborting then t.endGraph g St.aborted none
    else if t.quorumMet (t.pendE e) then ((t.freePend e).post 0xD002 e (t.pendE e).opcode (t.pendE e).cls).placeNodes g
    else if (t.pendE e).rejecting then (t.freePend e).finishGraph g St.quorumRejected none
    else if (t.pendE e).exhausted then (t.clearGraph g).completeRecord gr.qid gr.desc (t.pendE e).record
    else t.nextSig e := by
  unfold State.afterVerify
  simp only [hgraph, hgr]

/-- The next signature of an SLH-DSA-SHA2-128s key is the hub's: only the entry changes (R162). -/
theorem State.nextSig_of_hub (hgraph : (t.pendE e).graph = some g) (hnext : (t.pendE e).nextApproval = some a) (halg : a.alg = 1) :
    t.nextSig e = t.setPend e { t.pendE e with sig := some a } := by
  unfold State.nextSig
  simp [hgraph, hnext, halg]

theorem exec_approvalVerifyComplete (hlive : s.live = true) : exec (.approvalVerifyComplete e mis) s = .next (s.verifyNext e mis).pollRestarts := by
  have h : exec (.approvalVerifyComplete e mis) s = .next (s.whenLive (fun s => (s.verifyNext e mis).pollRestarts)) := rfl
  rw [h, State.whenLive, if_pos hlive]

end

/-! ### What follows a signature (R163, R218) -/

/-- The graph `g` of a resubmission verifies the entry `e`, which stands as `p` (R163). -/
structure State.Verifies (t : State) (e g : Nat) (gr : Graph) (p : Pend) : Prop where
  entry : t.pendE e = p
  pgraph : p.graph = some g
  graph : t.graph g = some gr
  pend : gr.pend = some e

section
variable {t : State} {e g : Nat} {gr : Graph} {p : Pend} (h : t.Verifies e g gr p)
include h

theorem State.Verifies.afterVerify : t.afterVerify e =
    if p.aborting then t.endGraph g St.aborted none
    else if t.quorumMet p then ((t.freePend e).post 0xD002 e p.opcode p.cls).placeNodes g
    else if p.rejecting then (t.freePend e).finishGraph g St.quorumRejected none
    else if p.exhausted then (t.clearGraph g).completeRecord gr.qid gr.desc p.record
    else t.nextSig e := by
  obtain ⟨rfl, hpg, hgr, -⟩ := h
  exact State.afterVerify_of_graph hpg hgr

/-- An aborted resubmission ends with its graph (R218). -/
theorem State.Verifies.aborted (habort : p.aborting = true) :
    (t.afterVerify e).graph g = none ∧ RestartsKept t (t.afterVerify e) := by
  rw [h.afterVerify, if_pos habort]
  exact State.endGraph_spec h.graph h.pend _ _

section
variable (habort : p.aborting = false)
include habort

/-- The quorum frees the entry and places the nodes (R163). -/
theorem State.Verifies.met (hmet : t.quorumMet p = true) :
    (t.afterVerify e).pendE e = {} ∧ (t.afterVerify e).HoldsPlaced g gr ∧ RestartsKept t (t.afterVerify e) := by
  rw [h.afterVerify, if_neg (by simp [habort]), if_pos hmet]
  have hpost := (t.freePend e).counted_post 0xD002 e p.opcode p.cls
  obtain ⟨hwrites, hplaced⟩ := State.placeNodes_spec ((State.graph_of_counted hpost g).trans h.graph)
  refine ⟨?_, hplaced, ((t.restartsKept_freePend e).trans hpost.restartsKept).trans hwrites.toRestartsKept⟩
  simp only [State.pendE, hwrites.pends, State.post_pends]
  exact t.pendE_freePend_same e

section
variable (hunmet : t.quorumMet p = false)
include hunmet

/-- A rejected entry is freed, and its graph ends (R163). -/
theorem State.Verifies.rejected (hrej : p.rejecting = true) :
    (t.afterVerify e).pendE e = {} ∧ (t.afterVerify e).graph g = none ∧ RestartsKept t (t.afterVerify e) := by
  rw [h.afterVerify, if_neg (by simp [habort]), if_neg (by simp [hunmet]), if_pos hrej]
  obtain ⟨hgone, hkept, hpends⟩ := State.finishGraph_spec (s := t.freePend e) h.graph h.pend St.quorumRejected none
  have hfree : ((t.freePend e).dropCheck g).pendE e = {} := by
    simp only [State.pendE, (State.graphWrites_dropCheck _ g).pends]
    exact t.pendE_freePend_same e
  rw [State.unverify_of_ne (by simp [hfree])] at hpends
  exact ⟨by simp only [State.pendE, hpends]; exact hfree, hgone, (t.restartsKept_freePend e).trans hkept⟩

variable (hrej : p.rejecting = false)
include hrej

/-- Without another approval to verify the entry returns to PENDING within its life, and the graph ends (R163). -/
theorem State.Verifies.exhausted (hex : p.exhausted = true) (hst : p.st = 2) (hsig : p.sig = none)
    (hlife : t.cairn.opTime ≤ p.expiry) :
    (t.afterVerify e).graph g = none ∧ (t.afterVerify e).pendE e = { p with st := 1, graph := none } ∧
      RestartsKept t (t.afterVerify e) := by
  rw [h.afterVerify, if_neg (by simp [habort]), if_neg (by simp [hunmet]), if_neg (by simp [hrej]), if_pos hex]
  obtain ⟨hclear, hgone⟩ := State.clearGraph_spec h.graph h.pend
  have hcpl := (t.clearGraph g).graphWrites_completeRecord gr.qid gr.desc p.record
  have hpend : t.unverify e = t.setPend e { p with st := 1, graph := none } := by
    obtain ⟨rfl, -⟩ := h
    rw [State.unverify_of_verifying hst hrej hlife]
    simp only [hsig, habort]
  have hkept : RestartsKept t (t.unverify e) := t.restartsKept_unverify e
  refine ⟨hcpl.gone g hgone, ?_, hkept.trans (hclear.trans hcpl).toRestartsKept⟩
  simp only [State.pendE, (hclear.trans hcpl).pends, hpend]
  exact State.pendE_setPend_same t e _

/-- Otherwise the next signature is verified (R163). -/
theorem State.Verifies.next {a : Approval} (hex : p.exhausted = false) (hnext : p.nextApproval = some a) (halg : a.alg = 1) :
    t.afterVerify e = t.setPend e { p with sig := some a } := by
  rw [h.afterVerify, if_neg (by simp [habort]), if_neg (by simp [hunmet]), if_neg (by simp [hrej]), if_neg (by simp [hex])]
  obtain ⟨rfl, hpg, -⟩ := h
  exact State.nextSig_of_hub hpg hnext halg

end

end

end

/-- The event of a verification, where what follows it leaves nothing that waits for the end of graphs. -/
theorem gives_afterVerify {s t : State} {e mis : Nat} {P : State → Prop} (hlive : s.live = true) (haborts : s.hif.aborts = [])
    (hwaits : ∀ m, s.restartWaits m = false) (hnext : s.verifyNext e mis = t.afterVerify e) (ht : RestartsKept s t)
    (hafter : RestartsKept t (t.afterVerify e)) (hP : P (t.afterVerify e)) : Gives (.approvalVerifyComplete e mis) s P := by
  have hkept := ht.trans hafter
  have hpoll : (t.afterVerify e).pollRestarts = t.afterVerify e :=
    State.pollRestarts_eq_self (hkept.aborts.trans haborts) fun m hm => (State.restartWaits_of_kept hkept hm).trans (hwaits m)
  exact ⟨_, exec_approvalVerifyComplete hlive, by rwa [hnext, hpoll]⟩

/-! ### The end of an entry's life (R159, R168) -/

section
variable {s : State} {e : Nat}

theorem exec_pendingEntryExpire (hlive : s.live = true) : exec (.pendingEntryExpire e) s = .next (s.expirePend e) := by
  have h : exec (.pendingEntryExpire e) s = .next (s.whenLive (fun s => s.expirePend e)) := rfl
  rw [h, State.whenLive, if_pos hlive]

theorem State.expirePend_of_lapsed (hst : (s.pendE e).st = 1 ∨ (s.pendE e).st = 3) (h : (s.pendE e).expiry < s.cairn.opTime) :
    s.expirePend e = s.lapsePend e := by
  rcases hst with hst | hst <;> simp [State.expirePend, hst, h]

theorem State.expirePend_eq_self (h : (s.pendE e).st = 0 ∨ (s.pendE e).st = 2 ∨ s.cairn.opTime ≤ (s.pendE e).expiry) :
    s.expirePend e = s := by
  rcases h with h | h | h
  · simp [State.expirePend, h]
  · simp [State.expirePend, h]
  · have hin : ¬ (s.pendE e).expiry < s.cairn.opTime := by omega
    simp [State.expirePend, hin]

/-- An entry that lapses is freed and reported; the others and the root store stay (R159). -/
theorem State.lapsePend_spec (s : State) (e : Nat) : (s.lapsePend e).pendE e = {} ∧ (s.lapsePend e).root = s.root ∧
    (s.lapsePend e).getF Reg.CUS_EVENT_EXPIRED = 1 ∧ ∀ j, j ≠ e → (s.lapsePend e).pendE j = s.pendE j := by
  have hcount : Counted (s.freePend e) (s.lapsePend e) := (State.counted_setF _ _ _).trans (State.counted_post _ _ _ _ _)
  have hpend (j : Nat) : (s.lapsePend e).pendE j = (s.freePend e).pendE j := by simp only [State.pendE, hcount.pends_eq]
  refine ⟨(hpend e).trans (s.pendE_freePend_same e), hcount.root_eq, ?_, fun j hj => (hpend j).trans (s.pendE_freePend_ne hj)⟩
  rw [State.lapsePend, State.post_getF _ _ _ _ _ (by decide), State.getF_setF_same]
  rfl

end

/-! ### The obligation -/

/-- Settles O33, command by command and event by event: each by what its work answers in its case, or by what follows a signature. -/
theorem custodianCommands : Obligations.CustodianCommands := by
  unfold Obligations.CustodianCommands
  intro s g n gr hk b
  subst b
  refine ⟨fun slot alg h hmagic hs hslot ha halg hlen hres hverdict => ?_,
    fun h hlen => ⟨fun hnone => ?_, fun e he hst => ?_, fun e he hst => ?_⟩,
    fun slot alg h hs ha hslot halg hlen hres => ⟨fun hst => ?_, fun hst => ?_⟩, fun slot h hs hlen hslot hres hst => ?_,
    fun c k mem h hc hthr hmem hlen hcls hres => ?_, fun slot h hs hlen hslot hres hout => ?_,
    fun e a mis hlive hwaits haborts hst hsig halg hheld hgraph hgr hpend => ?_, fun e hlive hst => ⟨fun hlt => ?_, fun hle => ?_⟩,
    fun e hlive hst => ?_⟩
  · subst hs ha
    have hf : ApprovalForm gr.inp := ⟨hmagic, hslot, hverdict, halg, hres, hlen⟩
    refine ⟨fun hnone => h.ends hk rfl (cusLodge_of_unknown hf hnone) rfl, fun e he => ?_⟩
    intro p allowed held good
    subst p
    refine ⟨fun hst => h.ends hk rfl (cusLodge_of_rejected hf he hst) rfl, fun hst => ?_⟩
    have hne : (s.pendE e).st ≠ 3 := by omega
    refine ⟨fun hno => h.ends hk rfl (cusLodge_of_not_allowed hf he hne hno) rfl, fun hall hheld => ?_, fun hall hnone hv => ?_,
      fun hall hnone hv halg2 hver hnodes => ?_, fun hall hnone hv hready => ⟨fun hbad => ?_, fun hgood => ?_⟩⟩
    · exact h.ends hk rfl (cusLodge_of_duplicate hf he hne hall hheld) rfl
    · exact ⟨_, h.commits hk rfl (cusLodge_of_approve hf he hne hall hnone hv), rfl, s.pendE_setPend_same e _,
        fun j hj => (s.pendE_setPend e j _).trans (if_neg hj.symm)⟩
    · exact h.gives_verifying hk rfl (cusLodge_of_unverified hf he hne hall hnone hv halg2 hver) hnodes
    · have hw := cusLodge_of_reject hf he hne hall hnone hv hready
      exact ⟨_, h.ends hk rfl (hw.trans (if_neg (by simpa [good] using hbad))) rfl, s.badReject_spec⟩
    · have hw := cusLodge_of_reject hf he hne hall hnone hv hready
      exact ⟨_, h.commits hk rfl (hw.trans (if_pos hgood)), s.storeReject_root e _, s.storeReject_spec e _ hst⟩
  · exact h.ends hk rfl (cusCancel_of_unknown hlen hnone) rfl
  · exact h.ends hk rfl (cusCancel_of_verifying hlen he hst) rfl
  · exact ⟨_, h.commits hk rfl (cusCancel_of_entry hlen he hst), s.pendE_freePend_same e, fun j hj => s.pendE_freePend_ne hj, rfl⟩
  · subst hs ha
    exact h.ends hk rfl ((cusEnrol_of_form hslot halg hlen hres).trans (if_pos hst)) rfl
  · subst hs ha
    exact ⟨_, _, h.commits hk rfl ((cusEnrol_of_form hslot halg hlen hres).trans (if_neg hst)), rfl, rfl, s.cus_setCus_same _ _,
      fun j hj => (s.cus_setCus _ j _).trans (if_neg hj.symm), fun _ => rfl⟩
  · subst hs
    intro left
    refine ⟨fun ⟨c, hc, hshort⟩ => h.ends hk rfl (cusRevoke_of_short hlen hres hst hc hshort) rfl, fun henough =>
      ⟨_, h.commits hk rfl (cusRevoke_of_enough hlen hres hst hslot henough), ?_, fun j hj => ?_, fun c hc => ?_, fun e he hst => ?_⟩⟩
    · simp [State.cus_revokeSlot]
    · simp [State.cus_revokeSlot, hj.symm]
    · simp [State.cls_revokeSlot _ _ hc, CusClass.drop, bit_clrBit_same]
    · simp [State.pendE_revokeSlot _ _ he, hst, Pend.drop, bit_clrBit_same]
  · subst hc hthr hmem
    have hw := cusSetClass_of_form (s := s) hlen hcls hres
    refine ⟨fun hbad => h.ends hk rfl (hw.trans (if_pos hbad)) rfl, fun hin hk0 hkn hprod => ?_⟩
    rw [if_neg (by simpa only [not_or, not_and, not_lt, ne_eq, not_not] using ⟨hin, hk0, hkn, hprod⟩)] at hw
    refine ⟨_, h.commits hk rfl hw, ?_, fun j hj => ?_, ?_, fun e he hcls => ⟨fun hst => ?_, fun hst => ?_⟩⟩
    · simp [State.cls_replaceClass]
    · simp [State.cls_replaceClass, hj.symm]
    · rw [State.post_getF _ _ _ _ _ (by decide), State.getF_setF_same]
      rfl
    · simp [State.pendE_replaceClass _ _ _ he hcls (.inl hst), Pend.rejected, hst]
    · simp [State.pendE_replaceClass _ _ _ he hcls (.inr hst), Pend.rejected, hst]
  · subst hs
    exact h.commits hk rfl (cusReadSlot_of_form hlen hslot hres) (by simp [le, zeros]; omega)
  · intro passed p
    obtain ⟨t, hnext, hentry, hclean, hbadSig⟩ := State.verifyNext_spec mis hgraph hsig halg hheld
    have ht : t.Verifies e g gr p :=
      ⟨hentry.entry, (Pend.judged_graph _ _ _).trans hgraph, (hentry.graph g).trans hgr, hpend⟩
    have hgives {P : State → Prop} := gives_afterVerify (P := P) hlive haborts hwaits hnext hentry.kept
    refine ⟨fun hab => ?_, fun hab hmet => ?_, fun hab hun hrej => ?_, fun hab hun hrej hex hlife => ?_,
      fun a' hab hun hrej hex hnextA halg' => ?_⟩
    · obtain ⟨hgone, hkept⟩ := ht.aborted hab
      exact hgives hkept hgone
    · obtain ⟨hfree, hplaced, hkept⟩ := ht.met hab ((hentry.quorumMet p).trans hmet)
      exact hgives hkept ⟨hfree, hplaced⟩
    · obtain ⟨hfree, hgone, hkept⟩ := ht.rejected hab ((hentry.quorumMet p).trans hun) hrej
      exact hgives hkept ⟨hfree, hgone⟩
    · obtain ⟨hgone, hback, hkept⟩ := ht.exhausted hab ((hentry.quorumMet p).trans hun) hrej hex ((Pend.judged_st _ _ _).trans hst)
        (Pend.judged_sig _ _ _) (hentry.opTime ▸ hlife)
      exact hgives hkept ⟨hgone, hback⟩
    · have hafter := ht.next hab ((hentry.quorumMet p).trans hun) hrej hex hnextA halg'
      have hlast := hentry.setPend (p' := { p with sig := some a' })
      refine hgives ?_ ?_ <;> rw [hafter]
      · exact t.restartsKept_setPend e _
      · refine ⟨hlast.entry, hlast.others, (hlast.graph g).trans hgr, hlast.root, fun hp hm => ?_, hbadSig⟩
        rw [hclean hp hm]
        rfl
  · exact ⟨_, (exec_pendingEntryExpire hlive).trans (congrArg _ (State.expirePend_of_lapsed hst hlt)), s.lapsePend_spec e⟩
  · exact ⟨_, exec_pendingEntryExpire hlive, State.expirePend_eq_self (.inr (.inr hle))⟩
  · exact ⟨_, exec_pendingEntryExpire hlive, State.expirePend_eq_self (hst.imp_right .inl)⟩

end Sys2Proof.Machine
